-- ==== Sys2Proof/Word.lean ====
section
/-! DEFINITION. The word and byte types of the LB7192 block model (chapter "Stolya LB7192 at a glance", R2: BAR0
registers are 32 bits wide). -/

namespace Sys2Proof

/-- A BAR0 register, or any other 32-bit word the manual numbers by bits (R2). -/
abbrev Word := BitVec 32

/-- One byte of SRAM, DRAM or host memory. -/
abbrev Byte := BitVec 8

end Sys2Proof
end

