-- ==== Sys2Proof/Syntax.lean ====
section
/-! DEFINITION. The commands of the LB7192 block: one constructor per row of spec/opcode_table.json, in the table's order.
A command that comes from outside at an instant of its own carries `ns`, the nanoseconds from the start of the present tick; `unit` is
a unit number of Table 16-2. -/

namespace Sys2Proof

/-- A command of the block. -/
inductive Instr where
  /-- REGISTER_WRITE (R5): A BAR0 write to a register that has no row of its own acts on its fields according to their access codes. -/
  | registerWrite (off : Nat) (ws : List Word) (ns : Nat)
  /-- W1C_STATUS_CLEAR (R7): Writing 1 to a W1C status bit clears it, unless a hardware set falls in the same cycle. -/
  | w1cStatusClear (off : Nat) (v : Word) (ns : Nat)
  /-- RC_COUNTER_READ (R8): Reading an RC counter returns its value and clears it to 0. -/
  | rcCounterRead (off : Nat)
  /-- LOW_WORD_READ_LATCH (R10): Reading the low word of a 48-bit or 96-bit value latches the upper part for the following reads. -/
  | lowWordReadLatch (off : Nat) (words : Nat) (ns : Nat)
  /-- TICK_BOUNDARY (R17): CD_TIME hardware begins a new 500 ns tick at each exact multiple of 500 ns of device time. -/
  | tickBoundary
  /-- INTENT_DEADLINE (R126): When a tick intent is not complete by start(k) - 650 ns, the tick becomes a stall tick. -/
  | intentDeadline
  /-- SWITCHBACK_STOP_END (R152): The Stop phase of a PATH Switchback ends after Td ticks at the stop point Q. -/
  | switchbackStopEnd (unit : Nat)
  /-- SWITCHBACK_WAIT_END (R152): The Wait phase ends once the next instruction is ready, and the Back jump starts. -/
  | switchbackWaitEnd (unit : Nat)
  /-- SWITCHBACK_BACK_END (R152): The back jump reaches P_b and the Approach phase begins. -/
  | switchbackBackEnd (unit : Nat)
  /-- SWITCHBACK_APPROACH_END (R152): The approach reaches P_s at speed and the next motion joins. -/
  | switchbackApproachEnd (unit : Nat)
  /-- TICK_FRAME_LAUNCH (R227): At T_act the lane launches H0 and H1 of the downstream tick frame with its LEAD. -/
  | tickFrameLaunch (n : Nat) (lead : Nat) (late : Bool) (ns : Nat)
  /-- GATE_BLOCK_LAUNCH (R226): Each gate block Gj leaves at its paced time D_j. -/
  | gateBlockLaunch (n : Nat) (j : Nat) (late : Bool) (bad : List (Nat × Nat)) (tie : List Nat) (ns : Nat)
  /-- UPSTREAM_FRAME_RECEIVE (R235): An upstream tick frame U0/U1 is received, checked and its confirmation, counters and samples taken. -/
  | upstreamFrameReceive (n : Nat) (ok : Bool) (k : Nat) (app : Bool) (fault : Bool) (frmErr : Bool) (miss : Nat) (turn : Nat) (ex : Int) (ey : Int) (ez : Int) (iv : List (Nat × Nat)) (t4 : Int) (ns : Nat)
  /-- UPSTREAM_FRAME_DEADLINE (R235): An upstream frame missing or invalid at its deadline increments LNn_UP_MISS. -/
  | upstreamFrameDeadline (n : Nat) (ns : Nat)
  /-- BAR2_WRITE (R28): A BAR2 write is applied byte by byte according to the access rules of the SRAM regions it touches. -/
  | bar2Write (a : Nat) (bs : List Byte) (ns : Nat)
  /-- BAR4_WRITE (R61): A BAR4 write reaches DRAM through the aperture, subject to the region and frame buffer rules. -/
  | bar4Write (x : Nat) (bs : List Byte) (ns : Nat)
  /-- DRAM_COMMIT (R30): Writing GLB_DRAM_COMMIT.GO checks the DRAM region shadow set and makes it live if it passes. -/
  | dramCommit (v : Word)
  /-- IRQ_ENABLE_WRITE (R32): Writing GLB_IRQ_EN sends the vector of a newly enabled source whose bit reads 1. -/
  | irqEnableWrite (v : Word)
  /-- ILK_INPUT_EDGE (R37): An edge on an ILK input starts the filter that judges the new level. -/
  | ilkInputEdge (i : Nat) (high : Bool) (ns : Nat)
  /-- ILK_TRIP_CONFIRMED (R37): An in-use input tripped for longer than FILT x 20 ns starts force-zero and acts according to its class. -/
  | ilkTripConfirmed (i : Nat) (ns : Nat)
  /-- ILK_HEALTHY_CONFIRMED (R37): An input held healthy for longer than the filter time changes GLB_ILK_STAT.LEVEL back to healthy. -/
  | ilkHealthyConfirmed (i : Nat) (ns : Nat)
  /-- ILK_REARM_EXPIRY (R42): An input healthy for (REARM + 1) us ends its unlatched force-zero and may leave HOLD automatically. -/
  | ilkRearmExpiry (i : Nat) (ns : Nat)
  /-- RELAY_FEEDBACK_EDGE (R40): A change of EMIT_FB_N starts or ends a disagreement with EMIT_EN_N. -/
  | relayFeedbackEdge (high : Bool) (ns : Nat)
  /-- RELAY_MISMATCH (R40): A disagreement lasting longer than (FB_TMO + 1) ms enters SAFE with cause RELAY. -/
  | relayMismatch (ns : Nat)
  /-- ARM (R46): The ARM operation latches the interlock configuration, checks its conditions and moves IDLE to ARMED. -/
  | arm
  /-- DISARM (R46): The DISARM operation moves ARMED to IDLE. -/
  | disarm
  /-- START (R46): The START operation checks the pool and interlocks and moves ARMED to EXPOSE or DEGRADED. -/
  | start
  /-- PAUSE (R49): The PAUSE operation stops each head at the end of its vector and leads to HOLD. -/
  | pause
  /-- PAUSE_COMPLETE (R49): When the last head stops, the mode becomes HOLD and PENDING clears. -/
  | pauseComplete
  /-- PAUSE_TIMEOUT (R49): At the pause timeout, heads still in a vector stop at the first uncomputed tick and the mode becomes HOLD. -/
  | pauseTimeout (ns : Nat)
  /-- RESUME (R46): The RESUME operation moves HOLD to EXPOSE or DEGRADED when no force-zero remains. -/
  | resume
  /-- ABORT (R46): The ABORT operation closes unfinished tiles as aborted and returns the run to ARMED. -/
  | abort
  /-- ENTER_SERVICE (R46): The ENTER_SERVICE operation moves IDLE to SERVICE. -/
  | enterService
  /-- LEAVE_SERVICE (R46): The LEAVE_SERVICE operation moves SERVICE to IDLE when no calibration tile runs. -/
  | leaveService
  /-- ENTER_SAFE (R46): The ENTER_SAFE operation moves the device to SAFE from any mode except BOOT and SAFE. -/
  | enterSafe
  /-- CLEAR_SAFE (R52): The CLEAR_SAFE operation moves SAFE to IDLE when inputs are healthy, no fatal fault is pending and the relay is open. -/
  | clearSafe
  /-- MODE_REQ_INVALID_OP (R47): A GLB_MODE_REQ.OP value of 11 to 15 has no effect and returns BAD_PARAM. -/
  | modeReqInvalidOp (op : Nat)
  /-- RUN_COMPLETE (R168): When every tile is final and no head holds a tile, the device returns to ARMED. -/
  | runComplete
  /-- PCIE_LINK_RESET (R58): A PCIe link-down, hot reset, FLR or PERST_N resets HQ's host-facing state and increments the HQ epoch. -/
  | pcieLinkReset (ns : Nat)
  /-- QUEUE_ENABLE (R62): Writing HQn_CFG.EN = 1 checks the queue configuration and enables the queue. -/
  | queueEnable (q : Nat) (v : Word)
  /-- QUEUE_DISABLE (R66): Writing HQn_CFG.EN = 0 stops fetching from the queue at once. -/
  | queueDisable (q : Nat) (v : Word)
  /-- QUEUE_DRAIN_COMPLETE (R66): When every fetched command of a disabled queue has ended, ACTIVE clears and the pointers reset. -/
  | queueDrainComplete (q : Nat)
  /-- SQ_TAIL_DOORBELL (R63): A write to HQn_SQ_TAIL posts descriptors for fetching, or is refused with DB_ERR. -/
  | sqTailDoorbell (q : Nat) (v : Word) (ns : Nat)
  /-- CQ_HEAD_DOORBELL (R63): A write to HQn_CQ_HEAD releases completion entries, or is refused with DB_ERR. -/
  | cqHeadDoorbell (q : Nat) (v : Word) (ns : Nat)
  /-- DESCRIPTOR_FETCH (R64): HQ fetches a descriptor once a completion slot, an in-flight place and the journal slot are free. -/
  | descriptorFetch (ns : Nat)
  /-- COMMAND_START (R74): An accepted command starts once FENCE and BARRIER allow it. -/
  | commandStart (n : Nat) (ns : Nat)
  /-- TIMED_COMMAND_START (R75): A TIMED command other than COMMIT starts at the first cycle at or after AT. -/
  | timedCommandStart (n : Nat) (ns : Nat)
  /-- NOP (R68): The NOP command completes with RESULT 0; the NOP instruction does nothing. -/
  | nop (unit : Nat) (n : Nat)
  /-- MODE (R46): The MODE command performs a mode operation with the same checks as GLB_MODE_REQ. -/
  | mode (n : Nat)
  /-- COMMIT (R78): The COMMIT command checks every shadow set in its mask and makes them live together or not at all. -/
  | commit (n : Nat)
  /-- COMMIT_GO_LIVE (R77): A checked snapshot becomes live at the first tick boundary at which it is ready. -/
  | commitGoLive (i : Nat)
  /-- WRITE_REGS (R70): WRITE_REGS applies a list of BAR0 writes in order, as host writes. -/
  | writeRegs (n : Nat)
  /-- READ_REGS (R70): READ_REGS reads a list of BAR0 offsets into host memory. -/
  | readRegs (n : Nat)
  /-- LOAD_PROGRAM (R413): LOAD_PROGRAM expands an SBC stream into program pages or a staging slot. -/
  | loadProgram (n : Nat)
  /-- LOAD_TILES (R161): LOAD_TILES expands and checks tile descriptors into the live table or a staging slot. -/
  | loadTiles (n : Nat)
  /-- LOAD_TABLE (R216): LOAD_TABLE writes a table image, a control table, a correction table or a token of the given kind. -/
  | loadTable (n : Nat)
  /-- COMMIT_LAYER (R165): COMMIT_LAYER checks a layer image, copies it from staging if needed and makes set 1 live. -/
  | commitLayer (n : Nat)
  /-- STAGING_COPY_COMPLETE (R165): The copy of a staged layer into SRAM ends and set 1 goes live at the next tick boundary. -/
  | stagingCopyComplete
  /-- WAYMARK_LOAD (R323): WAYMARK_LOAD writes waymark entries and judges each newly pending entry. -/
  | waymarkLoad (n : Nat)
  /-- PRODUCT_PUSH (R328): PRODUCT_PUSH queues product records into the tracking ring. -/
  | productPush (n : Nat)
  /-- MEDIUM (R333): MEDIUM sends one CMD message to a medium node and ends when the reply arrives. -/
  | medium (n : Nat)
  /-- TIME_STEP (R373): TIME_STEP steps device time by a signed offset at the next tick boundary. -/
  | timeStep (n : Nat)
  /-- TIME_STEP_APPLY (R358): A pending step of device time takes effect at its tick boundary and restarts head lanes. -/
  | timeStepApply
  /-- TIME_ASYM (R375): TIME_ASYM writes a port's PTP delay asymmetry. -/
  | timeAsym (n : Nat)
  /-- RECORD_READ (R407): RECORD_READ copies Cairn records from the permanent or circulating area to the host. -/
  | recordRead (n : Nat)
  /-- TRACE_READ (R283): TRACE_READ copies a range of the trace buffer to the host. -/
  | traceRead (n : Nat)
  /-- JOURNAL_MARK (R68): JOURNAL_MARK places a host marker in the journal. -/
  | journalMark (n : Nat)
  /-- CALIBRATE (R385): CALIBRATE runs a fiducial registration or an axis trim run. -/
  | calibrate (n : Nat)
  /-- FIDUCIAL_SETTLE_EXPIRY (R386): After the settle time at a fiducial, the device triggers one camera frame. -/
  | fiducialSettleExpiry (ns : Nat)
  /-- FIDUCIAL_FRAME_RESULT (R386): The statistics record of a fiducial frame yields that fiducial's offset, or not found. -/
  | fiducialFrameResult
  /-- TRIM_RUN_END (R393): After 1 s of recording extremes, the trims of each axis are written or FAIL is set. -/
  | trimRunEnd (ns : Nat)
  /-- UNIT_RESET (R417): UNIT_RESET resets a unit, increments its epoch and ends its outstanding requests. -/
  | unitReset (n : Nat)
  /-- UNIT_SELF_TEST_DONE (R417): A reset unit's self-test ends, and the unit returns to service or is held failed. -/
  | unitSelfTestDone (unit : Nat) (ok : Nat) (ns : Nat)
  /-- HEAD_AUTH (R444): HEAD_AUTH runs the full authentication exchange with a head in service. -/
  | headAuth (n : Nat)
  /-- FW_UPDATE (R441): FW_UPDATE checks, writes and activates a new firmware image. -/
  | fwUpdate (n : Nat)
  /-- CANCEL (R71): CANCEL fails an accepted but unstarted command with ABORTED. -/
  | cancel (n : Nat)
  /-- SUBMIT_DATAGRAM (R84): A SUBMIT datagram carrying descriptors is accepted in DSEQ order and acknowledged. -/
  | submitDatagram (p : Nat) (bs : List Byte) (ns : Nat)
  /-- ACK_DATAGRAM (R86): An ACK datagram acknowledges COMPLETE datagrams up to its ACK number. -/
  | ackDatagram (p : Nat) (bs : List Byte) (ns : Nat)
  /-- MEMWRITE_DATAGRAM (R85): A MEMWRITE datagram writes bytes into DRAM region 5. -/
  | memwriteDatagram (p : Nat) (bs : List Byte) (ns : Nat)
  /-- MEMREAD_DATAGRAM (R85): A MEMREAD datagram is answered with MEMDATA. -/
  | memreadDatagram (p : Nat) (bs : List Byte) (n : Nat) (ns : Nat)
  /-- COMPLETE_RETRANSMIT (R86): An unacknowledged COMPLETE is resent every (RTO + 1) x 100 us until RETRY, then LOST sets. -/
  | completeRetransmit (q : Nat) (ns : Nat)
  /-- HOST_WATCHDOG_KICK (R87): A write to HQ_HOSTWD_KICK restarts the host watchdog. -/
  | hostWatchdogKick (ns : Nat)
  /-- HOST_WATCHDOG_EXPIRY (R87): After TMO ms without host activity the watchdog performs its ACTION. -/
  | hostWatchdogExpiry (ns : Nat)
  /-- LDI (R100): LDI writes an immediate value to a register. -/
  | ldi (unit : Nat)
  /-- LD (R102): LD loads a 32-bit word from scratch or the program windows. -/
  | ld (unit : Nat)
  /-- ST (R102): ST stores a register to a scratch word. -/
  | st (unit : Nat)
  /-- ADD (R101): ADD adds two operands modulo 2^32 and sets the flags. -/
  | add (unit : Nat)
  /-- SUB (R101): SUB subtracts two operands modulo 2^32 and sets the flags. -/
  | sub (unit : Nat)
  /-- AND (R101): AND forms the bitwise AND of two operands. -/
  | and (unit : Nat)
  /-- ORR (R101): ORR forms the bitwise OR of two operands. -/
  | orr (unit : Nat)
  /-- XOR (R101): XOR forms the bitwise exclusive OR of two operands. -/
  | xor (unit : Nat)
  /-- SHL (R101): SHL shifts left by the low six bits of its second operand. -/
  | shl (unit : Nat)
  /-- SHR (R101): SHR shifts right, logically or arithmetically. -/
  | shr (unit : Nat)
  /-- CMP (R92): CMP compares two operands and sets Z, N and C. -/
  | cmp (unit : Nat)
  /-- BR (R103): BR branches to PC + OFFSET. -/
  | br (unit : Nat)
  /-- BRC (R103): BRC branches when its condition holds. -/
  | brc (unit : Nat)
  /-- CAL (R103): CAL pushes the return address and branches. -/
  | cal (unit : Nat)
  /-- RET (R103): RET pops the return stack. -/
  | ret (unit : Nat)
  /-- LOP (R103): LOP decrements a counter and branches while it is nonzero. -/
  | lop (unit : Nat)
  /-- HLT (R158): HLT closes the tile as halted, or ends a control program. -/
  | hlt (unit : Nat)
  /-- JMP (R104): JMP moves to a target at JSPEED with the gates zero. -/
  | jmp (unit : Nat)
  /-- MRK (R104): MRK moves to a target at SPEED while firing. -/
  | mrk (unit : Nat)
  /-- ARC (R106): ARC moves on a circle about a centre while firing. -/
  | arc (unit : Nat)
  /-- CUB (R107): CUB moves along a cubic Bezier curve while firing. -/
  | cub (unit : Nat)
  /-- MOTION_COMPLETE (R125): A motion ends after its N ticks and the next instruction is issued. -/
  | motionComplete (unit : Nat)
  /-- DWL (R108): DWL holds position for COUNT slots, firing or dark. -/
  | dwl (unit : Nat)
  /-- DWELL_END (R125): A slot-counted hold ends and the next instruction is issued. -/
  | dwellEnd (unit : Nat)
  /-- PWR (R109): PWR applies level, mask and region from the next slot produced. -/
  | pwr (unit : Nat)
  /-- RMP (R110): RMP starts a linear fade of the level towards TARGET over TIME slots. -/
  | rmp (unit : Nat)
  /-- RAMP_END (R196): A ramp reaches step TIME, carries TARGET exactly and ends. -/
  | rampEnd (unit : Nat)
  /-- CRV (R111): CRV selects a level curve for the beamlets in CMASK. -/
  | crv (unit : Nat)
  /-- DLY (R112): DLY sets one of the five delays. -/
  | dly (unit : Nat)
  /-- SKY (R112): SKY enables or disables skywriting and sets its parameters. -/
  | sky (unit : Nat)
  /-- BRS (R113): BRS marks parallel brush passes with feeds between them. -/
  | brs (unit : Nat)
  /-- COL (R114): COL fires columns of the active column frame buffer. -/
  | col (unit : Nat)
  /-- COLUMN_FIRE (R144): A column fires at its slot in time mode, or when the axis reaches its count in axis mode. -/
  | columnFire (unit : Nat)
  /-- WPM (R115): WPM arms a waymark and waits for it to fire. -/
  | wpm (unit : Nat)
  /-- WPM_TIMEOUT (R115): A WPM with TMO raises WAIT_TMO after W1 ticks. -/
  | wpmTimeout (unit : Nat)
  /-- WTM (R116): WTM waits a number of ticks or until an absolute time. -/
  | wtm (unit : Nat)
  /-- WTM_WAIT_END (R148): A WTM wait ends and the next instruction takes effect. -/
  | wtmWaitEnd (unit : Nat)
  /-- BAR (R117): BAR waits until COUNT tiles have reached the same barrier, then releases them aligned to the tick. -/
  | bar (unit : Nat)
  /-- BAR_TIMEOUT (R117): A BAR with TMO raises WAIT_TMO and withdraws its arrival. -/
  | barTimeout (unit : Nat)
  /-- SIG (R118): SIG posts an event to TSC and may raise a host interrupt. -/
  | sig (unit : Nat)
  /-- TIL (R119): TIL marks tile BEGIN, END or YIELD. -/
  | til (unit : Nat)
  /-- QRC (R120): QRC appends a quality record to the quality stream. -/
  | qrc (unit : Nat)
  /-- MAC (R262): MAC multiplies and accumulates into ACC. -/
  | mac (unit : Nat)
  /-- CLP (R263): CLP clamps a value to a limit pair. -/
  | clp (unit : Nat)
  /-- INT (R264): INT adds the integral term to INTG, clamped. -/
  | int (unit : Nat)
  /-- PRE (R265): PRE presets the integrator, clamped. -/
  | pre (unit : Nat)
  /-- SCH (R266): SCH selects a gain set by region and speed band. -/
  | sch (unit : Nat)
  /-- OUT (R267): OUT holds a value as the evaluation's K. -/
  | out (unit : Nat)
  /-- TRC (R267): TRC queues a value for a trace channel. -/
  | trc (unit : Nat)
  /-- BSQ_FAULT_CLEAR (R158): Clearing BSQn_FAULT.FAULTED lets a halted sequencer take work again. -/
  | bsqFaultClear (n : Nat) (v : Word)
  /-- GRANT_ROUND (R176): Every 62.5 ns TSC decides grants of candidate tiles to the requesting heads. -/
  | grantRound (ns : Nat)
  /-- LINGER_EXPIRY (R172): A closed tile leaves the active set after LINGER ticks. -/
  | lingerExpiry (tile : Nat)
  /-- CODING_WINDOW_CLOSE (R183): When the window on the last eligible head closes unserved, the job ends NOT_CODED. -/
  | codingWindowClose (r : Nat) (ns : Nat)
  /-- GUARD_CLEAR (R185): After GUARD_CLR + 1 clear ticks, the guarded head runs Back and Approach and rejoins. -/
  | guardClear (h : Nat)
  /-- GUARD_TIMEOUT (R185): A guard stop lasting GUARD_TMO + 1 ticks moves the tile to DETOUR. -/
  | guardTimeout (h : Nat)
  /-- HEAD_REMOVE (R186): A write to TSC_HEAD_REMOVE removes heads from the eligible set with cause 4. -/
  | headRemove (v : Word) (ns : Nat)
  /-- HEAD_RESTORE (R192): A write to TSC_HEAD_RESTORE returns a head to the eligible set if its lane is in service and authenticated. -/
  | headRestore (v : Word)
  /-- DETOUR_JOIN (R188): At the join slot the new head opens its gates with the join ramp. -/
  | detourJoin (h : Nat) (ns : Nat)
  /-- EVENT_POST (R169): A write of TSC_EVT_POST.GO posts an event. -/
  | eventPost (v : Word)
  /-- CALIBRATION_GO (R166): A write of TSC_SVC.GO in SERVICE starts granting calibration tiles. -/
  | calibrationGo (v : Word)
  /-- BLD_COMMIT (R214): Writing BLD_COMMIT commits set 2 of the curves and density tables. -/
  | bldCommit (v : Word)
  /-- CURVE_COPY_COMPLETE (R213): The copy of the new live half ends and the held shadow writes are applied. -/
  | curveCopyComplete
  /-- COLUMN_READY_WRITE (R205): Writing BLD_CAa_CTL.READY marks the inactive copy of a column area ready. -/
  | columnReadyWrite (a : Nat) (v : Word)
  /-- COLUMN_SWAP_WRITE (R205): Writing BLD_CAa_CTL.SWAP triggers a swap of the column area copies. -/
  | columnSwapWrite (a : Nat) (v : Word)
  /-- BEAMLET_UNMASK (R210): Writing BLD_Hh_UNMASK releases masked beamlets and clears their codes. -/
  | beamletUnmask (h : Nat) (v : Word)
  /-- PROBE_PLACE (R211): After PRB_AFTER sample instants without a valid sample, BLD places a probe span. -/
  | probePlace (h : Nat) (b : Nat)
  /-- DIAG_UNVERIFIED (R212): After NDIAG x 1000 ticks without a valid sample, the beamlet becomes UNVERIFIED. -/
  | diagUnverified (h : Nat) (b : Nat)
  /-- GSG_COPY_RETIRE (R427): A GSG copy that disagrees for RETIRE + 1 consecutive ticks is retired. -/
  | gsgCopyRetire (h : Nat) (c : Nat)
  /-- LANE_ENABLE (R244): Setting LNn_CFG.EN starts bring-up in ACQUIRE, or TEST. -/
  | laneEnable (n : Nat) (v : Word)
  /-- LANE_DISABLE (R244): Clearing LNn_CFG.EN sends the lane to DISABLED. -/
  | laneDisable (n : Nat) (v : Word)
  /-- LANE_TEST_ENTER (R251): Setting LNn_CFG.TEST takes the lane into TEST and out of service. -/
  | laneTestEnter (n : Nat) (v : Word)
  /-- LANE_TEST_LEAVE (R244): Clearing LNn_CFG.TEST returns the lane to ACQUIRE or DISABLED. -/
  | laneTestLeave (n : Nat) (v : Word)
  /-- MK_BLOCK_RECEIVE (R223): A received MK block advances codeword lock and may move the lane to LINKED. -/
  | mkBlockReceive (n : Nat) (good : Bool) (rlock : Bool) (ns : Nat)
  /-- ACQUIRE_TIMEOUT (R244): 20 ms in ACQUIRE without lock sends the lane to FAILED. -/
  | acquireTimeout (n : Nat) (ns : Nat)
  /-- CAPABILITY_READ_COMPLETE (R245): The capability and chain reads of LINKED end and the bring-up checks decide the next state. -/
  | capabilityReadComplete (n : Nat)
  /-- DELAY_MEASURE_COMPLETE (R238): After 4096 valid measurements the lane sets L and moves to AUTH or SERVICE, or fails on range. -/
  | delayMeasureComplete (n : Nat)
  /-- DELAY_TIMEOUT (R244): 8192 ticks in DELAY without 4096 valid measurements send the lane to FAILED. -/
  | delayTimeout (n : Nat) (ns : Nat)
  /-- DELAY_STEP (R238): 64 consecutive measurements far from L reset L to their mean. -/
  | delayStep (n : Nat)
  /-- AUTH_COMPLETE (R443): The authentication exchange ends and the lane moves to SERVICE or FAILED. -/
  | authComplete (n : Nat) (ns : Nat)
  /-- AUTH_TIMEOUT (R443): Authentication not finished within 100 ms fails the lane. -/
  | authTimeout (n : Nat) (ns : Nat)
  /-- FAILED_RETRY_TIMER (R244): With AUTO = 1, a FAILED lane restarts ACQUIRE after 100 ms. -/
  | failedRetryTimer (n : Nat) (ns : Nat)
  /-- LANE_LOSS (R249): A loss cause stops frames, increments the epoch and removes the head. -/
  | laneLoss (n : Nat) (cause : Nat) (ns : Nat)
  /-- MSG_RSP_RECEIVE (R240): An RSP message answers an outstanding message, or is discarded as stale. -/
  | msgRspReceive (n : Nat) (seq : Nat) (epoch : Nat) (status : Nat) (data : List Word) (ns : Nat)
  /-- MSG_TIMEOUT (R240): A message without reply is resent up to RETRY times and then reported as NO_REPLY. -/
  | msgTimeout (n : Nat) (seq : Nat) (ns : Nat)
  /-- TIME_BROADCAST (R242): Every 1 ms the device sends each lane a broadcast TIME message. -/
  | timeBroadcast (ns : Nat)
  /-- PDS_RECEIVE (R233): A PDS block delivers photodiode samples to the CEN alignment queue. -/
  | pdsReceive (n : Nat) (tick : Nat) (entries : List Word)
  /-- EVT_MESSAGE_RECEIVE (R335): An upstream EVT message fills an AI input word, or is discarded. -/
  | evtMessageReceive (n : Nat) (pos : Nat) (data : List Word) (ns : Nat)
  /-- PEPPER_CLEAR (R253): Writing LNn_PEP_CTL.CLR zeroes the checker counters and restarts lock. -/
  | pepperClear (n : Nat) (v : Word)
  /-- PEPPER_INJECT_COUNT (R254): Writing LNn_PEP_INJCNT sets the number of errors or codewords still to inject. -/
  | pepperInjectCount (n : Nat) (v : Word)
  /-- LOOP_EVALUATION (R258): In its fixed slot a melt-pool loop runs its program and writes K to BLD at t_s + 700 ns. -/
  | loopEvaluation (l : Nat) (ns : Nat)
  /-- AUX_LOOP_EVALUATION (R277): An auxiliary loop runs in its windows and writes its output to DEST. -/
  | auxLoopEvaluation (l : Nat) (ns : Nat)
  /-- LOOP_MISSLIM (R261): After MISSLIM + 1 missing evaluations, K is set to 1.0. -/
  | loopMisslim (l : Nat)
  /-- CEN_COMMIT (R271): Writing CEN_COMMIT commits set 3 of gain sets and control programs. -/
  | cenCommit (v : Word)
  /-- CONTROL_COPY_COMPLETE (R270): The copy of the new live control half ends and the held writes are applied. -/
  | controlCopyComplete
  /-- LOOP_AUTO_WRITE (R273): A write of CEN_LCTL.AUTO switches a loop between manual and automatic. -/
  | loopAutoWrite (v : Word)
  /-- ENGINE_RESET_END (R276): After at most two rounds in reset, an engine clears its loop state and resumes. -/
  | engineResetEnd (e : Nat)
  /-- TRACE_ARM (R281): Writing CEN_TRC_CTL.ARM starts trace recording. -/
  | traceArm (v : Word)
  /-- TRACE_STOP (R281): Writing CEN_TRC_CTL.STOP clears RUN at once. -/
  | traceStop (v : Word)
  /-- TRACE_TRIGGER (R282): The first trigger while running records TPTR and starts the post count. -/
  | traceTrigger (v : Word)
  /-- TRACE_POST_DONE (R282): After POST further entries, recording stops and DONE sets. -/
  | tracePostDone
  /-- TRACE_SPILL_COPY_DONE (R281): The copy of a completed trace quarter to the DRAM spill ring ends. -/
  | traceSpillCopyDone
  /-- MAP_GO (R303): Writing MAPp_CTL.GO starts a mirror-array port. -/
  | mapGo (p : Nat) (v : Word)
  /-- MAP_STOP (R306): Writing MAPp_CTL.STOP stops the port after the frame in progress. -/
  | mapStop (p : Nat) (v : Word)
  /-- MAP_SUBMIT (R289): A write to MAPp_SUBMIT queues a frame buffer, or is refused. -/
  | mapSubmit (p : Nat) (v : Word)
  /-- MAP_FREE (R290): A write to MAPp_FREE frees a buffer at once, or marks it FREE_PENDING. -/
  | mapFree (p : Nat) (v : Word)
  /-- MAP_COMMIT (R302): Writing MAPp_COMMIT commits set 28 or 29 of frame parameters. -/
  | mapCommit (p : Nat) (v : Word)
  /-- MAP_START_TRIGGER (R296): The port's trigger latches the first frame after GO. -/
  | mapStartTrigger (p : Nat)
  /-- FRAME_LATCH (R295): At V_n the port latches the next frame's set, scales and buffer and sends its descriptor. -/
  | frameLatch (p : Nat)
  /-- PLANE_RESET (R292): At R_k the array driver resets its mirrors to the loaded plane and pulses follow. -/
  | planeReset (p : Nat) (ns : Nat)
  /-- LINE_SEND (R293): A line of four rows leaves in its 100 ns line slot. -/
  | lineSend (p : Nat)
  /-- PLANE_LATE (R294): An entry not loaded by R_k - VB x 500 ns is skipped with no reset and no pulse. -/
  | planeLate (p : Nat) (ns : Nat)
  /-- ARRAY_STATUS_RECEIVE (R311): An array driver's AS0/AS1 status is received with the reset acknowledgement, row errors and energies. -/
  | arrayStatusReceive (n : Nat) (ok : Bool) (k : Nat) (app : Bool) (fault : Bool) (rack : Bool) (rseq : Nat) (rowErr : Nat) (miss : Nat) (turn : Nat) (e : List Nat) (t4 : Int) (ns : Nat)
  /-- AXIS_QUAD_EDGE (R314): A filtered A/B level change counts one quadrature edge, or a quadrature error. -/
  | axisQuadEdge (a : Nat) (ab : Nat) (ns : Nat) (frac : Nat)
  /-- AXIS_HALL_CHANGE (R315): A Hall state change counts plus or minus one, or an error. -/
  | axisHallChange (a : Nat) (code : Nat) (ns : Nat) (frac : Nat)
  /-- AXIS_SINCOS_SAMPLE (R316): A sin/cos ADC sample pair advances the interpolated count. -/
  | axisSincosSample (a : Nat) (sv : Int) (cv : Int) (ns : Nat) (frac : Nat)
  /-- AMPLITUDE_FAULT (R316): Four consecutive samples outside the amplitude window set AMPFLT and report a fault. -/
  | amplitudeFault (a : Nat) (sv : Int) (cv : Int) (ns : Nat)
  /-- AXIS_SSI_FRAME (R317): An SSI frame advances the count by its difference from the previous frame. -/
  | axisSsiFrame (a : Nat) (raw : Nat) (ns : Nat) (frac : Nat)
  /-- AXIS_VALID_LOSS (R318): VALID clears on AMPFLT, on OVSP or after four consecutive SSI errors. -/
  | axisValidLoss (a : Nat)
  /-- AXIS_VALID_RESTORE (R318): After 64 good samples VALID returns and POSLOST sets. -/
  | axisValidRestore (a : Nat)
  /-- INDEX_CAPTURE (R319): A captured index edge is compared with the expected count and acts as IDXMODE gives. -/
  | indexCapture (a : Nat) (ns : Nat)
  /-- SPEED_PUBLISH (R322): Every 1 us AXF forms and publishes the speed of each axis. -/
  | speedPublish (ns : Nat)
  /-- CMP_PULSE_START (R327): A CMP output goes active 300 ns after the fire or reject time. -/
  | cmpPulseStart (n : Nat) (ns : Nat) (frac : Nat)
  /-- CMP_PULSE_END (R327): A CMP output goes inactive after WIDTH x 100 ns. -/
  | cmpPulseEnd (n : Nat) (ns : Nat) (frac : Nat)
  /-- PRODUCT_DETECT_EDGE (R329): An accepted product-detect edge binds the oldest waiting record and hands TSC a coding job. -/
  | productDetectEdge (d : Nat) (ns : Nat) (frac : Nat)
  /-- PRODUCT_CLOSE (R331): At the reject point the product record closes as coded or rejected. -/
  | productClose (r : Nat) (ns : Nat) (frac : Nat)
  /-- WEB_SWITCHBACK_STOPPED (R334): The web axis is found stopped and the manoeuvre moves on to waiting or reversing. -/
  | webSwitchbackStopped (m : Nat)
  /-- WEB_SWITCHBACK_READY (R334): Every starved sequencer is ready and the reverse move is sent. -/
  | webSwitchbackReady (m : Nat)
  /-- WEB_SWITCHBACK_RESTART (R334): The RUN reply ends the web Switchback. -/
  | webSwitchbackRestart (m : Nat)
  /-- AI_STALE (R335): An AI word not updated for (TMO + 1) us is marked stale. -/
  | aiStale (j : Nat) (ns : Nat)
  /-- AXF_COMMIT (R336): Writing AXF_COMMIT commits set 34 of the axis configuration. -/
  | axfCommit (v : Word)
  /-- CAM_ENABLE (R337): Writing CAMc_CFG.EN = 1 enables a pipeline after its source checks. -/
  | camEnable (c : Nat) (v : Word)
  /-- CAM_SNAP (R341): A write to CAMc_SNAP makes a host trigger. -/
  | camSnap (c : Nat) (v : Word) (ns : Nat)
  /-- CAM_TRIGGER (R342): At the trigger instant the device drives CAMTRGn or sends the head camera trigger message. -/
  | camTrigger (c : Nat) (ns : Nat)
  /-- CAM_TRIGGER_PULSE_END (R342): CAMTRGn goes inactive after EXP x 100 ns. -/
  | camTriggerPulseEnd (c : Nat) (ns : Nat)
  /-- CAM_TRIGGER_WITHDRAW (R343): A trigger with no frame start within 100 ms is withdrawn. -/
  | camTriggerWithdraw (c : Nat) (ns : Nat)
  /-- CAM_FRAME_START (R346): VSYNC active or an FS block starts a frame and pairs it with a trigger. -/
  | camFrameStart (c : Nat) (ns : Nat)
  /-- CAM_LINE_END (R338): A line of pixels ends and is counted against the frame's shape. -/
  | camLineEnd (c : Nat) (px : List Nat) (lost : Bool) (ns : Nat)
  /-- CAM_BLOCK_RECEIVE (R339): A CAM block from a head camera delivers a segment of a line. -/
  | camBlockReceive (n : Nat) (line : Nat) (fs : Bool) (fe : Bool) (drop : Bool) (tag : Nat) (seg : Nat) (px : List Nat) (lost : Bool) (ns : Nat)
  /-- CAM_FRAME_CLOSE (R346): VSYNC inactive, an FE block or the next start closes a frame. -/
  | camFrameClose (c : Nat) (ns : Nat)
  /-- CAM_FRAME_TIMEOUT (R346): A frame with no pixel for 100 ms closes as SHORT with TIMEOUT. -/
  | camFrameTimeout (c : Nat) (ns : Nat)
  /-- CAM_RECORD_WRITE (R351): The frame's statistics record is written and FRAME raises its interrupt. -/
  | camRecordWrite (c : Nat)
  /-- CAM_TAP (R349): A write to CAMc_TAP requests taps of the next N frames. -/
  | camTap (c : Nat) (v : Word)
  /-- CAM_COMMIT (R344): Writing CAMc_COMMIT commits exposure set 30 + c. -/
  | camCommit (c : Nat) (v : Word) (ns : Nat)
  /-- REFERENCE_LOST (R357): Loss of the reference in use switches reference or holds the PLL control word. -/
  | referenceLost (r : Nat)
  /-- REFERENCE_SELECT (R357): A host write of TIM_REF_CFG.SEL switches the reference. -/
  | referenceSelect (v : Word)
  /-- SYNCI_CAPTURE (R360): An edge on SYNCIn is captured, corrected by DLY and delivered to its consumers. -/
  | synciCapture (n : Nat) (rising : Bool) (ns : Nat) (frac : Nat)
  /-- SYNCO_SCHEDULE (R363): Writing SYNCOn MODE 2 schedules a one-off pulse, or skips it if passed. -/
  | syncoSchedule (n : Nat) (v : Word) (ns : Nat)
  /-- SYNCO_PULSE_START (R363): A SYNCO output goes active at its scheduled slot boundary. -/
  | syncoPulseStart (n : Nat) (ns : Nat)
  /-- SYNCO_PULSE_END (R363): A SYNCO output goes inactive after (WIDTH + 1) x 100 ns. -/
  | syncoPulseEnd (n : Nat) (ns : Nat)
  /-- PTP_SYNC_RECEIVE (R366): A valid Sync yields an offset that drives the PTP servo. -/
  | ptpSyncReceive (p : Nat) (dom : Nat) (src : Nat) (seq : Nat) (twoStep : Bool) (t1 : Int) (ns : Nat) (frac : Nat)
  /-- PTP_FOLLOW_UP_RECEIVE (R366): A Follow_Up completes the two-step Sync it matches. -/
  | ptpFollowUpReceive (p : Nat) (dom : Nat) (src : Nat) (seq : Nat) (t1 : Int) (ns : Nat)
  /-- PTP_ANNOUNCE_RECEIVE (R370): An Announce feeds the best master clock selection. -/
  | ptpAnnounceReceive (p : Nat) (dom : Nat) (src : Nat) (key : List Nat) (ns : Nat)
  /-- PTP_DELAY_RESPONSE_RECEIVE (R371): A delay response yields a path delay measurement for the filter. -/
  | ptpDelayResponseReceive (p : Nat) (dom : Nat) (seq : Nat) (t : Int) (ns : Nat) (frac : Nat)
  /-- PTP_PDELAY_REQ_RECEIVE (R366): A Pdelay_Req is answered with a one-step Pdelay_Resp. -/
  | ptpPdelayReqReceive (p : Nat) (dom : Nat) (seq : Nat) (ns : Nat) (frac : Nat)
  /-- PTP_MESSAGE_TRANSMIT (R366): At each interval the device sends its Sync, Announce or delay request messages. -/
  | ptpMessageTransmit (p : Nat) (type : Nat) (ns : Nat) (frac : Nat)
  /-- PTP_MASTER_LOST (R370): Without Sync or Announce for the timeout the servo enters HOLDOVER. -/
  | ptpMasterLost (ns : Nat)
  /-- PTP_GUARD_END (R371): After GUARD sync intervals the servo returns to SLAVE. -/
  | ptpGuardEnd (ns : Nat)
  /-- TIM_COMMIT (R379): Writing the TIM commit commits set 35 of the PTP configuration. -/
  | timCommit (v : Word)
  /-- ARP_REQUEST_RECEIVE (R377): An ARP request for the port's address is answered. -/
  | arpRequestReceive (p : Nat) (ip : Nat)
  /-- ICMP_ECHO_RECEIVE (R377): An ICMP echo request is answered. -/
  | icmpEchoReceive (p : Nat) (ip : Nat) (data : List Byte)
  /-- ETH_FRAME_DROP (R377): A frame with a bad FCS or of an unhandled kind is discarded and counted. -/
  | ethFrameDrop (p : Nat) (badFcs : Bool)
  /-- ETH_LINK_CHANGE (R376): An Ethernet port's link comes up or goes down. -/
  | ethLinkChange (p : Nat) (up : Bool) (ns : Nat)
  /-- GEO_COMMIT (R384): Writing GEO_Hh_COMMIT commits correction set 4 + h. -/
  | geoCommit (h : Nat) (v : Word)
  /-- GEO_COPY_COMPLETE (R384): The copy into GEO's standby bank ends and the content checks are reported. -/
  | geoCopyComplete (h : Nat)
  /-- TREF_WRITE (R392): A host write of CAL_Hh_TREF sets the reference temperature and marks it valid. -/
  | trefWrite (h : Nat) (v : Word)
  /-- HOUSEKEEPING_ROUND (R394): Every 1 ms THM samples its channels and evaluates the thresholds. -/
  | housekeepingRound (temps : List Int) (bad : Nat) (ns : Nat)
  /-- THM_COMMIT (R397): Writing THM_COMMIT commits set 36 of the thermal thresholds. -/
  | thmCommit (v : Word)
  /-- FLASH_PAGE_PROGRAM_DONE (R482): A page program of a Cairn record ends, and the next waiting record is programmed. -/
  | flashPageProgramDone (ok : Bool) (ns : Nat)
  /-- FLASH_ERASE_DONE (R402): A sector erase of the circulating area ends. -/
  | flashEraseDone (ns : Nat)
  /-- FLASH_RETRY (R406): Writing REC_CTL.RETRY resumes flushing after a flash error. -/
  | flashRetry (v : Word)
  /-- OPTIME_SECOND (R399): CD_AON counts one second of operating time. -/
  | optimeSecond (ns : Nat)
  /-- OPERATING_TIME_RECORD (R399): After every 3600 s of operating time an operating-time record is written. -/
  | operatingTimeRecord (ns : Nat)
  /-- SBC_BLOCK_EXPANDED (R411): The decoding of an SBC block ends and it is verified or declared corrupt. -/
  | sbcBlockExpanded (n : Nat) (ns : Nat)
  /-- QS_BUFFER_FLUSH (R414): A quality buffer full or FLUSH ms old is written as one SBC block. -/
  | qsBufferFlush (ns : Nat)
  /-- QS_ENABLE (R415): Changing REC_QS_CFG.EN from 0 to 1 checks the ring and resets the pointers. -/
  | qsEnable (v : Word)
  /-- QS_RPTR_WRITE (R415): A host write of REC_QS_RPTR frees ring space, or is refused. -/
  | qsRptrWrite (v : Word)
  /-- MCP_LOCKSTEP_MISMATCH (R420): A compare mismatch in the active pair hands control to the standby pair. -/
  | mcpLockstepMismatch (ns : Nat)
  /-- MCP_WATCHDOG_EXPIRY (R420): Expiry of the active pair's 1 ms watchdog hands control to the standby pair. -/
  | mcpWatchdogExpiry (ns : Nat)
  /-- MCP_STANDBY_MISMATCH (R423): A mismatch in the standby pair holds it failed. -/
  | mcpStandbyMismatch (ns : Nat)
  /-- MCP_HANDOVER (R422): A planned handover completes when every started command has ended. -/
  | mcpHandover
  /-- BSQ_CHECKER_MISMATCH (R425): A sequencer checker mismatch fences it and a spare restores the last checkpoint. -/
  | bsqCheckerMismatch (units : List Nat) (ns : Nat)
  /-- SRAM_CORRECTED_ERROR (R428): A corrected SRAM error is written back and counted. -/
  | sramCorrectedError (a : Nat) (ns : Nat)
  /-- SRAM_UNCORRECTABLE_ERROR (R429): An uncorrectable SRAM error acts according to its region. -/
  | sramUncorrectableError (a : Nat) (ns : Nat)
  /-- DRAM_CORRECTED_ERROR (R428): A corrected DRAM error is written back and counted. -/
  | dramCorrectedError (a : Nat) (ns : Nat)
  /-- DRAM_UNCORRECTABLE_ERROR (R430): An uncorrectable DRAM error is counted and acts according to its region. -/
  | dramUncorrectableError (a : Nat) (ns : Nat)
  /-- LIFECYCLE_TRANSITION (R436): Writing LCS_LC_REQ.GO burns the fuses of a loaded transition token. -/
  | lifecycleTransition (v : Word)
  /-- REAUTH_TIMER (R444): Every PER seconds the device re-authenticates every head in service. -/
  | reauthTimer (ns : Nat)
  /-- RESET_N_ASSERT (R456): RESET_N held low for 10 us resets the whole device into BOOT. -/
  | resetNAssert (ns : Nat)
  /-- POWER_ON_RESET (R453): A rail below 70 % of nominal holds the device in power-on reset. -/
  | powerOnReset (rail : Nat) (ns : Nat)
  /-- RESET_END (R457): Reset ends and the boot sequence starts. -/
  | resetEnd (ns : Nat)
  /-- PLL_LOCK (R457): The CD_CORE or CD_TIME PLL locks during boot. -/
  | pllLock (pll : Nat) (ns : Nat)
  /-- BOOT_IMAGE_VERIFIED (R440): The boot ROM judges both image slots and starts the valid one, or stays in BOOT. -/
  | bootImageVerified (a : List Byte) (b : List Byte) (ns : Nat)
  /-- DRAM_TRAINING_DONE (R459): DRAM training ends at a rate, or fails. -/
  | dramTrainingDone (c : Nat) (rate : Nat) (mib : Nat) (ns : Nat)
  /-- SELF_TEST_PASS (R46): Secure boot and self-test pass, and the device enters IDLE. -/
  | selfTestPass (ns : Nat)
  /-- SUPPLY_WINDOW_EXIT (R455): A rail outside its monitor window for 2 us is latched and may raise fault 0x58. -/
  | supplyWindowExit (rail : Nat) (inside : Bool) (ns : Nat)
  /-- PFAIL_ASSERT (R460): PFAIL_N low for 200 ns makes the PFAIL record, enters SAFE and starts the flush. -/
  | pfailAssert (ns : Nat)
  /-- JOURNAL_SEAL (R82): 1.0 ms after PFAIL_N the journal is sealed and the seal record is made. -/
  | journalSeal (ns : Nat)
  /-- FLUSH_DEADLINE (R405): 1.8 ms after PFAIL_N no further page program starts. -/
  | flushDeadline (ns : Nat)
  /-- PFAIL_DEASSERT (R462): PFAIL_N returning high starts the 10 ms recovery count. -/
  | pfailDeassert (ns : Nat)
  /-- PFAIL_RECOVERY_RESET (R462): After PFAIL_N has been high for 10 ms the device resets with cause 2. -/
  | pfailRecoveryReset (ns : Nat)
  /-- SYSCLK_LOSS (R465): Loss of SYSCLK or a PLL unlock raises fatal fault 0x59. -/
  | sysclkLoss (ns : Nat)
  /-- ETH_REFCLK_LOSS (R465): Loss of the Ethernet reference clock brings both links down. -/
  | ethRefclkLoss (ns : Nat)
  /-- XO32_LOSS (R465): Without a 32.768 kHz edge for 1 ms, OPTIME is counted from SYSCLK and NOXO sets. -/
  | xo32Loss (ns : Nat)
  /-- UPSTREAM_CODEWORD_RECEIVE (R224): A received RS(544,514) codeword is corrected or found uncorrectable, counted in LNn_CW_CORR, LNn_SYM_CORR or LNn_CW_UNCORR, and its blocks are accepted or discarded under R225. -/
  | upstreamCodewordReceive (n : Nat) (errs : Nat) (blocks : List (Nat × Nat))
  /-- PEPPER_CHECKER_LOCK (R253): The Pepper checker gains LOCK after 64 consecutive error-free received symbols. -/
  | pepperCheckerLock (n : Nat)
  /-- PEPPER_CHECKER_LOST_LOCK (R253): The Pepper checker clears LOCK and sets LOSTLOCK when more than 32 of 64 consecutive symbols are in error. -/
  | pepperCheckerLostLock (n : Nat) (symErr : Nat) (bitErr : Nat) (mbits : Nat)
  /-- PEPPER_INJECT_DONE (R254): The error injection count reaches zero and INJ_BUSY clears. -/
  | pepperInjectDone (n : Nat)
  /-- PTP_DELAY_REQ_RECEIVE (R364): As a master under the end-to-end mechanism, the port receives a Delay_Req and answers it with Delay_Resp. -/
  | ptpDelayReqReceive (p : Nat) (dom : Nat) (seq : Nat) (ns : Nat) (frac : Nat)
  /-- REFERENCE_RETURN (R357): A lost TREF input returns and counts as present again, available for the next switch. -/
  | referenceReturn (r : Nat)
  /-- HOST_DMA_COMPLETION (R59): A host memory access by the device ends with its data, or with Unsupported Request, Completer Abort, poisoned data or a completion timeout that fails the command with DMA_ERROR. -/
  | hostDmaCompletion (n : Nat) (bad : Bool) (off : Nat) (a : Nat) (bs : List Byte) (ns : Nat)
  /-- FW_IMAGE_WRITE_DONE (R441): The flash write and read-back of a firmware image into the slot not booted ends, and activation begins or the command fails with DATA_CORRUPT. -/
  | fwImageWriteDone (ok : Bool) (ns : Nat)
  /-- MSIX_VECTOR_UNMASK (R57): A host write that clears the mask bit of an MSI-X vector whose pending bit is set sends that vector's message. -/
  | msixVectorUnmask (i : Nat) (v : Word)
  deriving DecidableEq, Repr

end Sys2Proof
end

