-- ==== Sys2Proof/Decode.lean ====
section
/-! DEFINITION. The commands that a word spells. No row of the opcode table of this block gives bits: its commands are register accesses, bus
transfers and events, which no word encodes (the 64-bit words of Tanoran programs are fetched from SRAM by Machine/Operands.lean). -/

namespace Sys2Proof

/-- No word spells a command: spec/opcode_table.json gives no row any bits. -/
def decodeTableWord (_nbits _w : Nat) : Option Instr := none

end Sys2Proof
end

