-- ==== Sys2Proof/Config.lean ====
section
/-! DEFINITION. What the manual leaves open, as constants with no body: nothing in Lean can compute them or prove a
value of them, so a statement that holds of the model holds whatever they are. -/

namespace Sys2Proof.Config

/-- A free byte: the bytes that the manual calls device-internal (the Progress field of a checkpoint, Table 16-3). Log entry 5. -/
opaque freeByte : Nat → Nat → Byte

/-- The bytes of a fresh random value: the NONCE of head authentication (R443). Log entry 5. -/
opaque nonceByte : Nat → Nat → Byte

/-- The 16 bytes of a fresh NONCE. -/
def freshNonce (k : Nat) : List Byte := (List.range 16).map (nonceByte k)

/-- The bytes of the HMAC-SHA-256 of a message under a key (R83). The manual names the function and does not define it. Log entry 6. -/
opaque hmacByte : List Byte → List Byte → Nat → Byte

/-- HMAC-SHA-256: 32 bytes. -/
def hmacSha256 (key msg : List Byte) : List Byte := (List.range 32).map (hmacByte key msg)

/-- The bytes of the SHA-384 of a message (R440). Log entry 6. -/
opaque sha384Byte : List Byte → Nat → Byte

/-- SHA-384: 48 bytes. -/
def sha384 (msg : List Byte) : List Byte := (List.range 48).map (sha384Byte msg)

/-- Whether an ECDSA signature over a message verifies under a public key (R438, R440, R443); the first argument
is the curve size in bits, 256 or 384. Log entry 6. -/
opaque ecdsaVerifies : Nat → List Byte → List Byte → List Byte → Bool

/-- Lebarum's root public key, which signs tokens (Table 17-2); the fuses hold only hashes of keys. Log entry 6. -/
opaque rootKey : List Byte

/-- A word that the manual leaves open, by the counter that numbers such words. Log entry 5. -/
opaque freeWord : Nat → Word

end Sys2Proof.Config
end

