-- ==== Sys2Proof/Machine/Bits.lean ====
section
/-! DEFINITION. Bit fields of 32-bit registers, two's complement conversions, saturation and byte order: the
plain arithmetic that the register tables and the data paths share. -/

namespace Sys2Proof.Machine

/-- A register field: bits [lo + wd - 1 : lo]. -/
structure Fld where
  lo : Nat
  wd : Nat
  deriving DecidableEq, Repr

/-- The value of field `f` of `w`. -/
def fget (w : Word) (f : Fld) : Nat := w.toNat / 2 ^ f.lo % 2 ^ f.wd

/-- `w` with field `f` replaced by the low bits of `v`. -/
def fput (w : Word) (f : Fld) (v : Nat) : Word :=
  BitVec.ofNat 32 (w.toNat - fget w f * 2 ^ f.lo + v % 2 ^ f.wd * 2 ^ f.lo)

/-- The mask that has a 1 in every bit of field `f`. -/
def fmask (f : Fld) : Word := BitVec.ofNat 32 ((2 ^ f.wd - 1) * 2 ^ f.lo)

/-- Bit `n` of a natural number. -/
def bit (v n : Nat) : Bool := v / 2 ^ n % 2 == 1

/-- A natural number with bit `n` set or cleared. -/
def setBit (v n : Nat) (b : Bool) : Nat :=
  if bit v n then (if b then v else v - 2 ^ n) else (if b then v + 2 ^ n else v)

/-- 1 for true, 0 for false. -/
def b2n (b : Bool) : Nat := if b then 1 else 0

/-- The number of set bits among bits [n-1:0] of `v`. -/
def popcount (v : Nat) : Nat → Nat
  | 0 => 0
  | n + 1 => popcount v n + b2n (bit v n)

/-- The lowest set bit among bits [n-1:0] of `v`, or `n` when none is set. -/
def lowestBit (v n : Nat) : Nat := ((List.range n).find? (bit v)).getD n

/-- An n-bit pattern read as a two's complement integer. -/
def sgn (n v : Nat) : Int :=
  if v % 2 ^ n < 2 ^ (n - 1) then ((v % 2 ^ n : Nat) : Int) else ((v % 2 ^ n : Nat) : Int) - (2 ^ n : Nat)

/-- The low n bits of an integer in two's complement. -/
def wrap (n : Nat) (i : Int) : Nat := (i % ((2 ^ n : Nat) : Int)).toNat

/-- An integer as a register word in two's complement. -/
def wordOf (i : Int) : Word := BitVec.ofInt 32 i

/-- A register word as a two's complement integer. -/
def intOf (w : Word) : Int := w.toInt

/-- `x` limited to [lo, hi]. -/
def clampI (lo hi x : Int) : Int := if x < lo then lo else if hi < x then hi else x

/-- `x` limited to [lo, hi]. -/
def clampN (lo hi x : Nat) : Nat := if x < lo then lo else if hi < x then hi else x

/-- `x` limited to the range of an n-bit two's complement number. -/
def satI (n : Nat) (x : Int) : Int := clampI (-(2 ^ (n - 1) : Nat)) ((2 ^ (n - 1) : Nat) - 1) x

/-- Event counters are 32 bits wide and saturate at 0xFFFF_FFFF (R9). -/
def satAdd (w : Word) (n : Nat) : Word := BitVec.ofNat 32 (min (w.toNat + n) 0xFFFFFFFF)

/-- Floor of i / d for a positive divisor. -/
def fdiv (i : Int) (d : Nat) : Int := i / (d : Int)

/-- i / d rounded to the nearest integer, halves upward. -/
def rdiv (i : Int) (d : Nat) : Int := (2 * i + d) / (2 * d : Int)

/-- i / d rounded to the nearest integer, halves away from zero. -/
def rdivAway (i : Int) (d : Nat) : Int :=
  if 0 ≤ i then rdiv i d else -(rdiv (-i) d)

/-- i / d truncated toward zero. -/
def tdivN (i : Int) (d : Nat) : Int := Int.tdiv i d

/-- n / d rounded up. -/
def cdiv (n d : Nat) : Nat := (n + d - 1) / d

/-- The little-endian value of a list of bytes, lowest address first. -/
def leNat : List Byte → Nat
  | [] => 0
  | b :: t => b.toNat + 256 * leNat t

/-- `n` bytes of `v`, lowest address first. -/
def leBytes (v : Nat) : Nat → List Byte
  | 0 => []
  | n + 1 => BitVec.ofNat 8 v :: leBytes (v / 256) n

/-- Integer square root by bits, from bit `n` downwards (rounds down). -/
def isqrtGo (v : Nat) : Nat → Nat → Nat
  | 0, r => r
  | n + 1, r => if (r + 2 ^ n) * (r + 2 ^ n) ≤ v then isqrtGo v n (r + 2 ^ n) else isqrtGo v n r

/-- The integer square root of a value below 2^160, rounded down. -/
def isqrt (v : Nat) : Nat := isqrtGo v 80 0

end Sys2Proof.Machine
end

