-- ==== Sys2Proof/Machine/Sparse.lean ====
section
/-! DEFINITION. Sparse tables in one canonical form: (key, value) pairs with strictly rising keys, holding no entry
equal to what an unlisted key reads as. The register file, the memories and the tables of per-unit records
are held this way, so equal contents are equal data. -/

namespace Sys2Proof.Machine

/-- A sparse table of `α` by a natural number key. -/
abbrev Sparse (α : Type) := List (Nat × α)

/-- The entry for key `k`; an unlisted key reads `d k`. -/
def sget {α : Type} (d : Nat → α) (k : Nat) : Sparse α → α
  | [] => d k
  | (j, v) :: t => if k = j then v else sget d k t

/-- The table without key `k`. -/
def sdel {α : Type} (k : Nat) : Sparse α → Sparse α
  | [] => []
  | (j, v) :: t => if k = j then sdel k t else (j, v) :: sdel k t

/-- The table with `v` listed for key `k`, before the first higher key. -/
def sins {α : Type} (k : Nat) (v : α) : Sparse α → Sparse α
  | [] => [(k, v)]
  | (j, w) :: t => if k < j then (k, v) :: (j, w) :: t else (j, w) :: sins k v t

/-- The table with key `k` reading `v`, in canonical form. -/
def sput {α : Type} [DecidableEq α] (d : Nat → α) (k : Nat) (v : α) (m : Sparse α) : Sparse α :=
  if v = d k then sdel k m else sins k v (sdel k m)

/-- Every key of the table is above `k`. -/
def sabove {α : Type} (k : Nat) : Sparse α → Bool
  | [] => true
  | (j, _) :: _ => decide (k < j)

/-- The canonical form: keys strictly rise, and no entry equals what an unlisted key reads as. -/
def swf {α : Type} [DecidableEq α] (d : Nat → α) : Sparse α → Bool
  | [] => true
  | (j, v) :: t => decide (v ≠ d j) && sabove j t && swf d t

/-- The keys that a table lists. -/
def skeys {α : Type} (m : Sparse α) : List Nat := m.map Prod.fst

end Sys2Proof.Machine
end

