-- ==== Sys2Proof/Machine/Regs.lean ====
section
/-! DEFINITION. Every BAR0 register of the manual: its offset (namespace R), its fields (namespace F), and one table row
with the access code and the reset value of each field (Table 0-3, R5 to R9), transcribed from the register tables of the
chapters. A field's reset value that the manual leaves to the board, the boot image or the part is the one that a log entry names
(entry 3). -/

namespace Sys2Proof.Machine

/-- The access codes of Table 0-3 (R5). -/
inductive Acc where
  | ro | rw | rwl | w1c | wo | rc
  deriving DecidableEq, Repr

/-- One field of a register table. -/
structure FieldRow where
  fld : Fld
  acc : Acc
  reset : Nat
  deriving DecidableEq, Repr

/-- One register table: the first offset, the (stride, count) pairs of its instances, outermost first, and its fields. -/
structure RegRow where
  base : Nat
  dims : List (Nat × Nat)
  fields : List FieldRow
  deriving DecidableEq, Repr

/-- Whether the remaining offset `d` names an instance of a register with these (stride, count) pairs. -/
def inDims : List (Nat × Nat) → Nat → Bool
  | [], d => d == 0
  | (stride, count) :: t, d => decide (d / stride < count) && inDims t (d % stride)

/-- The instance numbers, outermost first, that the remaining offset `d` names. -/
def idxDims : List (Nat × Nat) → Nat → List Nat
  | [], _ => []
  | (stride, _) :: t, d => d / stride :: idxDims t (d % stride)

namespace R

/-- GLB_ID (R4, chapter 00). -/
abbrev GLB_ID : Nat := 0x0
/-- GLB_MODE (R45, chapter 02). -/
abbrev GLB_MODE : Nat := 0x100
/-- GLB_MODE_REQ (R46, chapter 02). -/
abbrev GLB_MODE_REQ : Nat := 0x104
/-- GLB_MODE_RES (R47, chapter 02). -/
abbrev GLB_MODE_RES : Nat := 0x108
/-- GLB_DEGR_CAUSE (R48, chapter 02). -/
abbrev GLB_DEGR_CAUSE : Nat := 0x10C
/-- GLB_SAFE_CAUSE (R51, chapter 02). -/
abbrev GLB_SAFE_CAUSE : Nat := 0x110
/-- GLB_PAUSE_CFG (R49, chapter 02). -/
abbrev GLB_PAUSE_CFG : Nat := 0x114
/-- GLB_SVC_CTRL (R39, chapter 02). -/
abbrev GLB_SVC_CTRL : Nat := 0x118
/-- GLB_LOCKVIOL (R481, chapter 01). -/
abbrev GLB_LOCKVIOL : Nat := 0x11C
/-- GLB_IRQ_SRC (R32, chapter 01). -/
abbrev GLB_IRQ_SRC : Nat := 0x130
/-- GLB_IRQ_EN (R32, chapter 01). -/
abbrev GLB_IRQ_EN : Nat := 0x134
/-- GLB_IRQ_VECi (R32, chapter 01). -/
abbrev GLB_IRQ_VEC (n : Nat) : Nat := 0x138 + 4 * n
/-- GLB_ILK_CFG (R36, chapter 02). -/
abbrev GLB_ILK_CFG : Nat := 0x200
/-- GLB_ILK_CFG2 (R36, chapter 02). -/
abbrev GLB_ILK_CFG2 : Nat := 0x204
/-- GLB_ILK_STAT (R37, chapter 02). -/
abbrev GLB_ILK_STAT : Nat := 0x208
/-- GLB_ILKn_TRIPCNT (R41, chapter 02). -/
abbrev GLB_ILK_TRIPCNT (n : Nat) : Nat := 0x220 + 4 * n
/-- GLB_DRAMn_BASE (R29, chapter 01). -/
abbrev GLB_DRAM_BASE (n : Nat) : Nat := 0x400 + 0x10 * n
/-- GLB_DRAMn_SIZE (R29, chapter 01). -/
abbrev GLB_DRAM_SIZE (n : Nat) : Nat := 0x404 + 0x10 * n
/-- GLB_DRAM_COMMIT (R29, chapter 01). -/
abbrev GLB_DRAM_COMMIT : Nat := 0x480
/-- GLB_DRAM_STAT (R30, chapter 01). -/
abbrev GLB_DRAM_STAT : Nat := 0x484
/-- GLB_DRAM_CAP (R29, chapter 01). -/
abbrev GLB_DRAM_CAP : Nat := 0x488
/-- HQ_STAT (R58, chapter 03). -/
abbrev HQ_STAT : Nat := 0x100000
/-- HQ_JRN_SEQ (R80, chapter 03). -/
abbrev HQ_JRN_SEQ_LO : Nat := 0x100008
/-- HQ_JRN_SEQ(high) (R80, chapter 03). -/
abbrev HQ_JRN_SEQ_HI : Nat := 0x10000C
/-- HQ_JRN_CTRL (R81, chapter 03). -/
abbrev HQ_JRN_CTRL : Nat := 0x100010
/-- HQ_JRN_MIR (R81, chapter 03). -/
abbrev HQ_JRN_MIR_LO : Nat := 0x100018
/-- HQ_JRN_MIR(high) (R81, chapter 03). -/
abbrev HQ_JRN_MIR_HI : Nat := 0x10001C
/-- HQ_JRN_STALL (R72, chapter 03). -/
abbrev HQ_JRN_STALL : Nat := 0x100020
/-- HQ_APER (R61, chapter 03). -/
abbrev HQ_APER : Nat := 0x100030
/-- HQ_HOSTWD (R87, chapter 03). -/
abbrev HQ_HOSTWD : Nat := 0x100040
/-- HQ_HOSTWD_KICK (R87, chapter 03). -/
abbrev HQ_HOSTWD_KICK : Nat := 0x100044
/-- HQ_ETH_CFG (R83, chapter 03). -/
abbrev HQ_ETH_CFG : Nat := 0x100050
/-- HQ_ETH_AUTHDROP (R83, chapter 03). -/
abbrev HQ_ETH_AUTHDROP : Nat := 0x100058
/-- HQ_ETH_SEQDROP (R84, chapter 03). -/
abbrev HQ_ETH_SEQDROP : Nat := 0x10005C
/-- HQn_SQ_BASE (R62, chapter 03). -/
abbrev HQ_SQ_BASE_LO (n : Nat) : Nat := 0x101000 + 0x40 * n
/-- HQn_SQ_BASE(high) (R62, chapter 03). -/
abbrev HQ_SQ_BASE_HI (n : Nat) : Nat := 0x101004 + 0x40 * n
/-- HQn_CQ_BASE (R62, chapter 03). -/
abbrev HQ_CQ_BASE_LO (n : Nat) : Nat := 0x101008 + 0x40 * n
/-- HQn_CQ_BASE(high) (R62, chapter 03). -/
abbrev HQ_CQ_BASE_HI (n : Nat) : Nat := 0x10100C + 0x40 * n
/-- HQn_CFG (R62, chapter 03). -/
abbrev HQ_CFG (n : Nat) : Nat := 0x101010 + 0x40 * n
/-- HQn_STAT (R62, chapter 03). -/
abbrev HQ_QSTAT (n : Nat) : Nat := 0x101014 + 0x40 * n
/-- HQn_SQ_TAIL (R63, chapter 03). -/
abbrev HQ_SQ_TAIL (n : Nat) : Nat := 0x101018 + 0x40 * n
/-- HQn_CQ_HEAD (R63, chapter 03). -/
abbrev HQ_CQ_HEAD (n : Nat) : Nat := 0x10101C + 0x40 * n
/-- HQn_PTR (R65, chapter 03). -/
abbrev HQ_PTR (n : Nat) : Nat := 0x101020 + 0x40 * n
/-- BSQn_PC (R95, chapter 04). -/
abbrev BSQ_PC (n : Nat) : Nat := 0x200000 + 0x1000 * n
/-- BSQn_FAULT (R123, chapter 04). -/
abbrev BSQ_FAULT (n : Nat) : Nat := 0x200004 + 0x1000 * n
/-- BSQn_FAULT_PC (R123, chapter 04). -/
abbrev BSQ_FAULT_PC (n : Nat) : Nat := 0x200008 + 0x1000 * n
/-- BSQn_STATE (R88, chapter 04). -/
abbrev BSQ_STATE (n : Nat) : Nat := 0x20000C + 0x1000 * n
/-- BSQn_STALLCNT (R97, chapter 04). -/
abbrev BSQ_STALLCNT (n : Nat) : Nat := 0x200010 + 0x1000 * n
/-- BSQn_QDROP (R120, chapter 04). -/
abbrev BSQ_QDROP (n : Nat) : Nat := 0x200014 + 0x1000 * n
/-- BSQn_EVT (R118, chapter 04). -/
abbrev BSQ_EVT (n : Nat) : Nat := 0x200018 + 0x1000 * n
/-- BSQn_SWBCNT (R152, chapter 05). -/
abbrev BSQ_SWBCNT (n : Nat) : Nat := 0x200020 + 0x1000 * n
/-- BSQn_DLYCLAMP (R133, chapter 05). -/
abbrev BSQ_DLYCLAMP (n : Nat) : Nat := 0x200024 + 0x1000 * n
/-- BSQn_SWB (R152, chapter 05). -/
abbrev BSQ_SWB (n : Nat) : Nat := 0x200028 + 0x1000 * n
/-- BSQn_Gi (R88, chapter 04). -/
abbrev BSQ_G (n i : Nat) : Nat := 0x200040 + 0x1000 * n + 4 * i
/-- BSQ_Hh_JPROF (R131, chapter 05). -/
abbrev BSQ_H_JPROF (n : Nat) : Nat := 0x21C000 + 0x10 * n
/-- BSQ_Hh_STARVE (R151, chapter 05). -/
abbrev BSQ_H_STARVE (n : Nat) : Nat := 0x21C004 + 0x10 * n
/-- BSQ_Hh_BACK (R154, chapter 05). -/
abbrev BSQ_H_BACK (n : Nat) : Nat := 0x21C008 + 0x10 * n
/-- BSQ_EXC_CFG (R157, chapter 05). -/
abbrev BSQ_EXC_CFG : Nat := 0x21C200
/-- TSC_STAT (R162, chapter 06). -/
abbrev TSC_STAT : Nat := 0x300000
/-- TSC_REJ (R162, chapter 06). -/
abbrev TSC_REJ : Nat := 0x300004
/-- TSC_NTILES (R162, chapter 06). -/
abbrev TSC_NTILES : Nat := 0x300008
/-- TSC_CFG (R172, chapter 06). -/
abbrev TSC_CFG : Nat := 0x30000C
/-- TSC_CFG2 (R185, chapter 06). -/
abbrev TSC_CFG2 : Nat := 0x300010
/-- TSC_WAKE_DIR (R170, chapter 06). -/
abbrev TSC_WAKE_DIR : Nat := 0x300014
/-- TSC_JOIN (R188, chapter 06). -/
abbrev TSC_JOIN : Nat := 0x300018
/-- TSC_JOIN_ACC (R187, chapter 06). -/
abbrev TSC_JOIN_ACC : Nat := 0x30001C
/-- TSC_TWIN (R181, chapter 06). -/
abbrev TSC_TWIN : Nat := 0x300020
/-- TSC_HEADS (R186, chapter 06). -/
abbrev TSC_HEADS : Nat := 0x300024
/-- TSC_HEAD_REMOVE (R186, chapter 06). -/
abbrev TSC_HEAD_REMOVE : Nat := 0x300028
/-- TSC_HEAD_RESTORE (R192, chapter 06). -/
abbrev TSC_HEAD_RESTORE : Nat := 0x30002C
/-- TSC_EVT_POST (R169, chapter 06). -/
abbrev TSC_EVT_POST : Nat := 0x300030
/-- TSC_SVC (R166, chapter 06). -/
abbrev TSC_SVC : Nat := 0x300034
/-- TSC_EVTn (R169, chapter 06). -/
abbrev TSC_EVT (n : Nat) : Nat := 0x300040 + 4 * n
/-- TSC_GRANTS (R176, chapter 06). -/
abbrev TSC_GRANTS : Nat := 0x300080
/-- TSC_RACES (R177, chapter 06). -/
abbrev TSC_RACES : Nat := 0x300084
/-- TSC_EXCLWAIT (R176, chapter 06). -/
abbrev TSC_EXCLWAIT : Nat := 0x300088
/-- TSC_GUARDCNT (R184, chapter 06). -/
abbrev TSC_GUARDCNT : Nat := 0x30008C
/-- TSC_DETOURS (R186, chapter 06). -/
abbrev TSC_DETOURS : Nat := 0x300090
/-- TSC_PARKCNT (R191, chapter 06). -/
abbrev TSC_PARKCNT : Nat := 0x300094
/-- TSC_DLMISS (R176, chapter 06). -/
abbrev TSC_DLMISS : Nat := 0x300098
/-- TSC_TWMISS (R183, chapter 06). -/
abbrev TSC_TWMISS : Nat := 0x30009C
/-- TSC_SIGUNDECL (R169, chapter 06). -/
abbrev TSC_SIGUNDECL : Nat := 0x3000A0
/-- TSC_Hh_FXMIN (R162, chapter 06). -/
abbrev TSC_H_FXMIN (n : Nat) : Nat := 0x300100 + 0x20 * n
/-- TSC_Hh_FYMIN (R162, chapter 06). -/
abbrev TSC_H_FYMIN (n : Nat) : Nat := 0x300104 + 0x20 * n
/-- TSC_Hh_FXMAX (R162, chapter 06). -/
abbrev TSC_H_FXMAX (n : Nat) : Nat := 0x300108 + 0x20 * n
/-- TSC_Hh_FYMAX (R162, chapter 06). -/
abbrev TSC_H_FYMAX (n : Nat) : Nat := 0x30010C + 0x20 * n
/-- TSC_Hh_STATION (R181, chapter 06). -/
abbrev TSC_H_STATION (n : Nat) : Nat := 0x300110 + 0x20 * n
/-- TSC_Hh_STAT (R186, chapter 06). -/
abbrev TSC_H_STAT (n : Nat) : Nat := 0x300114 + 0x20 * n
/-- BLD_STAT (R213, chapter 07). -/
abbrev BLD_STAT : Nat := 0x400000
/-- BLD_COMMIT (R214, chapter 07). -/
abbrev BLD_COMMIT : Nat := 0x400004
/-- BLD_CLASSc_TIME (R198, chapter 07). -/
abbrev BLD_CLASS_TIME (n : Nat) : Nat := 0x400100 + 0x20 * n
/-- BLD_CLASSc_LVL (R198, chapter 07). -/
abbrev BLD_CLASS_LVL (n : Nat) : Nat := 0x400104 + 0x20 * n
/-- BLD_CLASSc_DIAG0 (R210, chapter 07). -/
abbrev BLD_CLASS_DIAG0 (n : Nat) : Nat := 0x400108 + 0x20 * n
/-- BLD_CLASSc_DIAG1 (R210, chapter 07). -/
abbrev BLD_CLASS_DIAG1 (n : Nat) : Nat := 0x40010C + 0x20 * n
/-- BLD_CLASSc_DIAG2 (R210, chapter 07). -/
abbrev BLD_CLASS_DIAG2 (n : Nat) : Nat := 0x400110 + 0x20 * n
/-- BLD_CLASSc_NDIAG (R211, chapter 07). -/
abbrev BLD_CLASS_NDIAG (n : Nat) : Nat := 0x400114 + 0x20 * n
/-- BLD_CAa_CFG (R202, chapter 07). -/
abbrev BLD_CA_CFG (n : Nat) : Nat := 0x400200 + 0x10 * n
/-- BLD_CAa_CTL (R205, chapter 07). -/
abbrev BLD_CA_CTL (n : Nat) : Nat := 0x400204 + 0x10 * n
/-- BLD_CAa_STAT (R205, chapter 07). -/
abbrev BLD_CA_STAT (n : Nat) : Nat := 0x400208 + 0x10 * n
/-- BLD_CAa_SWAPCNT (R205, chapter 07). -/
abbrev BLD_CA_SWAPCNT (n : Nat) : Nat := 0x400300 + 0x10 * n
/-- BLD_CAa_SWAPMISS (R205, chapter 07). -/
abbrev BLD_CA_SWAPMISS (n : Nat) : Nat := 0x400304 + 0x10 * n
/-- BLD_CAa_WRVIOL (R204, chapter 07). -/
abbrev BLD_CA_WRVIOL (n : Nat) : Nat := 0x400308 + 0x10 * n
/-- BLD_Hh_BCLASS (R194, chapter 07). -/
abbrev BLD_H_BCLASS (n : Nat) : Nat := 0x401000 + 0x100 * n
/-- BLD_Hh_BCFG (R197, chapter 07). -/
abbrev BLD_H_BCFG (n : Nat) : Nat := 0x401004 + 0x100 * n
/-- BLD_Hh_DTAB (R203, chapter 07). -/
abbrev BLD_H_DTAB (n : Nat) : Nat := 0x401008 + 0x100 * n
/-- BLD_Hh_SHARE (R201, chapter 07). -/
abbrev BLD_H_SHARE (n : Nat) : Nat := 0x40100C + 0x100 * n
/-- BLD_Hh_OVS (R207, chapter 07). -/
abbrev BLD_H_OVS (n : Nat) : Nat := 0x401010 + 0x100 * n
/-- BLD_Hh_DIAG (R210, chapter 07). -/
abbrev BLD_H_DIAG (n : Nat) : Nat := 0x401014 + 0x100 * n
/-- BLD_Hh_FMASK (R210, chapter 07). -/
abbrev BLD_H_FMASK (n : Nat) : Nat := 0x401018 + 0x100 * n
/-- BLD_Hh_UNMASK (R210, chapter 07). -/
abbrev BLD_H_UNMASK (n : Nat) : Nat := 0x40101C + 0x100 * n
/-- BLD_Hh_MINCLAMP (R198, chapter 07). -/
abbrev BLD_H_MINCLAMP (n : Nat) : Nat := 0x401040 + 0x100 * n
/-- BLD_Hh_CURVEMISS (R195, chapter 07). -/
abbrev BLD_H_CURVEMISS (n : Nat) : Nat := 0x401044 + 0x100 * n
/-- BLD_Hh_OVS_REJ (R207, chapter 07). -/
abbrev BLD_H_OVS_REJ (n : Nat) : Nat := 0x401048 + 0x100 * n
/-- BLD_Hh_OVS_STRETCH (R207, chapter 07). -/
abbrev BLD_H_OVS_STRETCH (n : Nat) : Nat := 0x40104C + 0x100 * n
/-- BLD_Hh_OVS_SPLIT (R207, chapter 07). -/
abbrev BLD_H_OVS_SPLIT (n : Nat) : Nat := 0x401050 + 0x100 * n
/-- BLD_Hh_PROBES (R211, chapter 07). -/
abbrev BLD_H_PROBES (n : Nat) : Nat := 0x401054 + 0x100 * n
/-- BLD_Hh_DIAGFAIL (R210, chapter 07). -/
abbrev BLD_H_DIAGFAIL (n : Nat) : Nat := 0x401058 + 0x100 * n
/-- LNn_CFG (R244, chapter 08). -/
abbrev LN_CFG (n : Nat) : Nat := 0x500000 + 0x1000 * n
/-- LNn_STAT (R244, chapter 08). -/
abbrev LN_STAT (n : Nat) : Nat := 0x500004 + 0x1000 * n
/-- LNn_DLY_DN (R237, chapter 08). -/
abbrev LN_DLY_DN (n : Nat) : Nat := 0x500008 + 0x1000 * n
/-- LNn_DLY_UP (R237, chapter 08). -/
abbrev LN_DLY_UP (n : Nat) : Nat := 0x50000C + 0x1000 * n
/-- LNn_ASYM (R237, chapter 08). -/
abbrev LN_ASYM (n : Nat) : Nat := 0x500010 + 0x1000 * n
/-- LNn_MSG_CFG (R240, chapter 08). -/
abbrev LN_MSG_CFG (n : Nat) : Nat := 0x500014 + 0x1000 * n
/-- LNn_CAPi (R245, chapter 08). -/
abbrev LN_CAP (n i : Nat) : Nat := 0x500020 + 0x1000 * n + 4 * i
/-- LNn_CHAIN (R245, chapter 08). -/
abbrev LN_CHAIN (n : Nat) : Nat := 0x500030 + 0x1000 * n
/-- LNn_PEP_CTL (R252, chapter 08). -/
abbrev LN_PEP_CTL (n : Nat) : Nat := 0x500040 + 0x1000 * n
/-- LNn_PEP_INJ (R254, chapter 08). -/
abbrev LN_PEP_INJ (n : Nat) : Nat := 0x500044 + 0x1000 * n
/-- LNn_PEP_INJCNT (R254, chapter 08). -/
abbrev LN_PEP_INJCNT (n : Nat) : Nat := 0x500048 + 0x1000 * n
/-- LNn_PEP_STAT (R253, chapter 08). -/
abbrev LN_PEP_STAT (n : Nat) : Nat := 0x50004C + 0x1000 * n
/-- LNn_CW_CORR (R224, chapter 08). -/
abbrev LN_CW_CORR (n : Nat) : Nat := 0x500080 + 0x1000 * n
/-- LNn_CW_UNCORR (R224, chapter 08). -/
abbrev LN_CW_UNCORR (n : Nat) : Nat := 0x500084 + 0x1000 * n
/-- LNn_SYM_CORR (R224, chapter 08). -/
abbrev LN_SYM_CORR (n : Nat) : Nat := 0x500088 + 0x1000 * n
/-- LNn_UP_MISS (R235, chapter 08). -/
abbrev LN_UP_MISS (n : Nat) : Nat := 0x50008C + 0x1000 * n
/-- LNn_HEAD_MISS (R235, chapter 08). -/
abbrev LN_HEAD_MISS (n : Nat) : Nat := 0x500090 + 0x1000 * n
/-- LNn_LOSSCNT (R249, chapter 08). -/
abbrev LN_LOSSCNT (n : Nat) : Nat := 0x500094 + 0x1000 * n
/-- LNn_LATEFRM (R231, chapter 08). -/
abbrev LN_LATEFRM (n : Nat) : Nat := 0x500098 + 0x1000 * n
/-- LNn_MSG_RETRY (R240, chapter 08). -/
abbrev LN_MSG_RETRY (n : Nat) : Nat := 0x50009C + 0x1000 * n
/-- LNn_STALE (R240, chapter 08). -/
abbrev LN_STALE (n : Nat) : Nat := 0x5000A0 + 0x1000 * n
/-- LNn_BLKERR (R225, chapter 08). -/
abbrev LN_BLKERR (n : Nat) : Nat := 0x5000A4 + 0x1000 * n
/-- LNn_PEP_BITERR (R253, chapter 08). -/
abbrev LN_PEP_BITERR (n : Nat) : Nat := 0x5000A8 + 0x1000 * n
/-- LNn_PEP_SYMERR (R253, chapter 08). -/
abbrev LN_PEP_SYMERR (n : Nat) : Nat := 0x5000AC + 0x1000 * n
/-- LNn_PEP_MBITS (R253, chapter 08). -/
abbrev LN_PEP_MBITS (n : Nat) : Nat := 0x5000B0 + 0x1000 * n
/-- LNn_FRMERR (R235, chapter 08). -/
abbrev LN_FRMERR (n : Nat) : Nat := 0x5000B4 + 0x1000 * n
/-- CEN_STAT (R271, chapter 09). -/
abbrev CEN_STAT : Nat := 0x600000
/-- CEN_COMMIT (R271, chapter 09). -/
abbrev CEN_COMMIT : Nat := 0x600004
/-- CEN_CFG (R261, chapter 09). -/
abbrev CEN_CFG : Nat := 0x600008
/-- CEN_GSCOUNT (R271, chapter 09). -/
abbrev CEN_GSCOUNT : Nat := 0x60000C
/-- CEN_SPDBANDi (R266, chapter 09). -/
abbrev CEN_SPDBAND (n : Nat) : Nat := 0x600010 + 4 * n
/-- CEN_LIDX (R273, chapter 09). -/
abbrev CEN_LIDX : Nat := 0x600040
/-- CEN_LCTL (R273, chapter 09). -/
abbrev CEN_LCTL : Nat := 0x600044
/-- CEN_LMAN (R273, chapter 09). -/
abbrev CEN_LMAN : Nat := 0x600048
/-- CEN_LK (R258, chapter 09). -/
abbrev CEN_LK : Nat := 0x60004C
/-- CEN_LINTG (R264, chapter 09). -/
abbrev CEN_LINTG : Nat := 0x600050
/-- CEN_LSTAT (R274, chapter 09). -/
abbrev CEN_LSTAT : Nat := 0x600054
/-- CEN_TRC_CFG (R281, chapter 09). -/
abbrev CEN_TRC_CFG : Nat := 0x600080
/-- CEN_TRC_SEL (R280, chapter 09). -/
abbrev CEN_TRC_SEL : Nat := 0x600084
/-- CEN_TRC_POST (R282, chapter 09). -/
abbrev CEN_TRC_POST : Nat := 0x600088
/-- CEN_TRC_CTL (R281, chapter 09). -/
abbrev CEN_TRC_CTL : Nat := 0x60008C
/-- CEN_TRC_STAT (R281, chapter 09). -/
abbrev CEN_TRC_STAT : Nat := 0x600090
/-- CEN_TRC_WPTR (R279, chapter 09). -/
abbrev CEN_TRC_WPTR : Nat := 0x600094
/-- CEN_TRC_TPTR (R282, chapter 09). -/
abbrev CEN_TRC_TPTR : Nat := 0x600098
/-- CEN_TRC_SPILL (R281, chapter 09). -/
abbrev CEN_TRC_SPILL : Nat := 0x60009C
/-- CEN_TRC_SPILLDROP (R281, chapter 09). -/
abbrev CEN_TRC_SPILLDROP : Nat := 0x6000A0
/-- CEN_CEe_STAT (R276, chapter 09). -/
abbrev CEN_CE_STAT (n : Nat) : Nat := 0x600100 + 0x20 * n
/-- CEN_CEe_MISS (R260, chapter 09). -/
abbrev CEN_CE_MISS (n : Nat) : Nat := 0x600104 + 0x20 * n
/-- CEN_CEe_PHERR (R260, chapter 09). -/
abbrev CEN_CE_PHERR (n : Nat) : Nat := 0x600108 + 0x20 * n
/-- CEN_CEe_IDXMISS (R268, chapter 09). -/
abbrev CEN_CE_IDXMISS (n : Nat) : Nat := 0x60010C + 0x20 * n
/-- CEN_CEe_ACCSAT (R262, chapter 09). -/
abbrev CEN_CE_ACCSAT (n : Nat) : Nat := 0x600110 + 0x20 * n
/-- CEN_CEe_TRCDROP (R267, chapter 09). -/
abbrev CEN_CE_TRCDROP (n : Nat) : Nat := 0x600114 + 0x20 * n
/-- CEN_CEe_XFER (R274, chapter 09). -/
abbrev CEN_CE_XFER (n : Nat) : Nat := 0x600118 + 0x20 * n
/-- MAP_CFG (R285, chapter 10). -/
abbrev MAP_CFG : Nat := 0x700000
/-- MAP_SAF_CFG (R300, chapter 10). -/
abbrev MAP_SAF_CFG : Nat := 0x700010
/-- MAP_SAF_TGT (R300, chapter 10). -/
abbrev MAP_SAF_TGT : Nat := 0x700014
/-- MAP_SAF_STAT (R300, chapter 10). -/
abbrev MAP_SAF_STAT : Nat := 0x700018
/-- MAP_SAF_NOSIG (R299, chapter 10). -/
abbrev MAP_SAF_NOSIG : Nat := 0x70001C
/-- MAP_SAFc_RATIO (R300, chapter 10). -/
abbrev MAP_SAF_RATIO (n : Nat) : Nat := 0x700040 + 0x20 * n
/-- MAP_SAFc_BASE (R297, chapter 10). -/
abbrev MAP_SAF_BASE (n : Nat) : Nat := 0x700044 + 0x20 * n
/-- MAP_SAFc_PDLY (R297, chapter 10). -/
abbrev MAP_SAF_PDLY (n : Nat) : Nat := 0x700048 + 0x20 * n
/-- MAP_SAFc_S (R300, chapter 10). -/
abbrev MAP_SAF_S (n : Nat) : Nat := 0x70004C + 0x20 * n
/-- MAP_SAFc_SMIN (R300, chapter 10). -/
abbrev MAP_SAF_SMIN (n : Nat) : Nat := 0x700050 + 0x20 * n
/-- MAP_SAFc_SMAX (R300, chapter 10). -/
abbrev MAP_SAF_SMAX (n : Nat) : Nat := 0x700054 + 0x20 * n
/-- MAP_SAFc_E (R299, chapter 10). -/
abbrev MAP_SAF_E (n : Nat) : Nat := 0x700058 + 0x20 * n
/-- MAPp_CTL (R303, chapter 10). -/
abbrev MAP_CTL (n : Nat) : Nat := 0x701000 + 0x1000 * n
/-- MAPp_STAT (R302, chapter 10). -/
abbrev MAP_STAT (n : Nat) : Nat := 0x701004 + 0x1000 * n
/-- MAPp_COMMIT (R302, chapter 10). -/
abbrev MAP_COMMIT (n : Nat) : Nat := 0x701008 + 0x1000 * n
/-- MAPp_GEOM (R302, chapter 10). -/
abbrev MAP_GEOM (n : Nat) : Nat := 0x701010 + 0x1000 * n
/-- MAPp_FRAME (R302, chapter 10). -/
abbrev MAP_FRAME (n : Nat) : Nat := 0x701014 + 0x1000 * n
/-- MAPp_TIMING (R302, chapter 10). -/
abbrev MAP_TIMING (n : Nat) : Nat := 0x701018 + 0x1000 * n
/-- MAPp_GUARD (R297, chapter 10). -/
abbrev MAP_GUARD (n : Nat) : Nat := 0x70101C + 0x1000 * n
/-- MAPp_SEQk_A (R292, chapter 10). -/
abbrev MAP_SEQ_A (n i : Nat) : Nat := 0x701040 + 0x1000 * n + 8 * i
/-- MAPp_SEQk_B (R292, chapter 10). -/
abbrev MAP_SEQ_B (n i : Nat) : Nat := 0x701044 + 0x1000 * n + 8 * i
/-- MAPp_SUBMIT (R289, chapter 10). -/
abbrev MAP_SUBMIT (n : Nat) : Nat := 0x701100 + 0x1000 * n
/-- MAPp_FREE (R290, chapter 10). -/
abbrev MAP_FREE (n : Nat) : Nat := 0x701104 + 0x1000 * n
/-- MAPp_BUFSTi (R288, chapter 10). -/
abbrev MAP_BUFST (n i : Nat) : Nat := 0x701110 + 0x1000 * n + 4 * i
/-- MAPp_FNUM (R307, chapter 10). -/
abbrev MAP_FNUM (n : Nat) : Nat := 0x701130 + 0x1000 * n
/-- MAPp_FBUF (R307, chapter 10). -/
abbrev MAP_FBUF (n : Nat) : Nat := 0x701134 + 0x1000 * n
/-- MAPp_FLIP0 (R307, chapter 10). -/
abbrev MAP_FLIP (n i : Nat) : Nat := 0x701138 + 0x1000 * n + 4 * i
/-- MAPp_QDEPTH (R289, chapter 10). -/
abbrev MAP_QDEPTH (n : Nat) : Nat := 0x701144 + 0x1000 * n
/-- MAPp_NFR (R303, chapter 10). -/
abbrev MAP_NFR (n : Nat) : Nat := 0x701148 + 0x1000 * n
/-- MAPp_UNDERRUN (R304, chapter 10). -/
abbrev MAP_UNDERRUN (n : Nat) : Nat := 0x701180 + 0x1000 * n
/-- MAPp_PLANELATE (R294, chapter 10). -/
abbrev MAP_PLANELATE (n : Nat) : Nat := 0x701184 + 0x1000 * n
/-- MAPp_DEFERFREE (R290, chapter 10). -/
abbrev MAP_DEFERFREE (n : Nat) : Nat := 0x701188 + 0x1000 * n
/-- MAPp_LATECOMMIT (R301, chapter 10). -/
abbrev MAP_LATECOMMIT (n : Nat) : Nat := 0x70118C + 0x1000 * n
/-- MAPp_WRVIOL (R291, chapter 10). -/
abbrev MAP_WRVIOL (n : Nat) : Nat := 0x701190 + 0x1000 * n
/-- MAPp_PCAP (R297, chapter 10). -/
abbrev MAP_PCAP (n : Nat) : Nat := 0x701194 + 0x1000 * n
/-- MAPp_LINEERR (R311, chapter 10). -/
abbrev MAP_LINEERR (n : Nat) : Nat := 0x701198 + 0x1000 * n
/-- MAPp_SUBREJ (R289, chapter 10). -/
abbrev MAP_SUBREJ (n : Nat) : Nat := 0x70119C + 0x1000 * n
/-- MAPp_QDROP (R307, chapter 10). -/
abbrev MAP_QDROP (n : Nat) : Nat := 0x7011A0 + 0x1000 * n
/-- AXF_STAT (R336, chapter 11). -/
abbrev AXF_STAT : Nat := 0x800000
/-- AXF_COMMIT (R336, chapter 11). -/
abbrev AXF_COMMIT : Nat := 0x800004
/-- AXF_AXa_CFG (R313, chapter 11). -/
abbrev AXF_AX_CFG (n : Nat) : Nat := 0x800100 + 0x40 * n
/-- AXF_AXa_CFG2 (R316, chapter 11). -/
abbrev AXF_AX_CFG2 (n : Nat) : Nat := 0x800104 + 0x40 * n
/-- AXF_AXa_HYST (R325, chapter 11). -/
abbrev AXF_AX_HYST (n : Nat) : Nat := 0x800108 + 0x40 * n
/-- AXF_AXa_IDXPER (R319, chapter 11). -/
abbrev AXF_AX_IDXPER (n : Nat) : Nat := 0x80010C + 0x40 * n
/-- AXF_AXa_IDXREF (R319, chapter 11). -/
abbrev AXF_AX_IDXREF_LO (n : Nat) : Nat := 0x800110 + 0x40 * n
/-- AXF_AXa_IDXREF(high) (R319, chapter 11). -/
abbrev AXF_AX_IDXREF_HI (n : Nat) : Nat := 0x800114 + 0x40 * n
/-- AXF_AXa_WMFIRED (R325, chapter 11). -/
abbrev AXF_AX_WMFIRED (n : Nat) : Nat := 0x800118 + 0x40 * n
/-- AXF_AXa_WMPASSED (R324, chapter 11). -/
abbrev AXF_AX_WMPASSED (n : Nat) : Nat := 0x80011C + 0x40 * n
/-- AXF_AXa_POS (R313, chapter 11). -/
abbrev AXF_AX_POS_LO (n : Nat) : Nat := 0x800120 + 0x40 * n
/-- AXF_AXa_POS(high) (R313, chapter 11). -/
abbrev AXF_AX_POS_HI (n : Nat) : Nat := 0x800124 + 0x40 * n
/-- AXF_AXa_SPEED (R322, chapter 11). -/
abbrev AXF_AX_SPEED (n : Nat) : Nat := 0x800128 + 0x40 * n
/-- AXF_AXa_STAT (R318, chapter 11). -/
abbrev AXF_AX_STAT (n : Nat) : Nat := 0x80012C + 0x40 * n
/-- AXF_AXa_IDXOBS (R319, chapter 11). -/
abbrev AXF_AX_IDXOBS_LO (n : Nat) : Nat := 0x800130 + 0x40 * n
/-- AXF_AXa_IDXOBS(high) (R319, chapter 11). -/
abbrev AXF_AX_IDXOBS_HI (n : Nat) : Nat := 0x800134 + 0x40 * n
/-- AXF_AXa_ERRCNT (R314, chapter 11). -/
abbrev AXF_AX_ERRCNT (n : Nat) : Nat := 0x800138 + 0x40 * n
/-- AXF_AXa_IDXERR (R319, chapter 11). -/
abbrev AXF_AX_IDXERR (n : Nat) : Nat := 0x80013C + 0x40 * n
/-- AXF_CMPn_CFG (R327, chapter 11). -/
abbrev AXF_CMP_CFG (n : Nat) : Nat := 0x800300 + 4 * n
/-- AXF_PDETd_CFG (R329, chapter 11). -/
abbrev AXF_PDET_CFG (n : Nat) : Nat := 0x800400 + 0x10 * n
/-- AXF_PDETd_REJOFS (R331, chapter 11). -/
abbrev AXF_PDET_REJOFS (n : Nat) : Nat := 0x800404 + 0x10 * n
/-- AXF_PDETd_REJOUT (R331, chapter 11). -/
abbrev AXF_PDET_REJOUT (n : Nat) : Nat := 0x800408 + 0x10 * n
/-- AXF_PDETd_NOREC (R329, chapter 11). -/
abbrev AXF_PDET_NOREC (n : Nat) : Nat := 0x80040C + 0x10 * n
/-- AXF_PDETd_BLANKED (R329, chapter 11). -/
abbrev AXF_PDET_BLANKED (n : Nat) : Nat := 0x800480 + 4 * n
/-- AXF_PQ_STAT (R328, chapter 11). -/
abbrev AXF_PQ_STAT : Nat := 0x800500
/-- AXF_PQ_CFG (R332, chapter 11). -/
abbrev AXF_PQ_CFG : Nat := 0x800504
/-- AXF_PQ_CODED (R331, chapter 11). -/
abbrev AXF_PQ_CODED : Nat := 0x800508
/-- AXF_PQ_REJECTED (R331, chapter 11). -/
abbrev AXF_PQ_REJECTED : Nat := 0x80050C
/-- AXF_PQ_QDROP (R332, chapter 11). -/
abbrev AXF_PQ_QDROP : Nat := 0x800510
/-- AXF_MDm_CFG (R334, chapter 11). -/
abbrev AXF_MD_CFG (n : Nat) : Nat := 0x800600 + 0x10 * n
/-- AXF_MDm_STOPTHR (R334, chapter 11). -/
abbrev AXF_MD_STOPTHR (n : Nat) : Nat := 0x800604 + 0x10 * n
/-- AXF_MDm_ACC (R334, chapter 11). -/
abbrev AXF_MD_ACC (n : Nat) : Nat := 0x800608 + 0x10 * n
/-- AXF_MDm_STAT (R334, chapter 11). -/
abbrev AXF_MD_STAT (n : Nat) : Nat := 0x80060C + 0x10 * n
/-- AXF_AOk_CFG (R335, chapter 11). -/
abbrev AXF_AO_CFG (n : Nat) : Nat := 0x800700 + 4 * n
/-- AXF_AIj_CFG (R335, chapter 11). -/
abbrev AXF_AI_CFG (n : Nat) : Nat := 0x800720 + 4 * n
/-- AXF_AI_TMO (R335, chapter 11). -/
abbrev AXF_AI_TMO : Nat := 0x800740
/-- AXF_AI_STAT (R335, chapter 11). -/
abbrev AXF_AI_STAT : Nat := 0x800744
/-- AXF_AI_REJECT (R335, chapter 11). -/
abbrev AXF_AI_REJECT : Nat := 0x800748
/-- AXF_AIj (R335, chapter 11). -/
abbrev AXF_AI (n : Nat) : Nat := 0x800760 + 4 * n
/-- CAMc_CFG (R337, chapter 12). -/
abbrev CAM_CFG (n : Nat) : Nat := 0x901000 + 0x1000 * n
/-- CAMc_STAT (R344, chapter 12). -/
abbrev CAM_STAT (n : Nat) : Nat := 0x901004 + 0x1000 * n
/-- CAMc_COMMIT (R344, chapter 12). -/
abbrev CAM_COMMIT (n : Nat) : Nat := 0x901008 + 0x1000 * n
/-- CAMc_FNUM (R346, chapter 12). -/
abbrev CAM_FNUM (n : Nat) : Nat := 0x90100C + 0x1000 * n
/-- CAMc_SNAP (R341, chapter 12). -/
abbrev CAM_SNAP (n : Nat) : Nat := 0x901010 + 0x1000 * n
/-- CAMc_TAP (R349, chapter 12). -/
abbrev CAM_TAP (n : Nat) : Nat := 0x901014 + 0x1000 * n
/-- CAMc_TAPCFG (R349, chapter 12). -/
abbrev CAM_TAPCFG (n : Nat) : Nat := 0x901018 + 0x1000 * n
/-- CAMc_TAPWP (R349, chapter 12). -/
abbrev CAM_TAPWP (n : Nat) : Nat := 0x90101C + 0x1000 * n
/-- CAMc_ESET (R344, chapter 12). -/
abbrev CAM_ESET (n : Nat) : Nat := 0x901100 + 0x1000 * n
/-- CAMc_TRIG (R341, chapter 12). -/
abbrev CAM_TRIG (n : Nat) : Nat := 0x901104 + 0x1000 * n
/-- CAMc_PER (R341, chapter 12). -/
abbrev CAM_PER (n : Nat) : Nat := 0x901108 + 0x1000 * n
/-- CAMc_TDLY (R341, chapter 12). -/
abbrev CAM_TDLY (n : Nat) : Nat := 0x90110C + 0x1000 * n
/-- CAMc_EXP (R342, chapter 12). -/
abbrev CAM_EXP (n : Nat) : Nat := 0x901110 + 0x1000 * n
/-- CAMc_GEOM (R345, chapter 12). -/
abbrev CAM_GEOM (n : Nat) : Nat := 0x901114 + 0x1000 * n
/-- CAMc_CORR (R348, chapter 12). -/
abbrev CAM_CORR (n : Nat) : Nat := 0x901118 + 0x1000 * n
/-- CAMc_THR (R353, chapter 12). -/
abbrev CAM_THR (n : Nat) : Nat := 0x90111C + 0x1000 * n
/-- CAMc_ROIr_X (R353, chapter 12). -/
abbrev CAM_ROI_X (n i : Nat) : Nat := 0x901120 + 0x1000 * n + 8 * i
/-- CAMc_ROIr_Y (R353, chapter 12). -/
abbrev CAM_ROI_Y (n i : Nat) : Nat := 0x901124 + 0x1000 * n + 8 * i
/-- CAMc_GRID (R354, chapter 12). -/
abbrev CAM_GRID (n : Nat) : Nat := 0x901140 + 0x1000 * n
/-- CAMc_SHORTCNT (R346, chapter 12). -/
abbrev CAM_SHORTCNT (n : Nat) : Nat := 0x901080 + 0x1000 * n
/-- CAMc_LONGCNT (R346, chapter 12). -/
abbrev CAM_LONGCNT (n : Nat) : Nat := 0x901084 + 0x1000 * n
/-- CAMc_LINEERR (R346, chapter 12). -/
abbrev CAM_LINEERR (n : Nat) : Nat := 0x901088 + 0x1000 * n
/-- CAMc_TRGDROP (R342, chapter 12). -/
abbrev CAM_TRGDROP (n : Nat) : Nat := 0x90108C + 0x1000 * n
/-- CAMc_TRGMISS (R343, chapter 12). -/
abbrev CAM_TRGMISS (n : Nat) : Nat := 0x901090 + 0x1000 * n
/-- CAMc_TRGLATE (R340, chapter 12). -/
abbrev CAM_TRGLATE (n : Nat) : Nat := 0x901094 + 0x1000 * n
/-- CAMc_UNTRIG (R343, chapter 12). -/
abbrev CAM_UNTRIG (n : Nat) : Nat := 0x901098 + 0x1000 * n
/-- CAMc_TAPDROP (R350, chapter 12). -/
abbrev CAM_TAPDROP (n : Nat) : Nat := 0x90109C + 0x1000 * n
/-- TIM_STAT (R357, chapter 13). -/
abbrev TIM_STAT : Nat := 0xA00000
/-- TIM_COMMIT (R379, chapter 13). -/
abbrev TIM_COMMIT : Nat := 0xA00004
/-- TIM_NOW (R26, chapter 13). -/
abbrev TIM_NOW (n : Nat) : Nat := 0xA00010 + 4 * n
/-- TIM_REF_CFG (R357, chapter 13). -/
abbrev TIM_REF_CFG : Nat := 0xA00020
/-- TIM_RATE (R356, chapter 13). -/
abbrev TIM_RATE : Nat := 0xA00024
/-- TIM_RATE_SET (R356, chapter 13). -/
abbrev TIM_RATE_SET : Nat := 0xA00028
/-- TIM_REFSWCNT (R357, chapter 13). -/
abbrev TIM_REFSWCNT : Nat := 0xA0002C
/-- TIM_START_CFG (R361, chapter 13). -/
abbrev TIM_START_CFG : Nat := 0xA00030
/-- TIM_CAPMISS (R359, chapter 13). -/
abbrev TIM_CAPMISS : Nat := 0xA00034
/-- TIM_PTP_STAT (R366, chapter 13). -/
abbrev TIM_PTP_STAT : Nat := 0xA00040
/-- TIM_PTP_OFS (R368, chapter 13). -/
abbrev TIM_PTP_OFS_LO : Nat := 0xA00044
/-- TIM_PTP_OFS(high) (R368, chapter 13). -/
abbrev TIM_PTP_OFS_HI : Nat := 0xA00048
/-- TIM_PTP_MPD (R371, chapter 13). -/
abbrev TIM_PTP_MPD : Nat := 0xA0004C
/-- TIM_PTP_GM (R370, chapter 13). -/
abbrev TIM_PTP_GM_LO : Nat := 0xA00050
/-- TIM_PTP_GM(high) (R370, chapter 13). -/
abbrev TIM_PTP_GM_HI : Nat := 0xA00054
/-- TIM_PTP_I (R368, chapter 13). -/
abbrev TIM_PTP_I : Nat := 0xA00058
/-- TIM_PTP_CFG (R379, chapter 13). -/
abbrev TIM_PTP_CFG : Nat := 0xA00100
/-- TIM_PTP_INT (R379, chapter 13). -/
abbrev TIM_PTP_INT : Nat := 0xA00104
/-- TIM_PTP_KP (R368, chapter 13). -/
abbrev TIM_PTP_KP : Nat := 0xA00108
/-- TIM_PTP_KI (R368, chapter 13). -/
abbrev TIM_PTP_KI : Nat := 0xA0010C
/-- TIM_PTP_LIM (R368, chapter 13). -/
abbrev TIM_PTP_LIM : Nat := 0xA00110
/-- TIM_PTP_PD (R371, chapter 13). -/
abbrev TIM_PTP_PD : Nat := 0xA00114
/-- TIM_PTP_DS (R379, chapter 13). -/
abbrev TIM_PTP_DS : Nat := 0xA00118
/-- TIM_Pp_CFG (R376, chapter 13). -/
abbrev TIM_P_CFG (n : Nat) : Nat := 0xA01000 + 0x100 * n
/-- TIM_Pp_MAC (R376, chapter 13). -/
abbrev TIM_P_MAC_LO (n : Nat) : Nat := 0xA01004 + 0x100 * n
/-- TIM_Pp_MAC(high) (R376, chapter 13). -/
abbrev TIM_P_MAC_HI (n : Nat) : Nat := 0xA01008 + 0x100 * n
/-- TIM_Pp_IP (R377, chapter 13). -/
abbrev TIM_P_IP (n : Nat) : Nat := 0xA0100C + 0x100 * n
/-- TIM_Pp_ASYM (R372, chapter 13). -/
abbrev TIM_P_ASYM (n : Nat) : Nat := 0xA01010 + 0x100 * n
/-- TIM_Pp_STAT (R376, chapter 13). -/
abbrev TIM_P_STAT (n : Nat) : Nat := 0xA01014 + 0x100 * n
/-- TIM_Pp_RXOK (R376, chapter 13). -/
abbrev TIM_P_RXOK (n : Nat) : Nat := 0xA01040 + 0x100 * n
/-- TIM_Pp_RXFCS (R376, chapter 13). -/
abbrev TIM_P_RXFCS (n : Nat) : Nat := 0xA01044 + 0x100 * n
/-- TIM_Pp_RXDROP (R377, chapter 13). -/
abbrev TIM_P_RXDROP (n : Nat) : Nat := 0xA01048 + 0x100 * n
/-- TIM_Pp_TXOK (R376, chapter 13). -/
abbrev TIM_P_TXOK (n : Nat) : Nat := 0xA0104C + 0x100 * n
/-- TIM_SYNCIn_CFG (R360, chapter 13). -/
abbrev TIM_SYNCI_CFG (n : Nat) : Nat := 0xA02000 + 0x20 * n
/-- TIM_SYNCIn_TS (R360, chapter 13). -/
abbrev TIM_SYNCI_TS (n i : Nat) : Nat := 0xA02004 + 0x20 * n + 4 * i
/-- TIM_SYNCIn_CNT (R360, chapter 13). -/
abbrev TIM_SYNCI_CNT (n : Nat) : Nat := 0xA02010 + 0x20 * n
/-- TIM_SYNCOn_CFG (R363, chapter 13). -/
abbrev TIM_SYNCO_CFG (n : Nat) : Nat := 0xA02100 + 0x20 * n
/-- TIM_SYNCOn_PER (R363, chapter 13). -/
abbrev TIM_SYNCO_PER (n : Nat) : Nat := 0xA02104 + 0x20 * n
/-- TIM_SYNCOn_PH (R363, chapter 13). -/
abbrev TIM_SYNCO_PH (n : Nat) : Nat := 0xA02108 + 0x20 * n
/-- TIM_SYNCOn_AT (R363, chapter 13). -/
abbrev TIM_SYNCO_AT_LO (n : Nat) : Nat := 0xA0210C + 0x20 * n
/-- TIM_SYNCOn_AT(high) (R363, chapter 13). -/
abbrev TIM_SYNCO_AT_HI (n : Nat) : Nat := 0xA02110 + 0x20 * n
/-- CAL_CFG (R386, chapter 14). -/
abbrev CAL_CFG : Nat := 0xB00000
/-- CAL_PIX (R386, chapter 14). -/
abbrev CAL_PIX : Nat := 0xB00004
/-- CAL_CTR (R386, chapter 14). -/
abbrev CAL_CTR : Nat := 0xB00008
/-- CAL_LIM0 (R388, chapter 14). -/
abbrev CAL_LIM0 : Nat := 0xB0000C
/-- CAL_LIM1 (R388, chapter 14). -/
abbrev CAL_LIM1 : Nat := 0xB00010
/-- CAL_RUN (R385, chapter 14). -/
abbrev CAL_RUN : Nat := 0xB00014
/-- CAL_PASS (R388, chapter 14). -/
abbrev CAL_PASS : Nat := 0xB00018
/-- GEO_Hh_STAT (R384, chapter 14). -/
abbrev GEO_H_STAT (n : Nat) : Nat := 0xB01000 + 0x40 * n
/-- GEO_Hh_COMMIT (R384, chapter 14). -/
abbrev GEO_H_COMMIT (n : Nat) : Nat := 0xB01004 + 0x40 * n
/-- GEO_Hh_SAT (R380, chapter 14). -/
abbrev GEO_H_SAT (n : Nat) : Nat := 0xB01008 + 0x40 * n
/-- CAL_Hh_RES (R388, chapter 14). -/
abbrev CAL_H_RES (n : Nat) : Nat := 0xB01010 + 0x40 * n
/-- CAL_Hh_TREF (R392, chapter 14). -/
abbrev CAL_H_TREF (n : Nat) : Nat := 0xB01014 + 0x40 * n
/-- CAL_Hh_TSRC (R390, chapter 14). -/
abbrev CAL_H_TSRC (n : Nat) : Nat := 0xB01018 + 0x40 * n
/-- CAL_AXa_TRIM0 (R393, chapter 14). -/
abbrev CAL_AX_TRIM0 (n : Nat) : Nat := 0xB03000 + 0x10 * n
/-- CAL_AXa_TRIM1 (R393, chapter 14). -/
abbrev CAL_AX_TRIM1 (n : Nat) : Nat := 0xB03004 + 0x10 * n
/-- CAL_AXa_TSTAT (R393, chapter 14). -/
abbrev CAL_AX_TSTAT (n : Nat) : Nat := 0xB03008 + 0x10 * n
/-- THM_STAT (R395, chapter 14). -/
abbrev THM_STAT : Nat := 0xB08000
/-- THM_COMMIT (R397, chapter 14). -/
abbrev THM_COMMIT : Nat := 0xB08004
/-- THM_CFG (R395, chapter 14). -/
abbrev THM_CFG : Nat := 0xB08008
/-- THM_THRg_LVL (R395, chapter 14). -/
abbrev THM_THR_LVL (n : Nat) : Nat := 0xB08010 + 0x10 * n
/-- THM_THRg_DYN (R395, chapter 14). -/
abbrev THM_THR_DYN (n : Nat) : Nat := 0xB08014 + 0x10 * n
/-- THM_THRg_EXP (R395, chapter 14). -/
abbrev THM_THR_EXP (n : Nat) : Nat := 0xB08018 + 0x10 * n
/-- THM_FLWIN (R396, chapter 14). -/
abbrev THM_FLWIN : Nat := 0xB08030
/-- THM_CHc_TEMP (R394, chapter 14). -/
abbrev THM_CH_TEMP (n : Nat) : Nat := 0xB08100 + 0x10 * n
/-- THM_CHc_COND (R395, chapter 14). -/
abbrev THM_CH_COND (n : Nat) : Nat := 0xB08104 + 0x10 * n
/-- THM_CHc_MAX (R394, chapter 14). -/
abbrev THM_CH_MAX (n : Nat) : Nat := 0xB08108 + 0x10 * n
/-- REC_STAT (R404, chapter 15). -/
abbrev REC_STAT : Nat := 0xC00000
/-- REC_SEQ (R400, chapter 15). -/
abbrev REC_SEQ : Nat := 0xC00004
/-- REC_OLDEST (R402, chapter 15). -/
abbrev REC_OLDEST : Nat := 0xC00008
/-- REC_PCOUNT (R401, chapter 15). -/
abbrev REC_PCOUNT : Nat := 0xC0000C
/-- REC_OPTIME (R399, chapter 15). -/
abbrev REC_OPTIME : Nat := 0xC00010
/-- REC_PCYC (R399, chapter 15). -/
abbrev REC_PCYC : Nat := 0xC00014
/-- REC_PBASE (R401, chapter 15). -/
abbrev REC_PBASE : Nat := 0xC00018
/-- REC_CBASE (R401, chapter 15). -/
abbrev REC_CBASE : Nat := 0xC0001C
/-- REC_WAIT (R404, chapter 15). -/
abbrev REC_WAIT : Nat := 0xC00020
/-- REC_CTL (R406, chapter 15). -/
abbrev REC_CTL : Nat := 0xC00024
/-- REC_DROP (R404, chapter 15). -/
abbrev REC_DROP : Nat := 0xC00040
/-- REC_PDROP (R404, chapter 15). -/
abbrev REC_PDROP : Nat := 0xC00044
/-- REC_FLASHFAIL (R406, chapter 15). -/
abbrev REC_FLASHFAIL : Nat := 0xC00048
/-- REC_QS_CFG (R415, chapter 15). -/
abbrev REC_QS_CFG : Nat := 0xC00100
/-- REC_QS_AREA (R414, chapter 15). -/
abbrev REC_QS_AREA : Nat := 0xC00104
/-- REC_QS_WPTR (R414, chapter 15). -/
abbrev REC_QS_WPTR : Nat := 0xC00108
/-- REC_QS_RPTR (R415, chapter 15). -/
abbrev REC_QS_RPTR : Nat := 0xC0010C
/-- REC_QS_STAT (R415, chapter 15). -/
abbrev REC_QS_STAT : Nat := 0xC00110
/-- SBC_BLKIN (R413, chapter 15). -/
abbrev SBC_BLKIN : Nat := 0xC01000
/-- SBC_CORRUPT (R413, chapter 15). -/
abbrev SBC_CORRUPT : Nat := 0xC01004
/-- SBC_BLKOUT (R412, chapter 15). -/
abbrev SBC_BLKOUT : Nat := 0xC01008
/-- SBC_SELFFAIL (R412, chapter 15). -/
abbrev SBC_SELFFAIL : Nat := 0xC0100C
/-- FLT_STAT (R431, chapter 16). -/
abbrev FLT_STAT : Nat := 0xD00000
/-- FLT_FATAL (R433, chapter 16). -/
abbrev FLT_FATAL : Nat := 0xD00004
/-- FLT_CFG (R431, chapter 16). -/
abbrev FLT_CFG : Nat := 0xD00008
/-- FLT_ESC (R432, chapter 16). -/
abbrev FLT_ESC : Nat := 0xD0000C
/-- FLT_LAST (R431, chapter 16). -/
abbrev FLT_LAST : Nat := 0xD00010
/-- FLT_MCP (R420, chapter 16). -/
abbrev FLT_MCP : Nat := 0xD00014
/-- FLT_BSQST0 (R425, chapter 16). -/
abbrev FLT_BSQST0 : Nat := 0xD00018
/-- FLT_BSQST1 (R425, chapter 16). -/
abbrev FLT_BSQST1 : Nat := 0xD0001C
/-- FLT_SEQMAPi (R425, chapter 16). -/
abbrev FLT_SEQMAP (n : Nat) : Nat := 0xD00020 + 4 * n
/-- FLT_EPOCHi (R417, chapter 16). -/
abbrev FLT_EPOCH (n : Nat) : Nat := 0xD00030 + 4 * n
/-- FLT_ERRADR (R428, chapter 16). -/
abbrev FLT_ERRADR_LO : Nat := 0xD00040
/-- FLT_ERRADR(high) (R428, chapter 16). -/
abbrev FLT_ERRADR_HI : Nat := 0xD00044
/-- FLT_GSGh (R427, chapter 16). -/
abbrev FLT_GSG (n : Nat) : Nat := 0xD00100 + 4 * n
/-- FLT_SRAM_CE (R428, chapter 16). -/
abbrev FLT_SRAM_CE : Nat := 0xD00080
/-- FLT_SRAM_UE (R429, chapter 16). -/
abbrev FLT_SRAM_UE : Nat := 0xD00084
/-- FLT_DRAM_CE (R428, chapter 16). -/
abbrev FLT_DRAM_CE : Nat := 0xD00088
/-- FLT_DRAM_UE (R430, chapter 16). -/
abbrev FLT_DRAM_UE : Nat := 0xD0008C
/-- FLT_VOTES (R427, chapter 16). -/
abbrev FLT_VOTES : Nat := 0xD00090
/-- FLT_TAKEOVERS (R425, chapter 16). -/
abbrev FLT_TAKEOVERS : Nat := 0xD00094
/-- FLT_STALE (R418, chapter 16). -/
abbrev FLT_STALE : Nat := 0xD00098
/-- LCS_STAT (R434, chapter 17). -/
abbrev LCS_STAT : Nat := 0xE00000
/-- LCS_LC_REQ (R436, chapter 17). -/
abbrev LCS_LC_REQ : Nat := 0xE00004
/-- LCS_SVN (R440, chapter 17). -/
abbrev LCS_SVN : Nat := 0xE00008
/-- LCS_SERIAL (R438, chapter 17). -/
abbrev LCS_SERIAL : Nat := 0xE0000C
/-- LCS_REAUTH (R444, chapter 17). -/
abbrev LCS_REAUTH : Nat := 0xE00010
/-- LCS_PART (R480, chapter 17). -/
abbrev LCS_PART : Nat := 0xE00014
/-- LCS_UCt_BAL (R445, chapter 17). -/
abbrev LCS_UC_BAL_LO (n : Nat) : Nat := 0xE00100 + 0x10 * n
/-- LCS_UCt_BAL(high) (R445, chapter 17). -/
abbrev LCS_UC_BAL_HI (n : Nat) : Nat := 0xE00104 + 0x10 * n
/-- LCS_UCt_SEQ (R446, chapter 17). -/
abbrev LCS_UC_SEQ (n : Nat) : Nat := 0xE00108 + 0x10 * n
/-- LCS_UCt_STAT (R445, chapter 17). -/
abbrev LCS_UC_STAT (n : Nat) : Nat := 0xE0010C + 0x10 * n
/-- PWR_STAT (R455, chapter 18). -/
abbrev PWR_STAT : Nat := 0xE08000
/-- PWR_MON (R455, chapter 18). -/
abbrev PWR_MON : Nat := 0xE08004
/-- PWR_LATCH (R455, chapter 18). -/
abbrev PWR_LATCH : Nat := 0xE08008
/-- MSIX_ADDR_LO (R57, chapter 03). -/
abbrev MSIX_ADDR_LO (n : Nat) : Nat := 0xFF0000 + 0x10 * n
/-- MSIX_ADDR_HI (R57, chapter 03). -/
abbrev MSIX_ADDR_HI (n : Nat) : Nat := 0xFF0004 + 0x10 * n
/-- MSIX_DATA (R57, chapter 03). -/
abbrev MSIX_DATA (n : Nat) : Nat := 0xFF0008 + 0x10 * n
/-- MSIX_CTRL (R57, chapter 03). -/
abbrev MSIX_CTRL (n : Nat) : Nat := 0xFF000C + 0x10 * n
/-- MSIX_PBA (R57, chapter 03). -/
abbrev MSIX_PBA (n : Nat) : Nat := 0xFF8000 + 4 * n

end R

namespace F

abbrev GLB_ID_ID : Fld := ⟨0, 32⟩
abbrev GLB_MODE_PENDING : Fld := ⟨8, 1⟩
abbrev GLB_MODE_PREV : Fld := ⟨4, 3⟩
abbrev GLB_MODE_MODE : Fld := ⟨0, 3⟩
abbrev GLB_MODE_REQ_OP : Fld := ⟨0, 4⟩
abbrev GLB_MODE_RES_CODE : Fld := ⟨8, 4⟩
abbrev GLB_MODE_RES_OP : Fld := ⟨0, 4⟩
abbrev GLB_DEGR_CAUSE_STANDBY_MCP : Fld := ⟨3, 1⟩
abbrev GLB_DEGR_CAUSE_SPARE_BSQ : Fld := ⟨2, 1⟩
abbrev GLB_DEGR_CAUSE_PARKED : Fld := ⟨1, 1⟩
abbrev GLB_DEGR_CAUSE_DETOUR : Fld := ⟨0, 1⟩
abbrev GLB_SAFE_CAUSE_ILK : Fld := ⟨8, 8⟩
abbrev GLB_SAFE_CAUSE_PFAIL : Fld := ⟨4, 1⟩
abbrev GLB_SAFE_CAUSE_RELAY : Fld := ⟨3, 1⟩
abbrev GLB_SAFE_CAUSE_FAULT : Fld := ⟨2, 1⟩
abbrev GLB_SAFE_CAUSE_HOST : Fld := ⟨1, 1⟩
abbrev GLB_SAFE_CAUSE_ILK_S : Fld := ⟨0, 1⟩
abbrev GLB_PAUSE_CFG_PAUSE_TMO : Fld := ⟨0, 16⟩
abbrev GLB_SVC_CTRL_EMIT_PERMIT : Fld := ⟨0, 1⟩
abbrev GLB_LOCKVIOL_COUNT : Fld := ⟨0, 32⟩
abbrev GLB_IRQ_SRC_MODE : Fld := ⟨8, 1⟩
abbrev GLB_IRQ_SRC_SRC : Fld := ⟨0, 8⟩
abbrev GLB_IRQ_EN_EN : Fld := ⟨0, 9⟩
abbrev GLB_IRQ_VEC_VEC3 : Fld := ⟨24, 6⟩
abbrev GLB_IRQ_VEC_VEC2 : Fld := ⟨16, 6⟩
abbrev GLB_IRQ_VEC_VEC1 : Fld := ⟨8, 6⟩
abbrev GLB_IRQ_VEC_VEC0 : Fld := ⟨0, 6⟩
abbrev GLB_ILK_CFG_FB_TMO : Fld := ⟨25, 7⟩
abbrev GLB_ILK_CFG_FB_EN : Fld := ⟨24, 1⟩
abbrev GLB_ILK_CFG_FILT : Fld := ⟨16, 5⟩
abbrev GLB_ILK_CFG_CLASS : Fld := ⟨8, 8⟩
abbrev GLB_ILK_CFG_USE : Fld := ⟨0, 8⟩
abbrev GLB_ILK_CFG2_REARM : Fld := ⟨8, 16⟩
abbrev GLB_ILK_CFG2_PAUTO : Fld := ⟨0, 8⟩
abbrev GLB_ILK_STAT_FB_OPEN : Fld := ⟨18, 1⟩
abbrev GLB_ILK_STAT_EMIT_EN : Fld := ⟨17, 1⟩
abbrev GLB_ILK_STAT_GATE : Fld := ⟨16, 1⟩
abbrev GLB_ILK_STAT_TRIPPED : Fld := ⟨8, 8⟩
abbrev GLB_ILK_STAT_LEVEL : Fld := ⟨0, 8⟩
abbrev GLB_ILK_TRIPCNT_COUNT : Fld := ⟨0, 32⟩
abbrev GLB_DRAM_BASE_BASE : Fld := ⟨0, 15⟩
abbrev GLB_DRAM_SIZE_SIZE : Fld := ⟨0, 16⟩
abbrev GLB_DRAM_COMMIT_GO : Fld := ⟨0, 1⟩
abbrev GLB_DRAM_STAT_REJ_CAUSE : Fld := ⟨8, 2⟩
abbrev GLB_DRAM_STAT_REJ_REGION : Fld := ⟨4, 3⟩
abbrev GLB_DRAM_STAT_COMMITTED : Fld := ⟨1, 1⟩
abbrev GLB_DRAM_STAT_COMMIT_REJECT : Fld := ⟨0, 1⟩
abbrev GLB_DRAM_CAP_CAP : Fld := ⟨0, 16⟩
abbrev HQ_STAT_HOSTWD : Fld := ⟨20, 1⟩
abbrev HQ_STAT_EPOCH : Fld := ⟨16, 4⟩
abbrev HQ_STAT_INFLIGHT : Fld := ⟨0, 9⟩
abbrev HQ_JRN_SEQ_LO_SEQ : Fld := ⟨0, 32⟩
abbrev HQ_JRN_SEQ_HI_SEQ : Fld := ⟨0, 32⟩
abbrev HQ_JRN_CTRL_SEALED : Fld := ⟨1, 1⟩
abbrev HQ_JRN_CTRL_MIR_EN : Fld := ⟨0, 1⟩
abbrev HQ_JRN_MIR_LO_ADDR : Fld := ⟨12, 20⟩
abbrev HQ_JRN_MIR_HI_ADDR : Fld := ⟨0, 32⟩
abbrev HQ_JRN_STALL_COUNT : Fld := ⟨0, 32⟩
abbrev HQ_APER_BASE : Fld := ⟨0, 7⟩
abbrev HQ_HOSTWD_ACTION : Fld := ⟨16, 2⟩
abbrev HQ_HOSTWD_TMO : Fld := ⟨0, 16⟩
abbrev HQ_HOSTWD_KICK_KICK : Fld := ⟨0, 32⟩
abbrev HQ_ETH_CFG_RETRY : Fld := ⟨28, 4⟩
abbrev HQ_ETH_CFG_RTO : Fld := ⟨24, 4⟩
abbrev HQ_ETH_CFG_PORT : Fld := ⟨0, 16⟩
abbrev HQ_ETH_AUTHDROP_COUNT : Fld := ⟨0, 32⟩
abbrev HQ_ETH_SEQDROP_COUNT : Fld := ⟨0, 32⟩
abbrev HQ_SQ_BASE_LO_ADDR : Fld := ⟨6, 26⟩
abbrev HQ_SQ_BASE_HI_ADDR : Fld := ⟨0, 32⟩
abbrev HQ_CQ_BASE_LO_ADDR : Fld := ⟨6, 26⟩
abbrev HQ_CQ_BASE_HI_ADDR : Fld := ⟨0, 32⟩
abbrev HQ_CFG_PATH : Fld := ⟨22, 2⟩
abbrev HQ_CFG_PRIO : Fld := ⟨20, 2⟩
abbrev HQ_CFG_IRQ_ALL : Fld := ⟨19, 1⟩
abbrev HQ_CFG_VEC : Fld := ⟨13, 6⟩
abbrev HQ_CFG_SIZE : Fld := ⟨1, 7⟩
abbrev HQ_CFG_EN : Fld := ⟨0, 1⟩
abbrev HQ_QSTAT_LOST : Fld := ⟨5, 1⟩
abbrev HQ_QSTAT_DB_ERR : Fld := ⟨4, 1⟩
abbrev HQ_QSTAT_CFG_VIOL : Fld := ⟨3, 1⟩
abbrev HQ_QSTAT_COMMIT_REJECT : Fld := ⟨2, 1⟩
abbrev HQ_QSTAT_ACTIVE : Fld := ⟨1, 1⟩
abbrev HQ_QSTAT_EN : Fld := ⟨0, 1⟩
abbrev HQ_SQ_TAIL_INDEX : Fld := ⟨0, 7⟩
abbrev HQ_CQ_HEAD_INDEX : Fld := ⟨0, 7⟩
abbrev HQ_PTR_CQ_P : Fld := ⟨23, 1⟩
abbrev HQ_PTR_CQ_TAIL : Fld := ⟨16, 7⟩
abbrev HQ_PTR_SQ_HEAD : Fld := ⟨0, 7⟩
abbrev BSQ_PC_RUN : Fld := ⟨31, 1⟩
abbrev BSQ_PC_PC : Fld := ⟨0, 22⟩
abbrev BSQ_FAULT_FAULTED : Fld := ⟨31, 1⟩
abbrev BSQ_FAULT_OPCODE : Fld := ⟨8, 8⟩
abbrev BSQ_FAULT_CODE : Fld := ⟨0, 8⟩
abbrev BSQ_FAULT_PC_PC : Fld := ⟨0, 22⟩
abbrev BSQ_STATE_MASK : Fld := ⟨16, 8⟩
abbrev BSQ_STATE_FLAGS : Fld := ⟨8, 5⟩
abbrev BSQ_STATE_DEPTH : Fld := ⟨4, 4⟩
abbrev BSQ_STATE_REGION : Fld := ⟨0, 4⟩
abbrev BSQ_STALLCNT_COUNT : Fld := ⟨0, 32⟩
abbrev BSQ_QDROP_COUNT : Fld := ⟨0, 32⟩
abbrev BSQ_EVT_EVT : Fld := ⟨0, 32⟩
abbrev BSQ_SWBCNT_COUNT : Fld := ⟨0, 32⟩
abbrev BSQ_DLYCLAMP_COUNT : Fld := ⟨0, 32⟩
abbrev BSQ_SWB_WEB : Fld := ⟨10, 1⟩
abbrev BSQ_SWB_ABANDONED : Fld := ⟨9, 1⟩
abbrev BSQ_SWB_FALLBACK : Fld := ⟨8, 1⟩
abbrev BSQ_SWB_PHASE : Fld := ⟨0, 3⟩
abbrev BSQ_G_VALUE : Fld := ⟨0, 32⟩
abbrev BSQ_H_JPROF_EN : Fld := ⟨16, 1⟩
abbrev BSQ_H_JPROF_ACC : Fld := ⟨0, 16⟩
abbrev BSQ_H_STARVE_POLICY : Fld := ⟨30, 2⟩
abbrev BSQ_H_STARVE_NODE : Fld := ⟨16, 9⟩
abbrev BSQ_H_STARVE_ACC : Fld := ⟨0, 16⟩
abbrev BSQ_H_BACK_BACK : Fld := ⟨0, 32⟩
abbrev BSQ_EXC_CFG_ACTION : Fld := ⟨0, 2⟩
abbrev TSC_STAT_EPOCH : Fld := ⟨8, 4⟩
abbrev TSC_STAT_RESTORE_REJ : Fld := ⟨5, 1⟩
abbrev TSC_STAT_GUARD_TMO : Fld := ⟨4, 1⟩
abbrev TSC_STAT_GUARD : Fld := ⟨3, 1⟩
abbrev TSC_STAT_STUCK : Fld := ⟨2, 1⟩
abbrev TSC_STAT_COMMITTED : Fld := ⟨1, 1⟩
abbrev TSC_STAT_COMMIT_REJECT : Fld := ⟨0, 1⟩
abbrev TSC_REJ_TILE : Fld := ⟨16, 16⟩
abbrev TSC_REJ_CAUSE : Fld := ⟨0, 8⟩
abbrev TSC_NTILES_COUNT : Fld := ⟨0, 17⟩
abbrev TSC_CFG_GUARD_CLR : Fld := ⟨24, 8⟩
abbrev TSC_CFG_LINGER : Fld := ⟨16, 8⟩
abbrev TSC_CFG_URGENT : Fld := ⟨0, 16⟩
abbrev TSC_CFG2_GUARD_TMO : Fld := ⟨0, 16⟩
abbrev TSC_WAKE_DIR_DY : Fld := ⟨16, 16⟩
abbrev TSC_WAKE_DIR_DX : Fld := ⟨0, 16⟩
abbrev TSC_JOIN_RAMP : Fld := ⟨16, 16⟩
abbrev TSC_JOIN_START : Fld := ⟨8, 8⟩
abbrev TSC_JOIN_ACC_ACC : Fld := ⟨0, 16⟩
abbrev TSC_TWIN_MAXLEAD : Fld := ⟨16, 16⟩
abbrev TSC_TWIN_MINLEAD : Fld := ⟨0, 16⟩
abbrev TSC_HEADS_LIVE : Fld := ⟨0, 24⟩
abbrev TSC_HEAD_REMOVE_HEADS : Fld := ⟨0, 24⟩
abbrev TSC_HEAD_RESTORE_HEADS : Fld := ⟨0, 24⟩
abbrev TSC_EVT_POST_GO : Fld := ⟨8, 1⟩
abbrev TSC_EVT_POST_EVT : Fld := ⟨0, 8⟩
abbrev TSC_SVC_GO : Fld := ⟨0, 1⟩
abbrev TSC_EVT_POSTED : Fld := ⟨0, 32⟩
abbrev TSC_GRANTS_COUNT : Fld := ⟨0, 32⟩
abbrev TSC_RACES_COUNT : Fld := ⟨0, 32⟩
abbrev TSC_EXCLWAIT_COUNT : Fld := ⟨0, 32⟩
abbrev TSC_GUARDCNT_COUNT : Fld := ⟨0, 32⟩
abbrev TSC_DETOURS_COUNT : Fld := ⟨0, 32⟩
abbrev TSC_PARKCNT_COUNT : Fld := ⟨0, 32⟩
abbrev TSC_DLMISS_COUNT : Fld := ⟨0, 32⟩
abbrev TSC_TWMISS_COUNT : Fld := ⟨0, 32⟩
abbrev TSC_SIGUNDECL_COUNT : Fld := ⟨0, 32⟩
abbrev TSC_H_FXMIN_VALUE : Fld := ⟨0, 32⟩
abbrev TSC_H_FYMIN_VALUE : Fld := ⟨0, 32⟩
abbrev TSC_H_FXMAX_VALUE : Fld := ⟨0, 32⟩
abbrev TSC_H_FYMAX_VALUE : Fld := ⟨0, 32⟩
abbrev TSC_H_STATION_STATION : Fld := ⟨0, 32⟩
abbrev TSC_H_STAT_TILE : Fld := ⟨16, 16⟩
abbrev TSC_H_STAT_RUN : Fld := ⟨15, 1⟩
abbrev TSC_H_STAT_LIVE : Fld := ⟨14, 1⟩
abbrev TSC_H_STAT_CAUSE : Fld := ⟨8, 4⟩
abbrev BLD_STAT_REJ_HEAD : Fld := ⟨16, 5⟩
abbrev BLD_STAT_REJ_CAUSE : Fld := ⟨8, 2⟩
abbrev BLD_STAT_SHADOW : Fld := ⟨5, 1⟩
abbrev BLD_STAT_COPYING : Fld := ⟨4, 1⟩
abbrev BLD_STAT_CFG_ERR : Fld := ⟨2, 1⟩
abbrev BLD_STAT_COMMITTED : Fld := ⟨1, 1⟩
abbrev BLD_STAT_COMMIT_REJECT : Fld := ⟨0, 1⟩
abbrev BLD_COMMIT_GO : Fld := ⟨0, 1⟩
abbrev BLD_CLASS_TIME_T_MEAS : Fld := ⟨16, 16⟩
abbrev BLD_CLASS_TIME_TOFF_MIN : Fld := ⟨8, 8⟩
abbrev BLD_CLASS_TIME_TON_MIN : Fld := ⟨0, 8⟩
abbrev BLD_CLASS_LVL_SEED : Fld := ⟨16, 16⟩
abbrev BLD_CLASS_LVL_LMAX : Fld := ⟨0, 16⟩
abbrev BLD_CLASS_DIAG0_I_OFF_MAX : Fld := ⟨16, 16⟩
abbrev BLD_CLASS_DIAG0_I_ON_MIN : Fld := ⟨0, 16⟩
abbrev BLD_CLASS_DIAG1_I_PRB_MIN : Fld := ⟨16, 16⟩
abbrev BLD_CLASS_DIAG1_V_SHORT_ON : Fld := ⟨0, 16⟩
abbrev BLD_CLASS_DIAG2_DIAG_EN : Fld := ⟨28, 1⟩
abbrev BLD_CLASS_DIAG2_ACT_UNV : Fld := ⟨26, 2⟩
abbrev BLD_CLASS_DIAG2_ACT_STUCK : Fld := ⟨24, 2⟩
abbrev BLD_CLASS_DIAG2_ACT_SHORT : Fld := ⟨22, 2⟩
abbrev BLD_CLASS_DIAG2_ACT_OPEN : Fld := ⟨20, 2⟩
abbrev BLD_CLASS_DIAG2_DEB : Fld := ⟨16, 4⟩
abbrev BLD_CLASS_DIAG2_V_SHORT_PRB : Fld := ⟨0, 16⟩
abbrev BLD_CLASS_NDIAG_PRB_AFTER : Fld := ⟨16, 16⟩
abbrev BLD_CLASS_NDIAG_NDIAG : Fld := ⟨0, 16⟩
abbrev BLD_CA_CFG_ONESHOT : Fld := ⟨31, 1⟩
abbrev BLD_CA_CFG_SRC : Fld := ⟨28, 3⟩
abbrev BLD_CA_CFG_FMT : Fld := ⟨26, 1⟩
abbrev BLD_CA_CFG_SIZE : Fld := ⟨16, 10⟩
abbrev BLD_CA_CFG_BASE : Fld := ⟨0, 9⟩
abbrev BLD_CA_CTL_SWAP : Fld := ⟨1, 1⟩
abbrev BLD_CA_CTL_READY : Fld := ⟨0, 1⟩
abbrev BLD_CA_STAT_MISS : Fld := ⟨4, 1⟩
abbrev BLD_CA_STAT_LOCK : Fld := ⟨3, 1⟩
abbrev BLD_CA_STAT_READY_B : Fld := ⟨2, 1⟩
abbrev BLD_CA_STAT_READY_A : Fld := ⟨1, 1⟩
abbrev BLD_CA_STAT_ACTIVE : Fld := ⟨0, 1⟩
abbrev BLD_CA_SWAPCNT_COUNT : Fld := ⟨0, 32⟩
abbrev BLD_CA_SWAPMISS_COUNT : Fld := ⟨0, 32⟩
abbrev BLD_CA_WRVIOL_COUNT : Fld := ⟨0, 32⟩
abbrev BLD_H_BCLASS_CLASS : Fld := ⟨0, 24⟩
abbrev BLD_H_BCFG_PROBE_CAP : Fld := ⟨16, 1⟩
abbrev BLD_H_BCFG_AREA : Fld := ⟨8, 3⟩
abbrev BLD_H_BCFG_LOOP : Fld := ⟨0, 8⟩
abbrev BLD_H_DTAB_T : Fld := ⟨0, 32⟩
abbrev BLD_H_SHARE_B : Fld := ⟨24, 8⟩
abbrev BLD_H_SHARE_W : Fld := ⟨16, 8⟩
abbrev BLD_H_SHARE_GRP : Fld := ⟨0, 16⟩
abbrev BLD_H_OVS_LAGMAX : Fld := ⟨16, 16⟩
abbrev BLD_H_OVS_POLICY : Fld := ⟨0, 2⟩
abbrev BLD_H_DIAG_CODE : Fld := ⟨0, 32⟩
abbrev BLD_H_FMASK_BEAMLETS : Fld := ⟨0, 8⟩
abbrev BLD_H_UNMASK_BEAMLETS : Fld := ⟨0, 8⟩
abbrev BLD_H_MINCLAMP_COUNT : Fld := ⟨0, 32⟩
abbrev BLD_H_CURVEMISS_COUNT : Fld := ⟨0, 32⟩
abbrev BLD_H_OVS_REJ_COUNT : Fld := ⟨0, 32⟩
abbrev BLD_H_OVS_STRETCH_COUNT : Fld := ⟨0, 32⟩
abbrev BLD_H_OVS_SPLIT_COUNT : Fld := ⟨0, 32⟩
abbrev BLD_H_PROBES_COUNT : Fld := ⟨0, 32⟩
abbrev BLD_H_DIAGFAIL_COUNT : Fld := ⟨0, 32⟩
abbrev LN_CFG_ROLE : Fld := ⟨8, 2⟩
abbrev LN_CFG_TEST : Fld := ⟨4, 1⟩
abbrev LN_CFG_PRE_UP : Fld := ⟨3, 1⟩
abbrev LN_CFG_PRE_DN : Fld := ⟨2, 1⟩
abbrev LN_CFG_AUTO : Fld := ⟨1, 1⟩
abbrev LN_CFG_EN : Fld := ⟨0, 1⟩
abbrev LN_STAT_CAP_CAUSE : Fld := ⟨24, 4⟩
abbrev LN_STAT_LATEFRM : Fld := ⟨21, 1⟩
abbrev LN_STAT_HEAD_FAULT : Fld := ⟨20, 1⟩
abbrev LN_STAT_CAP_ERR : Fld := ⟨19, 1⟩
abbrev LN_STAT_DLY_STEP : Fld := ⟨18, 1⟩
abbrev LN_STAT_DLY_RANGE : Fld := ⟨17, 1⟩
abbrev LN_STAT_LOSS : Fld := ⟨16, 1⟩
abbrev LN_STAT_LOSS_CAUSE : Fld := ⟨12, 3⟩
abbrev LN_STAT_EPOCH : Fld := ⟨8, 4⟩
abbrev LN_STAT_INSERVICE : Fld := ⟨4, 1⟩
abbrev LN_STAT_STATE : Fld := ⟨0, 4⟩
abbrev LN_DLY_DN_DELAY : Fld := ⟨0, 32⟩
abbrev LN_DLY_UP_DELAY : Fld := ⟨0, 32⟩
abbrev LN_ASYM_ASYM : Fld := ⟨0, 32⟩
abbrev LN_MSG_CFG_RETRY : Fld := ⟨28, 4⟩
abbrev LN_MSG_CFG_TMO : Fld := ⟨0, 16⟩
abbrev LN_CAP_VALUE : Fld := ⟨0, 32⟩
abbrev LN_CHAIN_PRESENT : Fld := ⟨0, 16⟩
abbrev LN_PEP_CTL_CLR : Fld := ⟨16, 1⟩
abbrev LN_PEP_CTL_SQN : Fld := ⟨8, 6⟩
abbrev LN_PEP_CTL_RXPAT : Fld := ⟨4, 3⟩
abbrev LN_PEP_CTL_TXPAT : Fld := ⟨0, 3⟩
abbrev LN_PEP_INJ_RATE : Fld := ⟨16, 8⟩
abbrev LN_PEP_INJ_NSYM : Fld := ⟨8, 5⟩
abbrev LN_PEP_INJ_MODE : Fld := ⟨0, 2⟩
abbrev LN_PEP_INJCNT_COUNT : Fld := ⟨0, 32⟩
abbrev LN_PEP_STAT_INJ_BUSY : Fld := ⟨2, 1⟩
abbrev LN_PEP_STAT_LOSTLOCK : Fld := ⟨1, 1⟩
abbrev LN_PEP_STAT_LOCK : Fld := ⟨0, 1⟩
abbrev LN_CW_CORR_COUNT : Fld := ⟨0, 32⟩
abbrev LN_CW_UNCORR_COUNT : Fld := ⟨0, 32⟩
abbrev LN_SYM_CORR_COUNT : Fld := ⟨0, 32⟩
abbrev LN_UP_MISS_COUNT : Fld := ⟨0, 32⟩
abbrev LN_HEAD_MISS_COUNT : Fld := ⟨0, 32⟩
abbrev LN_LOSSCNT_COUNT : Fld := ⟨0, 32⟩
abbrev LN_LATEFRM_COUNT : Fld := ⟨0, 32⟩
abbrev LN_MSG_RETRY_COUNT : Fld := ⟨0, 32⟩
abbrev LN_STALE_COUNT : Fld := ⟨0, 32⟩
abbrev LN_BLKERR_COUNT : Fld := ⟨0, 32⟩
abbrev LN_PEP_BITERR_COUNT : Fld := ⟨0, 32⟩
abbrev LN_PEP_SYMERR_COUNT : Fld := ⟨0, 32⟩
abbrev LN_PEP_MBITS_COUNT : Fld := ⟨0, 32⟩
abbrev LN_FRMERR_COUNT : Fld := ⟨0, 32⟩
abbrev CEN_STAT_REJ_INDEX : Fld := ⟨24, 8⟩
abbrev CEN_STAT_REJ_CAUSE : Fld := ⟨16, 3⟩
abbrev CEN_STAT_SHADOW : Fld := ⟨5, 1⟩
abbrev CEN_STAT_COPYING : Fld := ⟨4, 1⟩
abbrev CEN_STAT_COMMITTED : Fld := ⟨1, 1⟩
abbrev CEN_STAT_COMMIT_REJECT : Fld := ⟨0, 1⟩
abbrev CEN_COMMIT_GO : Fld := ⟨0, 1⟩
abbrev CEN_CFG_MISSLIM : Fld := ⟨0, 8⟩
abbrev CEN_GSCOUNT_COUNT : Fld := ⟨0, 9⟩
abbrev CEN_SPDBAND_THR : Fld := ⟨0, 32⟩
abbrev CEN_LIDX_LOOP : Fld := ⟨0, 8⟩
abbrev CEN_LCTL_MAN_TRACK : Fld := ⟨1, 1⟩
abbrev CEN_LCTL_AUTO : Fld := ⟨0, 1⟩
abbrev CEN_LMAN_MAN : Fld := ⟨0, 32⟩
abbrev CEN_LK_VALUE : Fld := ⟨0, 32⟩
abbrev CEN_LINTG_VALUE : Fld := ⟨0, 32⟩
abbrev CEN_LSTAT_GSET : Fld := ⟨16, 8⟩
abbrev CEN_LSTAT_MISSING : Fld := ⟨5, 1⟩
abbrev CEN_LSTAT_BPCLAMP : Fld := ⟨4, 1⟩
abbrev CEN_LSTAT_LIMITED : Fld := ⟨3, 1⟩
abbrev CEN_LSTAT_DARK : Fld := ⟨2, 1⟩
abbrev CEN_LSTAT_XFER : Fld := ⟨1, 1⟩
abbrev CEN_LSTAT_ACTIVE : Fld := ⟨0, 1⟩
abbrev CEN_TRC_CFG_MODE : Fld := ⟨30, 2⟩
abbrev CEN_TRC_CFG_TRIG : Fld := ⟨27, 3⟩
abbrev CEN_TRC_CFG_TLOOP : Fld := ⟨16, 8⟩
abbrev CEN_TRC_CFG_TEVT : Fld := ⟨8, 8⟩
abbrev CEN_TRC_CFG_DEC : Fld := ⟨0, 8⟩
abbrev CEN_TRC_SEL_CHMASK : Fld := ⟨16, 16⟩
abbrev CEN_TRC_SEL_HI : Fld := ⟨8, 8⟩
abbrev CEN_TRC_SEL_LO : Fld := ⟨0, 8⟩
abbrev CEN_TRC_POST_POST : Fld := ⟨0, 18⟩
abbrev CEN_TRC_CTL_TRIGGER : Fld := ⟨2, 1⟩
abbrev CEN_TRC_CTL_STOP : Fld := ⟨1, 1⟩
abbrev CEN_TRC_CTL_ARM : Fld := ⟨0, 1⟩
abbrev CEN_TRC_STAT_CFG_ERR : Fld := ⟨4, 1⟩
abbrev CEN_TRC_STAT_WRAPPED : Fld := ⟨3, 1⟩
abbrev CEN_TRC_STAT_DONE : Fld := ⟨2, 1⟩
abbrev CEN_TRC_STAT_TRIGGERED : Fld := ⟨1, 1⟩
abbrev CEN_TRC_STAT_RUN : Fld := ⟨0, 1⟩
abbrev CEN_TRC_WPTR_INDEX : Fld := ⟨0, 18⟩
abbrev CEN_TRC_TPTR_INDEX : Fld := ⟨0, 18⟩
abbrev CEN_TRC_SPILL_SIZE : Fld := ⟨16, 16⟩
abbrev CEN_TRC_SPILL_OFS : Fld := ⟨0, 16⟩
abbrev CEN_TRC_SPILLDROP_COUNT : Fld := ⟨0, 32⟩
abbrev CEN_CE_STAT_EPOCH : Fld := ⟨8, 4⟩
abbrev CEN_CE_STAT_MISSING : Fld := ⟨1, 1⟩
abbrev CEN_CE_STAT_RESETTING : Fld := ⟨0, 1⟩
abbrev CEN_CE_MISS_COUNT : Fld := ⟨0, 32⟩
abbrev CEN_CE_PHERR_COUNT : Fld := ⟨0, 32⟩
abbrev CEN_CE_IDXMISS_COUNT : Fld := ⟨0, 32⟩
abbrev CEN_CE_ACCSAT_COUNT : Fld := ⟨0, 32⟩
abbrev CEN_CE_TRCDROP_COUNT : Fld := ⟨0, 32⟩
abbrev CEN_CE_XFER_COUNT : Fld := ⟨0, 32⟩
abbrev MAP_CFG_SRC_PORT : Fld := ⟨12, 4⟩
abbrev MAP_CFG_SRC_EN : Fld := ⟨8, 4⟩
abbrev MAP_CFG_TILED : Fld := ⟨0, 1⟩
abbrev MAP_SAF_CFG_GAIN : Fld := ⟨16, 16⟩
abbrev MAP_SAF_CFG_REF : Fld := ⟨4, 2⟩
abbrev MAP_SAF_CFG_ABS : Fld := ⟨1, 1⟩
abbrev MAP_SAF_CFG_EN : Fld := ⟨0, 1⟩
abbrev MAP_SAF_TGT_TGT : Fld := ⟨0, 32⟩
abbrev MAP_SAF_STAT_LIMIT : Fld := ⟨0, 4⟩
abbrev MAP_SAF_NOSIG_COUNT : Fld := ⟨0, 32⟩
abbrev MAP_SAF_RATIO_RATIO : Fld := ⟨0, 32⟩
abbrev MAP_SAF_BASE_BASE : Fld := ⟨0, 24⟩
abbrev MAP_SAF_PDLY_PDLY : Fld := ⟨0, 20⟩
abbrev MAP_SAF_S_S : Fld := ⟨0, 32⟩
abbrev MAP_SAF_SMIN_SMIN : Fld := ⟨0, 32⟩
abbrev MAP_SAF_SMAX_SMAX : Fld := ⟨0, 32⟩
abbrev MAP_SAF_E_E : Fld := ⟨0, 32⟩
abbrev MAP_CTL_GO : Fld := ⟨31, 1⟩
abbrev MAP_CTL_STOP : Fld := ⟨30, 1⟩
abbrev MAP_CTL_TRIG : Fld := ⟨28, 2⟩
abbrev MAP_CTL_SYNC : Fld := ⟨26, 2⟩
abbrev MAP_CTL_CONT : Fld := ⟨25, 1⟩
abbrev MAP_CTL_HOLDLAST : Fld := ⟨24, 1⟩
abbrev MAP_CTL_QREC : Fld := ⟨23, 1⟩
abbrev MAP_CTL_DONE_EN : Fld := ⟨22, 1⟩
abbrev MAP_CTL_TEVT : Fld := ⟨8, 8⟩
abbrev MAP_CTL_DEVT : Fld := ⟨0, 8⟩
abbrev MAP_STAT_EPOCH : Fld := ⟨28, 4⟩
abbrev MAP_STAT_REJ_CAUSE : Fld := ⟨24, 4⟩
abbrev MAP_STAT_LINEERR : Fld := ⟨22, 1⟩
abbrev MAP_STAT_COMMIT_REJECT : Fld := ⟨21, 1⟩
abbrev MAP_STAT_COMMITTED : Fld := ⟨20, 1⟩
abbrev MAP_STAT_SUBCAUSE : Fld := ⟨17, 3⟩
abbrev MAP_STAT_SUBREJ : Fld := ⟨16, 1⟩
abbrev MAP_STAT_PCAP : Fld := ⟨15, 1⟩
abbrev MAP_STAT_LANELOSS : Fld := ⟨14, 1⟩
abbrev MAP_STAT_PLANELATE : Fld := ⟨13, 1⟩
abbrev MAP_STAT_UNDERRUN : Fld := ⟨12, 1⟩
abbrev MAP_STAT_DEFERRED_FREE : Fld := ⟨11, 1⟩
abbrev MAP_STAT_LATE : Fld := ⟨10, 1⟩
abbrev MAP_STAT_RUN : Fld := ⟨8, 1⟩
abbrev MAP_STAT_RES : Fld := ⟨0, 8⟩
abbrev MAP_COMMIT_GO : Fld := ⟨0, 1⟩
abbrev MAP_GEOM_HEIGHT : Fld := ⟨16, 13⟩
abbrev MAP_GEOM_WIDTH : Fld := ⟨0, 13⟩
abbrev MAP_FRAME_VB : Fld := ⟨16, 8⟩
abbrev MAP_FRAME_FSIZE : Fld := ⟨8, 8⟩
abbrev MAP_FRAME_NPL : Fld := ⟨0, 5⟩
abbrev MAP_TIMING_TSET : Fld := ⟨16, 16⟩
abbrev MAP_TIMING_TRST : Fld := ⟨0, 16⟩
abbrev MAP_GUARD_GUARD : Fld := ⟨0, 16⟩
abbrev MAP_SEQ_A_WT : Fld := ⟨16, 16⟩
abbrev MAP_SEQ_A_CMASK : Fld := ⟨12, 4⟩
abbrev MAP_SEQ_A_WAVE : Fld := ⟨8, 2⟩
abbrev MAP_SEQ_A_PLANE : Fld := ⟨0, 4⟩
abbrev MAP_SEQ_B_PLEN : Fld := ⟨0, 24⟩
abbrev MAP_SUBMIT_BUF : Fld := ⟨0, 6⟩
abbrev MAP_FREE_BUF : Fld := ⟨0, 6⟩
abbrev MAP_BUFST_STATE : Fld := ⟨0, 32⟩
abbrev MAP_FNUM_FNUM : Fld := ⟨0, 32⟩
abbrev MAP_FBUF_DARK : Fld := ⟨9, 1⟩
abbrev MAP_FBUF_REPEAT : Fld := ⟨8, 1⟩
abbrev MAP_FBUF_BUF : Fld := ⟨0, 6⟩
abbrev MAP_FLIP_FLIP : Fld := ⟨0, 32⟩
abbrev MAP_QDEPTH_QDEPTH : Fld := ⟨0, 5⟩
abbrev MAP_NFR_NFR : Fld := ⟨0, 32⟩
abbrev MAP_UNDERRUN_COUNT : Fld := ⟨0, 32⟩
abbrev MAP_PLANELATE_COUNT : Fld := ⟨0, 32⟩
abbrev MAP_DEFERFREE_COUNT : Fld := ⟨0, 32⟩
abbrev MAP_LATECOMMIT_COUNT : Fld := ⟨0, 32⟩
abbrev MAP_WRVIOL_COUNT : Fld := ⟨0, 32⟩
abbrev MAP_PCAP_COUNT : Fld := ⟨0, 32⟩
abbrev MAP_LINEERR_COUNT : Fld := ⟨0, 32⟩
abbrev MAP_SUBREJ_COUNT : Fld := ⟨0, 32⟩
abbrev MAP_QDROP_COUNT : Fld := ⟨0, 32⟩
abbrev AXF_STAT_REJ_CAUSE : Fld := ⟨16, 4⟩
abbrev AXF_STAT_REJ_INDEX : Fld := ⟨8, 3⟩
abbrev AXF_STAT_NOBIND : Fld := ⟨2, 1⟩
abbrev AXF_STAT_COMMITTED : Fld := ⟨1, 1⟩
abbrev AXF_STAT_COMMIT_REJECT : Fld := ⟨0, 1⟩
abbrev AXF_COMMIT_GO : Fld := ⟨0, 1⟩
abbrev AXF_AX_CFG_EN : Fld := ⟨31, 1⟩
abbrev AXF_AX_CFG_TYPE : Fld := ⟨28, 3⟩
abbrev AXF_AX_CFG_DIRINV : Fld := ⟨27, 1⟩
abbrev AXF_AX_CFG_IDXMODE : Fld := ⟨25, 2⟩
abbrev AXF_AX_CFG_FILT : Fld := ⟨23, 2⟩
abbrev AXF_AX_CFG_WMLEN : Fld := ⟨0, 13⟩
abbrev AXF_AX_CFG2_HIGH : Fld := ⟨16, 16⟩
abbrev AXF_AX_CFG2_LOW : Fld := ⟨0, 16⟩
abbrev AXF_AX_HYST_IDXTOL : Fld := ⟨16, 16⟩
abbrev AXF_AX_HYST_HYST : Fld := ⟨0, 16⟩
abbrev AXF_AX_IDXPER_IDXPER : Fld := ⟨0, 32⟩
abbrev AXF_AX_IDXREF_LO_IDXREF : Fld := ⟨0, 32⟩
abbrev AXF_AX_IDXREF_HI_IDXREF : Fld := ⟨0, 16⟩
abbrev AXF_AX_WMFIRED_COUNT : Fld := ⟨0, 32⟩
abbrev AXF_AX_WMPASSED_COUNT : Fld := ⟨0, 32⟩
abbrev AXF_AX_POS_LO_POS : Fld := ⟨0, 32⟩
abbrev AXF_AX_POS_HI_POS : Fld := ⟨0, 16⟩
abbrev AXF_AX_SPEED_SPEED : Fld := ⟨0, 32⟩
abbrev AXF_AX_STAT_VALID : Fld := ⟨16, 1⟩
abbrev AXF_AX_STAT_POSLOST : Fld := ⟨8, 1⟩
abbrev AXF_AX_STAT_REFD : Fld := ⟨7, 1⟩
abbrev AXF_AX_STAT_CORRFIRE : Fld := ⟨6, 1⟩
abbrev AXF_AX_STAT_IDXMIS : Fld := ⟨5, 1⟩
abbrev AXF_AX_STAT_SSIERR : Fld := ⟨4, 1⟩
abbrev AXF_AX_STAT_HALLERR : Fld := ⟨3, 1⟩
abbrev AXF_AX_STAT_QERR : Fld := ⟨2, 1⟩
abbrev AXF_AX_STAT_AMPFLT : Fld := ⟨1, 1⟩
abbrev AXF_AX_STAT_OVSP : Fld := ⟨0, 1⟩
abbrev AXF_AX_IDXOBS_LO_IDXOBS : Fld := ⟨0, 32⟩
abbrev AXF_AX_IDXOBS_HI_IDXOBS : Fld := ⟨0, 16⟩
abbrev AXF_AX_ERRCNT_COUNT : Fld := ⟨0, 32⟩
abbrev AXF_AX_IDXERR_COUNT : Fld := ⟨0, 32⟩
abbrev AXF_CMP_CFG_POL : Fld := ⟨0, 1⟩
abbrev AXF_PDET_CFG_EN : Fld := ⟨31, 1⟩
abbrev AXF_PDET_CFG_POL : Fld := ⟨30, 1⟩
abbrev AXF_PDET_CFG_AXIS : Fld := ⟨27, 3⟩
abbrev AXF_PDET_CFG_NOREC_REJ : Fld := ⟨26, 1⟩
abbrev AXF_PDET_CFG_REJSTR : Fld := ⟨25, 1⟩
abbrev AXF_PDET_CFG_BLANK : Fld := ⟨0, 24⟩
abbrev AXF_PDET_REJOFS_REJOFS : Fld := ⟨0, 32⟩
abbrev AXF_PDET_REJOUT_OUTEN : Fld := ⟨31, 1⟩
abbrev AXF_PDET_REJOUT_OUT : Fld := ⟨16, 3⟩
abbrev AXF_PDET_REJOUT_WIDTH : Fld := ⟨0, 16⟩
abbrev AXF_PDET_NOREC_COUNT : Fld := ⟨0, 32⟩
abbrev AXF_PDET_BLANKED_COUNT : Fld := ⟨0, 32⟩
abbrev AXF_PQ_STAT_INFLIGHT : Fld := ⟨16, 13⟩
abbrev AXF_PQ_STAT_WPTR : Fld := ⟨0, 12⟩
abbrev AXF_PQ_CFG_QREC : Fld := ⟨0, 1⟩
abbrev AXF_PQ_CODED_COUNT : Fld := ⟨0, 32⟩
abbrev AXF_PQ_REJECTED_COUNT : Fld := ⟨0, 32⟩
abbrev AXF_PQ_QDROP_COUNT : Fld := ⟨0, 32⟩
abbrev AXF_MD_CFG_EN : Fld := ⟨31, 1⟩
abbrev AXF_MD_CFG_AXIS : Fld := ⟨16, 3⟩
abbrev AXF_MD_CFG_NODE : Fld := ⟨0, 9⟩
abbrev AXF_MD_STOPTHR_STOPTHR : Fld := ⟨0, 32⟩
abbrev AXF_MD_ACC_ACC : Fld := ⟨0, 32⟩
abbrev AXF_MD_STAT_ACTIVE : Fld := ⟨16, 1⟩
abbrev AXF_MD_STAT_HOSTSTOP : Fld := ⟨9, 1⟩
abbrev AXF_MD_STAT_FAIL : Fld := ⟨8, 1⟩
abbrev AXF_MD_STAT_PHASE : Fld := ⟨0, 3⟩
abbrev AXF_AO_CFG_EN : Fld := ⟨31, 1⟩
abbrev AXF_AO_CFG_NODE : Fld := ⟨0, 9⟩
abbrev AXF_AI_CFG_EN : Fld := ⟨31, 1⟩
abbrev AXF_AI_CFG_NODE : Fld := ⟨0, 9⟩
abbrev AXF_AI_TMO_TMO : Fld := ⟨0, 16⟩
abbrev AXF_AI_STAT_STALE : Fld := ⟨0, 8⟩
abbrev AXF_AI_REJECT_COUNT : Fld := ⟨0, 32⟩
abbrev AXF_AI_VALUE : Fld := ⟨0, 32⟩
abbrev CAM_CFG_TAPMODE : Fld := ⟨24, 2⟩
abbrev CAM_CFG_TPOL : Fld := ⟨20, 1⟩
abbrev CAM_CFG_HPOL : Fld := ⟨19, 1⟩
abbrev CAM_CFG_VPOL : Fld := ⟨18, 1⟩
abbrev CAM_CFG_PCLKNEG : Fld := ⟨17, 1⟩
abbrev CAM_CFG_SYNC : Fld := ⟨16, 1⟩
abbrev CAM_CFG_HEAD : Fld := ⟨8, 5⟩
abbrev CAM_CFG_PORT : Fld := ⟨4, 2⟩
abbrev CAM_CFG_SRC : Fld := ⟨1, 1⟩
abbrev CAM_CFG_EN : Fld := ⟨0, 1⟩
abbrev CAM_STAT_EPOCH : Fld := ⟨28, 4⟩
abbrev CAM_STAT_REJ_CAUSE : Fld := ⟨24, 4⟩
abbrev CAM_STAT_RES : Fld := ⟨16, 8⟩
abbrev CAM_STAT_CFG_ERR : Fld := ⟨10, 1⟩
abbrev CAM_STAT_LINEERR : Fld := ⟨9, 1⟩
abbrev CAM_STAT_TAPINC : Fld := ⟨8, 1⟩
abbrev CAM_STAT_TIMEOUT : Fld := ⟨7, 1⟩
abbrev CAM_STAT_DROP : Fld := ⟨6, 1⟩
abbrev CAM_STAT_LONG : Fld := ⟨5, 1⟩
abbrev CAM_STAT_SHORT : Fld := ⟨3, 1⟩
abbrev CAM_STAT_FRAME : Fld := ⟨2, 1⟩
abbrev CAM_STAT_COMMITTED : Fld := ⟨1, 1⟩
abbrev CAM_STAT_COMMIT_REJECT : Fld := ⟨0, 1⟩
abbrev CAM_COMMIT_GO : Fld := ⟨0, 1⟩
abbrev CAM_FNUM_FNUM : Fld := ⟨0, 32⟩
abbrev CAM_SNAP_SNAP : Fld := ⟨0, 1⟩
abbrev CAM_TAP_N : Fld := ⟨0, 16⟩
abbrev CAM_TAPCFG_SIZE : Fld := ⟨16, 16⟩
abbrev CAM_TAPCFG_OFS : Fld := ⟨0, 16⟩
abbrev CAM_TAPWP_PAGE : Fld := ⟨0, 32⟩
abbrev CAM_ESET_BITS : Fld := ⟨24, 5⟩
abbrev CAM_ESET_CODE : Fld := ⟨18, 1⟩
abbrev CAM_ESET_KIND : Fld := ⟨16, 2⟩
abbrev CAM_ESET_ESID : Fld := ⟨0, 16⟩
abbrev CAM_TRIG_SEL : Fld := ⟨16, 12⟩
abbrev CAM_TRIG_AXIS : Fld := ⟨4, 3⟩
abbrev CAM_TRIG_SRC : Fld := ⟨0, 3⟩
abbrev CAM_PER_PER : Fld := ⟨0, 32⟩
abbrev CAM_TDLY_TDLY : Fld := ⟨0, 24⟩
abbrev CAM_EXP_MINPER : Fld := ⟨16, 16⟩
abbrev CAM_EXP_EXP : Fld := ⟨0, 16⟩
abbrev CAM_GEOM_HEIGHT : Fld := ⟨16, 13⟩
abbrev CAM_GEOM_WIDTH : Fld := ⟨0, 13⟩
abbrev CAM_CORR_GAIN : Fld := ⟨16, 16⟩
abbrev CAM_CORR_OFS : Fld := ⟨0, 16⟩
abbrev CAM_THR_THHI : Fld := ⟨16, 16⟩
abbrev CAM_THR_THLO : Fld := ⟨0, 16⟩
abbrev CAM_ROI_X_EN : Fld := ⟨31, 1⟩
abbrev CAM_ROI_X_X1 : Fld := ⟨16, 13⟩
abbrev CAM_ROI_X_X0 : Fld := ⟨0, 13⟩
abbrev CAM_ROI_Y_Y1 : Fld := ⟨16, 13⟩
abbrev CAM_ROI_Y_Y0 : Fld := ⟨0, 13⟩
abbrev CAM_GRID_BANDDIR : Fld := ⟨24, 1⟩
abbrev CAM_GRID_NBAND : Fld := ⟨16, 7⟩
abbrev CAM_GRID_NY : Fld := ⟨8, 6⟩
abbrev CAM_GRID_NX : Fld := ⟨0, 6⟩
abbrev CAM_SHORTCNT_COUNT : Fld := ⟨0, 32⟩
abbrev CAM_LONGCNT_COUNT : Fld := ⟨0, 32⟩
abbrev CAM_LINEERR_COUNT : Fld := ⟨0, 32⟩
abbrev CAM_TRGDROP_COUNT : Fld := ⟨0, 32⟩
abbrev CAM_TRGMISS_COUNT : Fld := ⟨0, 32⟩
abbrev CAM_TRGLATE_COUNT : Fld := ⟨0, 32⟩
abbrev CAM_UNTRIG_COUNT : Fld := ⟨0, 32⟩
abbrev CAM_TAPDROP_COUNT : Fld := ⟨0, 32⟩
abbrev TIM_STAT_REJ_CAUSE : Fld := ⟨8, 4⟩
abbrev TIM_STAT_HOLDREF : Fld := ⟨6, 1⟩
abbrev TIM_STAT_ACTIVE : Fld := ⟨5, 1⟩
abbrev TIM_STAT_NOREF : Fld := ⟨4, 1⟩
abbrev TIM_STAT_REFSW : Fld := ⟨3, 1⟩
abbrev TIM_STAT_STEPPED : Fld := ⟨2, 1⟩
abbrev TIM_STAT_COMMITTED : Fld := ⟨1, 1⟩
abbrev TIM_STAT_COMMIT_REJECT : Fld := ⟨0, 1⟩
abbrev TIM_COMMIT_GO : Fld := ⟨0, 1⟩
abbrev TIM_NOW_NOW : Fld := ⟨0, 32⟩
abbrev TIM_REF_CFG_FREQ1 : Fld := ⟨3, 1⟩
abbrev TIM_REF_CFG_FREQ0 : Fld := ⟨2, 1⟩
abbrev TIM_REF_CFG_AUTO : Fld := ⟨1, 1⟩
abbrev TIM_REF_CFG_SEL : Fld := ⟨0, 1⟩
abbrev TIM_RATE_RATE : Fld := ⟨0, 32⟩
abbrev TIM_RATE_SET_RATE : Fld := ⟨0, 32⟩
abbrev TIM_REFSWCNT_COUNT : Fld := ⟨0, 32⟩
abbrev TIM_START_CFG_SYNCI : Fld := ⟨1, 2⟩
abbrev TIM_START_CFG_EN : Fld := ⟨0, 1⟩
abbrev TIM_CAPMISS_COUNT : Fld := ⟨0, 32⟩
abbrev TIM_PTP_STAT_PORT : Fld := ⟨12, 2⟩
abbrev TIM_PTP_STAT_MASTER_LOST : Fld := ⟨11, 1⟩
abbrev TIM_PTP_STAT_GM_CHANGE : Fld := ⟨10, 1⟩
abbrev TIM_PTP_STAT_PATH_STEP : Fld := ⟨9, 1⟩
abbrev TIM_PTP_STAT_OUT_OF_RANGE : Fld := ⟨8, 1⟩
abbrev TIM_PTP_STAT_LOCKED : Fld := ⟨4, 1⟩
abbrev TIM_PTP_STAT_STATE : Fld := ⟨0, 3⟩
abbrev TIM_PTP_OFS_LO_OFS : Fld := ⟨0, 32⟩
abbrev TIM_PTP_OFS_HI_OFS : Fld := ⟨0, 32⟩
abbrev TIM_PTP_MPD_MPD : Fld := ⟨0, 32⟩
abbrev TIM_PTP_GM_LO_GM : Fld := ⟨0, 32⟩
abbrev TIM_PTP_GM_HI_GM : Fld := ⟨0, 32⟩
abbrev TIM_PTP_I_I : Fld := ⟨0, 32⟩
abbrev TIM_PTP_CFG_PORTEN : Fld := ⟨16, 2⟩
abbrev TIM_PTP_CFG_DOMAIN : Fld := ⟨8, 8⟩
abbrev TIM_PTP_CFG_SLAVEONLY : Fld := ⟨5, 1⟩
abbrev TIM_PTP_CFG_UDP : Fld := ⟨4, 1⟩
abbrev TIM_PTP_CFG_PROFILE : Fld := ⟨2, 2⟩
abbrev TIM_PTP_CFG_SERVO : Fld := ⟨1, 1⟩
abbrev TIM_PTP_CFG_EN : Fld := ⟨0, 1⟩
abbrev TIM_PTP_INT_ANNTMO : Fld := ⟨16, 4⟩
abbrev TIM_PTP_INT_SYNCTMO : Fld := ⟨12, 4⟩
abbrev TIM_PTP_INT_LOGPDELAY : Fld := ⟨8, 4⟩
abbrev TIM_PTP_INT_LOGANN : Fld := ⟨4, 4⟩
abbrev TIM_PTP_INT_LOGSYNC : Fld := ⟨0, 4⟩
abbrev TIM_PTP_KP_KP : Fld := ⟨0, 32⟩
abbrev TIM_PTP_KI_KI : Fld := ⟨0, 32⟩
abbrev TIM_PTP_LIM_RCAP : Fld := ⟨16, 16⟩
abbrev TIM_PTP_LIM_CAPTURE : Fld := ⟨0, 16⟩
abbrev TIM_PTP_PD_GUARD : Fld := ⟨16, 16⟩
abbrev TIM_PTP_PD_PDSTEP : Fld := ⟨0, 16⟩
abbrev TIM_PTP_DS_CLASS : Fld := ⟨16, 8⟩
abbrev TIM_PTP_DS_PRIO2 : Fld := ⟨8, 8⟩
abbrev TIM_PTP_DS_PRIO1 : Fld := ⟨0, 8⟩
abbrev TIM_P_CFG_PCP : Fld := ⟨28, 3⟩
abbrev TIM_P_CFG_VID : Fld := ⟨16, 12⟩
abbrev TIM_P_CFG_VLAN : Fld := ⟨4, 1⟩
abbrev TIM_P_CFG_ANEG : Fld := ⟨3, 1⟩
abbrev TIM_P_CFG_SPEED : Fld := ⟨1, 2⟩
abbrev TIM_P_CFG_EN : Fld := ⟨0, 1⟩
abbrev TIM_P_MAC_LO_MAC : Fld := ⟨0, 32⟩
abbrev TIM_P_MAC_HI_MAC : Fld := ⟨0, 16⟩
abbrev TIM_P_IP_IP : Fld := ⟨0, 32⟩
abbrev TIM_P_ASYM_ASYM : Fld := ⟨0, 32⟩
abbrev TIM_P_STAT_PSTATE : Fld := ⟨2, 2⟩
abbrev TIM_P_STAT_LINKCHG : Fld := ⟨1, 1⟩
abbrev TIM_P_STAT_LINK : Fld := ⟨0, 1⟩
abbrev TIM_P_RXOK_COUNT : Fld := ⟨0, 32⟩
abbrev TIM_P_RXFCS_COUNT : Fld := ⟨0, 32⟩
abbrev TIM_P_RXDROP_COUNT : Fld := ⟨0, 32⟩
abbrev TIM_P_TXOK_COUNT : Fld := ⟨0, 32⟩
abbrev TIM_SYNCI_CFG_DLY : Fld := ⟨8, 24⟩
abbrev TIM_SYNCI_CFG_EDGE : Fld := ⟨0, 2⟩
abbrev TIM_SYNCI_TS_TS : Fld := ⟨0, 32⟩
abbrev TIM_SYNCI_CNT_COUNT : Fld := ⟨0, 32⟩
abbrev TIM_SYNCO_CFG_WIDTH : Fld := ⟨8, 16⟩
abbrev TIM_SYNCO_CFG_POL : Fld := ⟨2, 1⟩
abbrev TIM_SYNCO_CFG_MODE : Fld := ⟨0, 2⟩
abbrev TIM_SYNCO_PER_PER : Fld := ⟨0, 32⟩
abbrev TIM_SYNCO_PH_PH : Fld := ⟨0, 11⟩
abbrev TIM_SYNCO_AT_LO_AT : Fld := ⟨0, 32⟩
abbrev TIM_SYNCO_AT_HI_AT : Fld := ⟨0, 32⟩
abbrev CAL_CFG_AUTOCOMMIT : Fld := ⟨31, 1⟩
abbrev CAL_CFG_SWAP : Fld := ⟨27, 1⟩
abbrev CAL_CFG_NEGY : Fld := ⟨26, 1⟩
abbrev CAL_CFG_NEGX : Fld := ⟨25, 1⟩
abbrev CAL_CFG_CAM : Fld := ⟨22, 2⟩
abbrev CAL_CFG_MINFID : Fld := ⟨16, 6⟩
abbrev CAL_CFG_SETTLE : Fld := ⟨0, 16⟩
abbrev CAL_PIX_PIX : Fld := ⟨0, 32⟩
abbrev CAL_CTR_CY : Fld := ⟨16, 16⟩
abbrev CAL_CTR_CX : Fld := ⟨0, 16⟩
abbrev CAL_LIM0_MAXOFS : Fld := ⟨16, 16⟩
abbrev CAL_LIM0_MAXRES : Fld := ⟨0, 16⟩
abbrev CAL_LIM1_MAXROT : Fld := ⟨16, 16⟩
abbrev CAL_LIM1_MAXSCALE : Fld := ⟨0, 16⟩
abbrev CAL_RUN_BUSY : Fld := ⟨31, 1⟩
abbrev CAL_RUN_HEAD : Fld := ⟨24, 5⟩
abbrev CAL_RUN_FID : Fld := ⟨0, 6⟩
abbrev CAL_PASS_PASS : Fld := ⟨0, 24⟩
abbrev GEO_H_STAT_REJ_CAUSE : Fld := ⟨16, 4⟩
abbrev GEO_H_STAT_RERUN : Fld := ⟨2, 1⟩
abbrev GEO_H_STAT_COMMITTED : Fld := ⟨1, 1⟩
abbrev GEO_H_STAT_COMMIT_REJECT : Fld := ⟨0, 1⟩
abbrev GEO_H_COMMIT_GO : Fld := ⟨0, 1⟩
abbrev GEO_H_SAT_COUNT : Fld := ⟨0, 32⟩
abbrev CAL_H_RES_CODE : Fld := ⟨28, 4⟩
abbrev CAL_H_RES_NFID : Fld := ⟨16, 6⟩
abbrev CAL_H_RES_RMS : Fld := ⟨0, 16⟩
abbrev CAL_H_TREF_VALID : Fld := ⟨16, 1⟩
abbrev CAL_H_TREF_TREF : Fld := ⟨0, 16⟩
abbrev CAL_H_TSRC_EN : Fld := ⟨31, 1⟩
abbrev CAL_H_TSRC_ACT : Fld := ⟨30, 1⟩
abbrev CAL_H_TSRC_SRC : Fld := ⟨24, 5⟩
abbrev CAL_H_TSRC_DRIFT : Fld := ⟨0, 16⟩
abbrev CAL_AX_TRIM0_COFS : Fld := ⟨16, 16⟩
abbrev CAL_AX_TRIM0_SOFS : Fld := ⟨0, 16⟩
abbrev CAL_AX_TRIM1_CGAIN : Fld := ⟨0, 16⟩
abbrev CAL_AX_TSTAT_FAIL : Fld := ⟨1, 1⟩
abbrev CAL_AX_TSTAT_DONE : Fld := ⟨0, 1⟩
abbrev THM_STAT_REJ_CAUSE : Fld := ⟨16, 4⟩
abbrev THM_STAT_BROKEN : Fld := ⟨8, 1⟩
abbrev THM_STAT_EXPWIN : Fld := ⟨7, 1⟩
abbrev THM_STAT_FLWIN : Fld := ⟨6, 1⟩
abbrev THM_STAT_CRIT : Fld := ⟨5, 1⟩
abbrev THM_STAT_HOT : Fld := ⟨4, 1⟩
abbrev THM_STAT_RISE : Fld := ⟨3, 1⟩
abbrev THM_STAT_WARN : Fld := ⟨2, 1⟩
abbrev THM_STAT_COMMITTED : Fld := ⟨1, 1⟩
abbrev THM_STAT_COMMIT_REJECT : Fld := ⟨0, 1⟩
abbrev THM_COMMIT_GO : Fld := ⟨0, 1⟩
abbrev THM_CFG_EXPW : Fld := ⟨16, 12⟩
abbrev THM_CFG_REMEN : Fld := ⟨8, 4⟩
abbrev THM_CFG_ACT_RISE : Fld := ⟨2, 2⟩
abbrev THM_CFG_ACT_HOT : Fld := ⟨0, 2⟩
abbrev THM_THR_LVL_HOT : Fld := ⟨16, 16⟩
abbrev THM_THR_LVL_WARN : Fld := ⟨0, 16⟩
abbrev THM_THR_DYN_RISE : Fld := ⟨16, 16⟩
abbrev THM_THR_DYN_HYST : Fld := ⟨0, 16⟩
abbrev THM_THR_EXP_EXPMAX : Fld := ⟨16, 16⟩
abbrev THM_THR_EXP_EXPMIN : Fld := ⟨0, 16⟩
abbrev THM_FLWIN_FLMAX : Fld := ⟨16, 16⟩
abbrev THM_FLWIN_FLMIN : Fld := ⟨0, 16⟩
abbrev THM_CH_TEMP_TEMP : Fld := ⟨0, 16⟩
abbrev THM_CH_COND_BROKEN : Fld := ⟨4, 1⟩
abbrev THM_CH_COND_EXPOUT : Fld := ⟨3, 1⟩
abbrev THM_CH_COND_HOT : Fld := ⟨2, 1⟩
abbrev THM_CH_COND_RISE : Fld := ⟨1, 1⟩
abbrev THM_CH_COND_WARN : Fld := ⟨0, 1⟩
abbrev THM_CH_MAX_MAX : Fld := ⟨0, 16⟩
abbrev REC_STAT_FLUSHING : Fld := ⟨3, 1⟩
abbrev REC_STAT_FLASHERR : Fld := ⟨2, 1⟩
abbrev REC_STAT_LOST : Fld := ⟨1, 1⟩
abbrev REC_STAT_PFULL : Fld := ⟨0, 1⟩
abbrev REC_SEQ_SEQ : Fld := ⟨0, 32⟩
abbrev REC_OLDEST_OLDEST : Fld := ⟨0, 32⟩
abbrev REC_PCOUNT_PCOUNT : Fld := ⟨0, 13⟩
abbrev REC_OPTIME_OPTIME : Fld := ⟨0, 32⟩
abbrev REC_PCYC_PCYC : Fld := ⟨0, 32⟩
abbrev REC_PBASE_PBASE : Fld := ⟨0, 32⟩
abbrev REC_CBASE_CBASE : Fld := ⟨0, 32⟩
abbrev REC_WAIT_WAIT : Fld := ⟨0, 12⟩
abbrev REC_CTL_RETRY : Fld := ⟨0, 1⟩
abbrev REC_DROP_COUNT : Fld := ⟨0, 32⟩
abbrev REC_PDROP_COUNT : Fld := ⟨0, 32⟩
abbrev REC_FLASHFAIL_COUNT : Fld := ⟨0, 32⟩
abbrev REC_QS_CFG_FLUSH : Fld := ⟨16, 16⟩
abbrev REC_QS_CFG_SBC : Fld := ⟨1, 1⟩
abbrev REC_QS_CFG_EN : Fld := ⟨0, 1⟩
abbrev REC_QS_AREA_SIZE : Fld := ⟨16, 16⟩
abbrev REC_QS_AREA_OFS : Fld := ⟨0, 16⟩
abbrev REC_QS_WPTR_WPTR : Fld := ⟨0, 32⟩
abbrev REC_QS_RPTR_RPTR : Fld := ⟨0, 32⟩
abbrev REC_QS_STAT_CFG_ERR : Fld := ⟨0, 1⟩
abbrev SBC_BLKIN_COUNT : Fld := ⟨0, 32⟩
abbrev SBC_CORRUPT_COUNT : Fld := ⟨0, 32⟩
abbrev SBC_BLKOUT_COUNT : Fld := ⟨0, 32⟩
abbrev SBC_SELFFAIL_COUNT : Fld := ⟨0, 32⟩
abbrev FLT_STAT_FATAL : Fld := ⟨3, 1⟩
abbrev FLT_STAT_DEGRADING : Fld := ⟨2, 1⟩
abbrev FLT_STAT_CORRECTED : Fld := ⟨1, 1⟩
abbrev FLT_STAT_NOTE : Fld := ⟨0, 1⟩
abbrev FLT_FATAL_ESCALATED : Fld := ⟨7, 1⟩
abbrev FLT_FATAL_CLOCK : Fld := ⟨6, 1⟩
abbrev FLT_FATAL_SUPPLY : Fld := ⟨5, 1⟩
abbrev FLT_FATAL_THERMAL : Fld := ⟨4, 1⟩
abbrev FLT_FATAL_EMITTER : Fld := ⟨3, 1⟩
abbrev FLT_FATAL_SRAM : Fld := ⟨2, 1⟩
abbrev FLT_FATAL_BSQ_EXC : Fld := ⟨1, 1⟩
abbrev FLT_FATAL_MCP_NONE : Fld := ⟨0, 1⟩
abbrev FLT_CFG_VEC : Fld := ⟨8, 6⟩
abbrev FLT_CFG_RETIRE : Fld := ⟨0, 8⟩
abbrev FLT_ESC_DRAM_UE : Fld := ⟨10, 2⟩
abbrev FLT_ESC_SRAM_UE : Fld := ⟨8, 2⟩
abbrev FLT_ESC_FLASH_WRITE : Fld := ⟨6, 2⟩
abbrev FLT_ESC_REF_LOST : Fld := ⟨4, 2⟩
abbrev FLT_ESC_AXIS_AMP : Fld := ⟨2, 2⟩
abbrev FLT_ESC_LATE_FRAME : Fld := ⟨0, 2⟩
abbrev FLT_LAST_UNIT : Fld := ⟨16, 16⟩
abbrev FLT_LAST_SEV : Fld := ⟨8, 2⟩
abbrev FLT_LAST_CODE : Fld := ⟨0, 8⟩
abbrev FLT_MCP_B_STATE : Fld := ⟨3, 2⟩
abbrev FLT_MCP_A_STATE : Fld := ⟨1, 2⟩
abbrev FLT_MCP_ACTIVE : Fld := ⟨0, 1⟩
abbrev FLT_BSQST0_STATE : Fld := ⟨0, 32⟩
abbrev FLT_BSQST1_STATE : Fld := ⟨0, 32⟩
abbrev FLT_SEQMAP_MAP : Fld := ⟨0, 30⟩
abbrev FLT_EPOCH_EPOCH : Fld := ⟨0, 32⟩
abbrev FLT_ERRADR_LO_ADDR : Fld := ⟨0, 32⟩
abbrev FLT_ERRADR_HI_DRAM : Fld := ⟨31, 1⟩
abbrev FLT_ERRADR_HI_ADDR : Fld := ⟨0, 8⟩
abbrev FLT_GSG_EPOCH : Fld := ⟨8, 4⟩
abbrev FLT_GSG_LASTDIS : Fld := ⟨4, 3⟩
abbrev FLT_GSG_RETIRED : Fld := ⟨0, 3⟩
abbrev FLT_SRAM_CE_COUNT : Fld := ⟨0, 32⟩
abbrev FLT_SRAM_UE_COUNT : Fld := ⟨0, 32⟩
abbrev FLT_DRAM_CE_COUNT : Fld := ⟨0, 32⟩
abbrev FLT_DRAM_UE_COUNT : Fld := ⟨0, 32⟩
abbrev FLT_VOTES_COUNT : Fld := ⟨0, 32⟩
abbrev FLT_TAKEOVERS_COUNT : Fld := ⟨0, 32⟩
abbrev FLT_STALE_COUNT : Fld := ⟨0, 32⟩
abbrev LCS_STAT_SESSKEY : Fld := ⟨11, 1⟩
abbrev LCS_STAT_UPDATING : Fld := ⟨10, 1⟩
abbrev LCS_STAT_LC_REJ : Fld := ⟨9, 1⟩
abbrev LCS_STAT_LC_PEND : Fld := ⟨8, 1⟩
abbrev LCS_STAT_BOOTERR : Fld := ⟨4, 1⟩
abbrev LCS_STAT_SLOT : Fld := ⟨3, 1⟩
abbrev LCS_STAT_LC : Fld := ⟨0, 3⟩
abbrev LCS_LC_REQ_GO : Fld := ⟨0, 1⟩
abbrev LCS_SVN_SVN : Fld := ⟨0, 32⟩
abbrev LCS_SERIAL_SERIAL : Fld := ⟨0, 32⟩
abbrev LCS_REAUTH_PER : Fld := ⟨0, 16⟩
abbrev LCS_PART_GRADE : Fld := ⟨0, 1⟩
abbrev LCS_UC_BAL_LO_BAL : Fld := ⟨0, 32⟩
abbrev LCS_UC_BAL_HI_BAL : Fld := ⟨0, 16⟩
abbrev LCS_UC_SEQ_SEQ : Fld := ⟨0, 32⟩
abbrev LCS_UC_STAT_EMPTY : Fld := ⟨1, 1⟩
abbrev LCS_UC_STAT_BOUND : Fld := ⟨0, 1⟩
abbrev PWR_STAT_RSTCAUSE : Fld := ⟨16, 3⟩
abbrev PWR_STAT_DDR_RATE : Fld := ⟨12, 2⟩
abbrev PWR_STAT_DRAM_FAIL : Fld := ⟨8, 2⟩
abbrev PWR_STAT_NOXO : Fld := ⟨3, 1⟩
abbrev PWR_STAT_VFUSE_LOW : Fld := ⟨2, 1⟩
abbrev PWR_STAT_SEALED : Fld := ⟨1, 1⟩
abbrev PWR_STAT_PFAIL : Fld := ⟨0, 1⟩
abbrev PWR_MON_RAIL : Fld := ⟨0, 10⟩
abbrev PWR_LATCH_RAIL : Fld := ⟨0, 10⟩
abbrev MSIX_ADDR_LO_ADDR : Fld := ⟨0, 32⟩
abbrev MSIX_ADDR_HI_ADDR : Fld := ⟨0, 32⟩
abbrev MSIX_DATA_DATA : Fld := ⟨0, 32⟩
abbrev MSIX_CTRL_MASK : Fld := ⟨0, 1⟩
abbrev MSIX_PBA_PEND : Fld := ⟨0, 32⟩

end F

/-- The register tables of block GLB. -/
def regRowsGLB : List RegRow := [
  ⟨0x0, [], [⟨F.GLB_ID_ID, .ro, 0x71921000⟩]⟩,
  ⟨0x100, [], [⟨F.GLB_MODE_PENDING, .ro, 0⟩, ⟨F.GLB_MODE_PREV, .ro, 0⟩, ⟨F.GLB_MODE_MODE, .ro, 0⟩]⟩,
  ⟨0x104, [], [⟨F.GLB_MODE_REQ_OP, .wo, 0⟩]⟩,
  ⟨0x108, [], [⟨F.GLB_MODE_RES_CODE, .ro, 0⟩, ⟨F.GLB_MODE_RES_OP, .ro, 0⟩]⟩,
  ⟨0x10C, [], [⟨F.GLB_DEGR_CAUSE_STANDBY_MCP, .w1c, 0⟩, ⟨F.GLB_DEGR_CAUSE_SPARE_BSQ, .w1c, 0⟩, ⟨F.GLB_DEGR_CAUSE_PARKED, .w1c, 0⟩, ⟨F.GLB_DEGR_CAUSE_DETOUR, .w1c, 0⟩]⟩,
  ⟨0x110, [], [⟨F.GLB_SAFE_CAUSE_ILK, .w1c, 0⟩, ⟨F.GLB_SAFE_CAUSE_PFAIL, .w1c, 0⟩, ⟨F.GLB_SAFE_CAUSE_RELAY, .w1c, 0⟩, ⟨F.GLB_SAFE_CAUSE_FAULT, .w1c, 0⟩, ⟨F.GLB_SAFE_CAUSE_HOST, .w1c, 0⟩, ⟨F.GLB_SAFE_CAUSE_ILK_S, .w1c, 0⟩]⟩,
  ⟨0x114, [], [⟨F.GLB_PAUSE_CFG_PAUSE_TMO, .rw, 0x3e7⟩]⟩,
  ⟨0x118, [], [⟨F.GLB_SVC_CTRL_EMIT_PERMIT, .rwl, 0⟩]⟩,
  ⟨0x11C, [], [⟨F.GLB_LOCKVIOL_COUNT, .rc, 0⟩]⟩,
  ⟨0x130, [], [⟨F.GLB_IRQ_SRC_MODE, .w1c, 0⟩, ⟨F.GLB_IRQ_SRC_SRC, .ro, 0⟩]⟩,
  ⟨0x134, [], [⟨F.GLB_IRQ_EN_EN, .rw, 0⟩]⟩,
  ⟨0x138, [(4, 3)], [⟨F.GLB_IRQ_VEC_VEC3, .rw, 0⟩, ⟨F.GLB_IRQ_VEC_VEC2, .rw, 0⟩, ⟨F.GLB_IRQ_VEC_VEC1, .rw, 0⟩, ⟨F.GLB_IRQ_VEC_VEC0, .rw, 0⟩]⟩,
  ⟨0x200, [], [⟨F.GLB_ILK_CFG_FB_TMO, .rwl, 0x13⟩, ⟨F.GLB_ILK_CFG_FB_EN, .rwl, 0⟩, ⟨F.GLB_ILK_CFG_FILT, .rwl, 5⟩, ⟨F.GLB_ILK_CFG_CLASS, .rwl, 0xff⟩, ⟨F.GLB_ILK_CFG_USE, .rwl, 0xff⟩]⟩,
  ⟨0x204, [], [⟨F.GLB_ILK_CFG2_REARM, .rwl, 0x63⟩, ⟨F.GLB_ILK_CFG2_PAUTO, .rwl, 0⟩]⟩,
  ⟨0x208, [], [⟨F.GLB_ILK_STAT_FB_OPEN, .ro, 1⟩, ⟨F.GLB_ILK_STAT_EMIT_EN, .ro, 0⟩, ⟨F.GLB_ILK_STAT_GATE, .ro, 1⟩, ⟨F.GLB_ILK_STAT_TRIPPED, .w1c, 0⟩, ⟨F.GLB_ILK_STAT_LEVEL, .ro, 0⟩]⟩,
  ⟨0x220, [(4, 8)], [⟨F.GLB_ILK_TRIPCNT_COUNT, .rc, 0⟩]⟩,
  ⟨0x400, [(0x10, 6)], [⟨F.GLB_DRAM_BASE_BASE, .rwl, 0⟩]⟩,
  ⟨0x404, [(0x10, 6)], [⟨F.GLB_DRAM_SIZE_SIZE, .rwl, 0⟩]⟩,
  ⟨0x480, [], [⟨F.GLB_DRAM_COMMIT_GO, .wo, 0⟩]⟩,
  ⟨0x484, [], [⟨F.GLB_DRAM_STAT_REJ_CAUSE, .ro, 0⟩, ⟨F.GLB_DRAM_STAT_REJ_REGION, .ro, 0⟩, ⟨F.GLB_DRAM_STAT_COMMITTED, .w1c, 0⟩, ⟨F.GLB_DRAM_STAT_COMMIT_REJECT, .w1c, 0⟩]⟩,
  ⟨0x488, [], [⟨F.GLB_DRAM_CAP_CAP, .ro, 0⟩]⟩]

/-- The register tables of block HQ. -/
def regRowsHQ : List RegRow := [
  ⟨0x100000, [], [⟨F.HQ_STAT_HOSTWD, .w1c, 0⟩, ⟨F.HQ_STAT_EPOCH, .ro, 0⟩, ⟨F.HQ_STAT_INFLIGHT, .ro, 0⟩]⟩,
  ⟨0x100008, [], [⟨F.HQ_JRN_SEQ_LO_SEQ, .ro, 0⟩]⟩,
  ⟨0x10000C, [], [⟨F.HQ_JRN_SEQ_HI_SEQ, .ro, 0⟩]⟩,
  ⟨0x100010, [], [⟨F.HQ_JRN_CTRL_SEALED, .ro, 0⟩, ⟨F.HQ_JRN_CTRL_MIR_EN, .rw, 0⟩]⟩,
  ⟨0x100018, [], [⟨F.HQ_JRN_MIR_LO_ADDR, .rw, 0⟩]⟩,
  ⟨0x10001C, [], [⟨F.HQ_JRN_MIR_HI_ADDR, .rw, 0⟩]⟩,
  ⟨0x100020, [], [⟨F.HQ_JRN_STALL_COUNT, .rc, 0⟩]⟩,
  ⟨0x100030, [], [⟨F.HQ_APER_BASE, .rw, 0⟩]⟩,
  ⟨0x100040, [], [⟨F.HQ_HOSTWD_ACTION, .rwl, 0⟩, ⟨F.HQ_HOSTWD_TMO, .rwl, 0⟩]⟩,
  ⟨0x100044, [], [⟨F.HQ_HOSTWD_KICK_KICK, .wo, 0⟩]⟩,
  ⟨0x100050, [], [⟨F.HQ_ETH_CFG_RETRY, .rwl, 4⟩, ⟨F.HQ_ETH_CFG_RTO, .rwl, 4⟩, ⟨F.HQ_ETH_CFG_PORT, .rwl, 0xb858⟩]⟩,
  ⟨0x100058, [], [⟨F.HQ_ETH_AUTHDROP_COUNT, .rc, 0⟩]⟩,
  ⟨0x10005C, [], [⟨F.HQ_ETH_SEQDROP_COUNT, .rc, 0⟩]⟩,
  ⟨0x101000, [(0x40, 16)], [⟨F.HQ_SQ_BASE_LO_ADDR, .rw, 0⟩]⟩,
  ⟨0x101004, [(0x40, 16)], [⟨F.HQ_SQ_BASE_HI_ADDR, .rw, 0⟩]⟩,
  ⟨0x101008, [(0x40, 16)], [⟨F.HQ_CQ_BASE_LO_ADDR, .rw, 0⟩]⟩,
  ⟨0x10100C, [(0x40, 16)], [⟨F.HQ_CQ_BASE_HI_ADDR, .rw, 0⟩]⟩,
  ⟨0x101010, [(0x40, 16)], [⟨F.HQ_CFG_PATH, .rw, 0⟩, ⟨F.HQ_CFG_PRIO, .rw, 0⟩, ⟨F.HQ_CFG_IRQ_ALL, .rw, 0⟩, ⟨F.HQ_CFG_VEC, .rw, 0⟩, ⟨F.HQ_CFG_SIZE, .rw, 0⟩, ⟨F.HQ_CFG_EN, .rw, 0⟩]⟩,
  ⟨0x101014, [(0x40, 16)], [⟨F.HQ_QSTAT_LOST, .w1c, 0⟩, ⟨F.HQ_QSTAT_DB_ERR, .w1c, 0⟩, ⟨F.HQ_QSTAT_CFG_VIOL, .w1c, 0⟩, ⟨F.HQ_QSTAT_COMMIT_REJECT, .w1c, 0⟩, ⟨F.HQ_QSTAT_ACTIVE, .ro, 0⟩, ⟨F.HQ_QSTAT_EN, .ro, 0⟩]⟩,
  ⟨0x101018, [(0x40, 16)], [⟨F.HQ_SQ_TAIL_INDEX, .rw, 0⟩]⟩,
  ⟨0x10101C, [(0x40, 16)], [⟨F.HQ_CQ_HEAD_INDEX, .rw, 0⟩]⟩,
  ⟨0x101020, [(0x40, 16)], [⟨F.HQ_PTR_CQ_P, .ro, 1⟩, ⟨F.HQ_PTR_CQ_TAIL, .ro, 0⟩, ⟨F.HQ_PTR_SQ_HEAD, .ro, 0⟩]⟩]

/-- The register tables of block BSQ. -/
def regRowsBSQ : List RegRow := [
  ⟨0x200000, [(0x1000, 26)], [⟨F.BSQ_PC_RUN, .ro, 0⟩, ⟨F.BSQ_PC_PC, .ro, 0⟩]⟩,
  ⟨0x200004, [(0x1000, 26)], [⟨F.BSQ_FAULT_FAULTED, .w1c, 0⟩, ⟨F.BSQ_FAULT_OPCODE, .ro, 0⟩, ⟨F.BSQ_FAULT_CODE, .ro, 0⟩]⟩,
  ⟨0x200008, [(0x1000, 26)], [⟨F.BSQ_FAULT_PC_PC, .ro, 0⟩]⟩,
  ⟨0x20000C, [(0x1000, 26)], [⟨F.BSQ_STATE_MASK, .ro, 0⟩, ⟨F.BSQ_STATE_FLAGS, .ro, 0⟩, ⟨F.BSQ_STATE_DEPTH, .ro, 0⟩, ⟨F.BSQ_STATE_REGION, .ro, 0⟩]⟩,
  ⟨0x200010, [(0x1000, 26)], [⟨F.BSQ_STALLCNT_COUNT, .rc, 0⟩]⟩,
  ⟨0x200014, [(0x1000, 26)], [⟨F.BSQ_QDROP_COUNT, .rc, 0⟩]⟩,
  ⟨0x200018, [(0x1000, 26)], [⟨F.BSQ_EVT_EVT, .w1c, 0⟩]⟩,
  ⟨0x200020, [(0x1000, 26)], [⟨F.BSQ_SWBCNT_COUNT, .rc, 0⟩]⟩,
  ⟨0x200024, [(0x1000, 26)], [⟨F.BSQ_DLYCLAMP_COUNT, .rc, 0⟩]⟩,
  ⟨0x200028, [(0x1000, 26)], [⟨F.BSQ_SWB_WEB, .w1c, 0⟩, ⟨F.BSQ_SWB_ABANDONED, .w1c, 0⟩, ⟨F.BSQ_SWB_FALLBACK, .w1c, 0⟩, ⟨F.BSQ_SWB_PHASE, .ro, 0⟩]⟩,
  ⟨0x200040, [(0x1000, 26), (4, 16)], [⟨F.BSQ_G_VALUE, .ro, 0⟩]⟩,
  ⟨0x21C000, [(0x10, 24)], [⟨F.BSQ_H_JPROF_EN, .rwl, 0⟩, ⟨F.BSQ_H_JPROF_ACC, .rwl, 0xc7⟩]⟩,
  ⟨0x21C004, [(0x10, 24)], [⟨F.BSQ_H_STARVE_POLICY, .rwl, 0⟩, ⟨F.BSQ_H_STARVE_NODE, .rwl, 0⟩, ⟨F.BSQ_H_STARVE_ACC, .rwl, 0xc7⟩]⟩,
  ⟨0x21C008, [(0x10, 24)], [⟨F.BSQ_H_BACK_BACK, .rwl, 0⟩]⟩,
  ⟨0x21C200, [], [⟨F.BSQ_EXC_CFG_ACTION, .rwl, 0⟩]⟩]

/-- The register tables of block TSC. -/
def regRowsTSC : List RegRow := [
  ⟨0x300000, [], [⟨F.TSC_STAT_EPOCH, .ro, 0⟩, ⟨F.TSC_STAT_RESTORE_REJ, .w1c, 0⟩, ⟨F.TSC_STAT_GUARD_TMO, .w1c, 0⟩, ⟨F.TSC_STAT_GUARD, .w1c, 0⟩, ⟨F.TSC_STAT_STUCK, .w1c, 0⟩, ⟨F.TSC_STAT_COMMITTED, .w1c, 0⟩, ⟨F.TSC_STAT_COMMIT_REJECT, .w1c, 0⟩]⟩,
  ⟨0x300004, [], [⟨F.TSC_REJ_TILE, .ro, 0⟩, ⟨F.TSC_REJ_CAUSE, .ro, 0⟩]⟩,
  ⟨0x300008, [], [⟨F.TSC_NTILES_COUNT, .ro, 0⟩]⟩,
  ⟨0x30000C, [], [⟨F.TSC_CFG_GUARD_CLR, .rwl, 3⟩, ⟨F.TSC_CFG_LINGER, .rwl, 0x14⟩, ⟨F.TSC_CFG_URGENT, .rwl, 0xc8⟩]⟩,
  ⟨0x300010, [], [⟨F.TSC_CFG2_GUARD_TMO, .rwl, 0x7cf⟩]⟩,
  ⟨0x300014, [], [⟨F.TSC_WAKE_DIR_DY, .rwl, 0⟩, ⟨F.TSC_WAKE_DIR_DX, .rwl, 0⟩]⟩,
  ⟨0x300018, [], [⟨F.TSC_JOIN_RAMP, .rwl, 0⟩, ⟨F.TSC_JOIN_START, .rwl, 0⟩]⟩,
  ⟨0x30001C, [], [⟨F.TSC_JOIN_ACC_ACC, .rwl, 0xc7⟩]⟩,
  ⟨0x300020, [], [⟨F.TSC_TWIN_MAXLEAD, .rwl, 0x7d0⟩, ⟨F.TSC_TWIN_MINLEAD, .rwl, 8⟩]⟩,
  ⟨0x300024, [], [⟨F.TSC_HEADS_LIVE, .ro, 0⟩]⟩,
  ⟨0x300028, [], [⟨F.TSC_HEAD_REMOVE_HEADS, .wo, 0⟩]⟩,
  ⟨0x30002C, [], [⟨F.TSC_HEAD_RESTORE_HEADS, .wo, 0⟩]⟩,
  ⟨0x300030, [], [⟨F.TSC_EVT_POST_GO, .wo, 0⟩, ⟨F.TSC_EVT_POST_EVT, .wo, 0⟩]⟩,
  ⟨0x300034, [], [⟨F.TSC_SVC_GO, .wo, 0⟩]⟩,
  ⟨0x300040, [(4, 8)], [⟨F.TSC_EVT_POSTED, .ro, 0⟩]⟩,
  ⟨0x300080, [], [⟨F.TSC_GRANTS_COUNT, .rc, 0⟩]⟩,
  ⟨0x300084, [], [⟨F.TSC_RACES_COUNT, .rc, 0⟩]⟩,
  ⟨0x300088, [], [⟨F.TSC_EXCLWAIT_COUNT, .rc, 0⟩]⟩,
  ⟨0x30008C, [], [⟨F.TSC_GUARDCNT_COUNT, .rc, 0⟩]⟩,
  ⟨0x300090, [], [⟨F.TSC_DETOURS_COUNT, .rc, 0⟩]⟩,
  ⟨0x300094, [], [⟨F.TSC_PARKCNT_COUNT, .ro, 0⟩]⟩,
  ⟨0x300098, [], [⟨F.TSC_DLMISS_COUNT, .rc, 0⟩]⟩,
  ⟨0x30009C, [], [⟨F.TSC_TWMISS_COUNT, .rc, 0⟩]⟩,
  ⟨0x3000A0, [], [⟨F.TSC_SIGUNDECL_COUNT, .rc, 0⟩]⟩,
  ⟨0x300100, [(0x20, 24)], [⟨F.TSC_H_FXMIN_VALUE, .rw, 0⟩]⟩,
  ⟨0x300104, [(0x20, 24)], [⟨F.TSC_H_FYMIN_VALUE, .rw, 0⟩]⟩,
  ⟨0x300108, [(0x20, 24)], [⟨F.TSC_H_FXMAX_VALUE, .rw, 0⟩]⟩,
  ⟨0x30010C, [(0x20, 24)], [⟨F.TSC_H_FYMAX_VALUE, .rw, 0⟩]⟩,
  ⟨0x300110, [(0x20, 24)], [⟨F.TSC_H_STATION_STATION, .rwl, 0⟩]⟩,
  ⟨0x300114, [(0x20, 24)], [⟨F.TSC_H_STAT_TILE, .ro, 0⟩, ⟨F.TSC_H_STAT_RUN, .ro, 0⟩, ⟨F.TSC_H_STAT_LIVE, .ro, 0⟩, ⟨F.TSC_H_STAT_CAUSE, .ro, 0⟩]⟩]

/-- The register tables of block BLD. -/
def regRowsBLD : List RegRow := [
  ⟨0x400000, [], [⟨F.BLD_STAT_REJ_HEAD, .ro, 0⟩, ⟨F.BLD_STAT_REJ_CAUSE, .ro, 0⟩, ⟨F.BLD_STAT_SHADOW, .ro, 1⟩, ⟨F.BLD_STAT_COPYING, .ro, 0⟩, ⟨F.BLD_STAT_CFG_ERR, .w1c, 0⟩, ⟨F.BLD_STAT_COMMITTED, .w1c, 0⟩, ⟨F.BLD_STAT_COMMIT_REJECT, .w1c, 0⟩]⟩,
  ⟨0x400004, [], [⟨F.BLD_COMMIT_GO, .wo, 0⟩]⟩,
  ⟨0x400100, [(0x20, 8)], [⟨F.BLD_CLASS_TIME_T_MEAS, .rwl, 0x32⟩, ⟨F.BLD_CLASS_TIME_TOFF_MIN, .rwl, 0⟩, ⟨F.BLD_CLASS_TIME_TON_MIN, .rwl, 0⟩]⟩,
  ⟨0x400104, [(0x20, 8)], [⟨F.BLD_CLASS_LVL_SEED, .rwl, 0x7fff⟩, ⟨F.BLD_CLASS_LVL_LMAX, .rwl, 0xffff⟩]⟩,
  ⟨0x400108, [(0x20, 8)], [⟨F.BLD_CLASS_DIAG0_I_OFF_MAX, .rwl, 0xffff⟩, ⟨F.BLD_CLASS_DIAG0_I_ON_MIN, .rwl, 0⟩]⟩,
  ⟨0x40010C, [(0x20, 8)], [⟨F.BLD_CLASS_DIAG1_I_PRB_MIN, .rwl, 0⟩, ⟨F.BLD_CLASS_DIAG1_V_SHORT_ON, .rwl, 0⟩]⟩,
  ⟨0x400110, [(0x20, 8)], [⟨F.BLD_CLASS_DIAG2_DIAG_EN, .rwl, 0⟩, ⟨F.BLD_CLASS_DIAG2_ACT_UNV, .rwl, 0⟩, ⟨F.BLD_CLASS_DIAG2_ACT_STUCK, .rwl, 3⟩, ⟨F.BLD_CLASS_DIAG2_ACT_SHORT, .rwl, 2⟩, ⟨F.BLD_CLASS_DIAG2_ACT_OPEN, .rwl, 2⟩, ⟨F.BLD_CLASS_DIAG2_DEB, .rwl, 2⟩, ⟨F.BLD_CLASS_DIAG2_V_SHORT_PRB, .rwl, 0⟩]⟩,
  ⟨0x400114, [(0x20, 8)], [⟨F.BLD_CLASS_NDIAG_PRB_AFTER, .rwl, 0x64⟩, ⟨F.BLD_CLASS_NDIAG_NDIAG, .rwl, 0⟩]⟩,
  ⟨0x400200, [(0x10, 8)], [⟨F.BLD_CA_CFG_ONESHOT, .rwl, 0⟩, ⟨F.BLD_CA_CFG_SRC, .rwl, 0⟩, ⟨F.BLD_CA_CFG_FMT, .rwl, 0⟩, ⟨F.BLD_CA_CFG_SIZE, .rwl, 0⟩, ⟨F.BLD_CA_CFG_BASE, .rwl, 0⟩]⟩,
  ⟨0x400204, [(0x10, 8)], [⟨F.BLD_CA_CTL_SWAP, .wo, 0⟩, ⟨F.BLD_CA_CTL_READY, .wo, 0⟩]⟩,
  ⟨0x400208, [(0x10, 8)], [⟨F.BLD_CA_STAT_MISS, .w1c, 0⟩, ⟨F.BLD_CA_STAT_LOCK, .ro, 0⟩, ⟨F.BLD_CA_STAT_READY_B, .ro, 0⟩, ⟨F.BLD_CA_STAT_READY_A, .ro, 0⟩, ⟨F.BLD_CA_STAT_ACTIVE, .ro, 0⟩]⟩,
  ⟨0x400300, [(0x10, 8)], [⟨F.BLD_CA_SWAPCNT_COUNT, .rc, 0⟩]⟩,
  ⟨0x400304, [(0x10, 8)], [⟨F.BLD_CA_SWAPMISS_COUNT, .rc, 0⟩]⟩,
  ⟨0x400308, [(0x10, 8)], [⟨F.BLD_CA_WRVIOL_COUNT, .rc, 0⟩]⟩,
  ⟨0x401000, [(0x100, 24)], [⟨F.BLD_H_BCLASS_CLASS, .rwl, 0⟩]⟩,
  ⟨0x401004, [(0x100, 24)], [⟨F.BLD_H_BCFG_PROBE_CAP, .ro, 0⟩, ⟨F.BLD_H_BCFG_AREA, .rwl, 0⟩, ⟨F.BLD_H_BCFG_LOOP, .rwl, 0⟩]⟩,
  ⟨0x401008, [(0x100, 24)], [⟨F.BLD_H_DTAB_T, .rwl, 0⟩]⟩,
  ⟨0x40100C, [(0x100, 24)], [⟨F.BLD_H_SHARE_B, .rwl, 0⟩, ⟨F.BLD_H_SHARE_W, .rwl, 0⟩, ⟨F.BLD_H_SHARE_GRP, .rwl, 0⟩]⟩,
  ⟨0x401010, [(0x100, 24)], [⟨F.BLD_H_OVS_LAGMAX, .rwl, 0⟩, ⟨F.BLD_H_OVS_POLICY, .rwl, 0⟩]⟩,
  ⟨0x401014, [(0x100, 24)], [⟨F.BLD_H_DIAG_CODE, .ro, 0⟩]⟩,
  ⟨0x401018, [(0x100, 24)], [⟨F.BLD_H_FMASK_BEAMLETS, .ro, 0⟩]⟩,
  ⟨0x40101C, [(0x100, 24)], [⟨F.BLD_H_UNMASK_BEAMLETS, .wo, 0⟩]⟩,
  ⟨0x401040, [(0x100, 24)], [⟨F.BLD_H_MINCLAMP_COUNT, .rc, 0⟩]⟩,
  ⟨0x401044, [(0x100, 24)], [⟨F.BLD_H_CURVEMISS_COUNT, .rc, 0⟩]⟩,
  ⟨0x401048, [(0x100, 24)], [⟨F.BLD_H_OVS_REJ_COUNT, .rc, 0⟩]⟩,
  ⟨0x40104C, [(0x100, 24)], [⟨F.BLD_H_OVS_STRETCH_COUNT, .rc, 0⟩]⟩,
  ⟨0x401050, [(0x100, 24)], [⟨F.BLD_H_OVS_SPLIT_COUNT, .rc, 0⟩]⟩,
  ⟨0x401054, [(0x100, 24)], [⟨F.BLD_H_PROBES_COUNT, .rc, 0⟩]⟩,
  ⟨0x401058, [(0x100, 24)], [⟨F.BLD_H_DIAGFAIL_COUNT, .rc, 0⟩]⟩]

/-- The register tables of block LN. -/
def regRowsLN : List RegRow := [
  ⟨0x500000, [(0x1000, 32)], [⟨F.LN_CFG_ROLE, .rwl, 0⟩, ⟨F.LN_CFG_TEST, .rwl, 0⟩, ⟨F.LN_CFG_PRE_UP, .rwl, 0⟩, ⟨F.LN_CFG_PRE_DN, .rwl, 0⟩, ⟨F.LN_CFG_AUTO, .rwl, 1⟩, ⟨F.LN_CFG_EN, .rwl, 0⟩]⟩,
  ⟨0x500004, [(0x1000, 32)], [⟨F.LN_STAT_CAP_CAUSE, .ro, 0⟩, ⟨F.LN_STAT_LATEFRM, .w1c, 0⟩, ⟨F.LN_STAT_HEAD_FAULT, .w1c, 0⟩, ⟨F.LN_STAT_CAP_ERR, .w1c, 0⟩, ⟨F.LN_STAT_DLY_STEP, .w1c, 0⟩, ⟨F.LN_STAT_DLY_RANGE, .w1c, 0⟩, ⟨F.LN_STAT_LOSS, .w1c, 0⟩, ⟨F.LN_STAT_LOSS_CAUSE, .ro, 0⟩, ⟨F.LN_STAT_EPOCH, .ro, 0⟩, ⟨F.LN_STAT_INSERVICE, .ro, 0⟩, ⟨F.LN_STAT_STATE, .ro, 0⟩]⟩,
  ⟨0x500008, [(0x1000, 32)], [⟨F.LN_DLY_DN_DELAY, .ro, 0⟩]⟩,
  ⟨0x50000C, [(0x1000, 32)], [⟨F.LN_DLY_UP_DELAY, .ro, 0⟩]⟩,
  ⟨0x500010, [(0x1000, 32)], [⟨F.LN_ASYM_ASYM, .rw, 0⟩]⟩,
  ⟨0x500014, [(0x1000, 32)], [⟨F.LN_MSG_CFG_RETRY, .rwl, 3⟩, ⟨F.LN_MSG_CFG_TMO, .rwl, 0x63⟩]⟩,
  ⟨0x500020, [(0x1000, 32), (4, 4)], [⟨F.LN_CAP_VALUE, .ro, 0⟩]⟩,
  ⟨0x500030, [(0x1000, 32)], [⟨F.LN_CHAIN_PRESENT, .ro, 0⟩]⟩,
  ⟨0x500040, [(0x1000, 32)], [⟨F.LN_PEP_CTL_CLR, .wo, 0⟩, ⟨F.LN_PEP_CTL_SQN, .rw, 0⟩, ⟨F.LN_PEP_CTL_RXPAT, .rw, 0⟩, ⟨F.LN_PEP_CTL_TXPAT, .rw, 0⟩]⟩,
  ⟨0x500044, [(0x1000, 32)], [⟨F.LN_PEP_INJ_RATE, .rw, 0⟩, ⟨F.LN_PEP_INJ_NSYM, .rw, 0⟩, ⟨F.LN_PEP_INJ_MODE, .rw, 0⟩]⟩,
  ⟨0x500048, [(0x1000, 32)], [⟨F.LN_PEP_INJCNT_COUNT, .rw, 0⟩]⟩,
  ⟨0x50004C, [(0x1000, 32)], [⟨F.LN_PEP_STAT_INJ_BUSY, .ro, 0⟩, ⟨F.LN_PEP_STAT_LOSTLOCK, .w1c, 0⟩, ⟨F.LN_PEP_STAT_LOCK, .ro, 0⟩]⟩,
  ⟨0x500080, [(0x1000, 32)], [⟨F.LN_CW_CORR_COUNT, .rc, 0⟩]⟩,
  ⟨0x500084, [(0x1000, 32)], [⟨F.LN_CW_UNCORR_COUNT, .rc, 0⟩]⟩,
  ⟨0x500088, [(0x1000, 32)], [⟨F.LN_SYM_CORR_COUNT, .rc, 0⟩]⟩,
  ⟨0x50008C, [(0x1000, 32)], [⟨F.LN_UP_MISS_COUNT, .rc, 0⟩]⟩,
  ⟨0x500090, [(0x1000, 32)], [⟨F.LN_HEAD_MISS_COUNT, .rc, 0⟩]⟩,
  ⟨0x500094, [(0x1000, 32)], [⟨F.LN_LOSSCNT_COUNT, .rc, 0⟩]⟩,
  ⟨0x500098, [(0x1000, 32)], [⟨F.LN_LATEFRM_COUNT, .rc, 0⟩]⟩,
  ⟨0x50009C, [(0x1000, 32)], [⟨F.LN_MSG_RETRY_COUNT, .rc, 0⟩]⟩,
  ⟨0x5000A0, [(0x1000, 32)], [⟨F.LN_STALE_COUNT, .rc, 0⟩]⟩,
  ⟨0x5000A4, [(0x1000, 32)], [⟨F.LN_BLKERR_COUNT, .rc, 0⟩]⟩,
  ⟨0x5000A8, [(0x1000, 32)], [⟨F.LN_PEP_BITERR_COUNT, .rc, 0⟩]⟩,
  ⟨0x5000AC, [(0x1000, 32)], [⟨F.LN_PEP_SYMERR_COUNT, .rc, 0⟩]⟩,
  ⟨0x5000B0, [(0x1000, 32)], [⟨F.LN_PEP_MBITS_COUNT, .rc, 0⟩]⟩,
  ⟨0x5000B4, [(0x1000, 32)], [⟨F.LN_FRMERR_COUNT, .rc, 0⟩]⟩]

/-- The register tables of block CEN. -/
def regRowsCEN : List RegRow := [
  ⟨0x600000, [], [⟨F.CEN_STAT_REJ_INDEX, .ro, 0⟩, ⟨F.CEN_STAT_REJ_CAUSE, .ro, 0⟩, ⟨F.CEN_STAT_SHADOW, .ro, 1⟩, ⟨F.CEN_STAT_COPYING, .ro, 0⟩, ⟨F.CEN_STAT_COMMITTED, .w1c, 0⟩, ⟨F.CEN_STAT_COMMIT_REJECT, .w1c, 0⟩]⟩,
  ⟨0x600004, [], [⟨F.CEN_COMMIT_GO, .wo, 0⟩]⟩,
  ⟨0x600008, [], [⟨F.CEN_CFG_MISSLIM, .rwl, 3⟩]⟩,
  ⟨0x60000C, [], [⟨F.CEN_GSCOUNT_COUNT, .rw, 1⟩]⟩,
  ⟨0x600010, [(4, 7)], [⟨F.CEN_SPDBAND_THR, .rw, 0xffffffff⟩]⟩,
  ⟨0x600040, [], [⟨F.CEN_LIDX_LOOP, .rw, 0⟩]⟩,
  ⟨0x600044, [], [⟨F.CEN_LCTL_MAN_TRACK, .rw, 1⟩, ⟨F.CEN_LCTL_AUTO, .rw, 0⟩]⟩,
  ⟨0x600048, [], [⟨F.CEN_LMAN_MAN, .rw, 0x10000⟩]⟩,
  ⟨0x60004C, [], [⟨F.CEN_LK_VALUE, .ro, 0x10000⟩]⟩,
  ⟨0x600050, [], [⟨F.CEN_LINTG_VALUE, .ro, 0⟩]⟩,
  ⟨0x600054, [], [⟨F.CEN_LSTAT_GSET, .ro, 0⟩, ⟨F.CEN_LSTAT_MISSING, .ro, 0⟩, ⟨F.CEN_LSTAT_BPCLAMP, .w1c, 0⟩, ⟨F.CEN_LSTAT_LIMITED, .ro, 0⟩, ⟨F.CEN_LSTAT_DARK, .ro, 0⟩, ⟨F.CEN_LSTAT_XFER, .w1c, 0⟩, ⟨F.CEN_LSTAT_ACTIVE, .ro, 0⟩]⟩,
  ⟨0x600080, [], [⟨F.CEN_TRC_CFG_MODE, .rw, 0⟩, ⟨F.CEN_TRC_CFG_TRIG, .rw, 0⟩, ⟨F.CEN_TRC_CFG_TLOOP, .rw, 0⟩, ⟨F.CEN_TRC_CFG_TEVT, .rw, 0⟩, ⟨F.CEN_TRC_CFG_DEC, .rw, 0⟩]⟩,
  ⟨0x600084, [], [⟨F.CEN_TRC_SEL_CHMASK, .rw, 0xffff⟩, ⟨F.CEN_TRC_SEL_HI, .rw, 0xcf⟩, ⟨F.CEN_TRC_SEL_LO, .rw, 0⟩]⟩,
  ⟨0x600088, [], [⟨F.CEN_TRC_POST_POST, .rw, 0x10000⟩]⟩,
  ⟨0x60008C, [], [⟨F.CEN_TRC_CTL_TRIGGER, .wo, 0⟩, ⟨F.CEN_TRC_CTL_STOP, .wo, 0⟩, ⟨F.CEN_TRC_CTL_ARM, .wo, 0⟩]⟩,
  ⟨0x600090, [], [⟨F.CEN_TRC_STAT_CFG_ERR, .w1c, 0⟩, ⟨F.CEN_TRC_STAT_WRAPPED, .ro, 0⟩, ⟨F.CEN_TRC_STAT_DONE, .ro, 0⟩, ⟨F.CEN_TRC_STAT_TRIGGERED, .ro, 0⟩, ⟨F.CEN_TRC_STAT_RUN, .ro, 0⟩]⟩,
  ⟨0x600094, [], [⟨F.CEN_TRC_WPTR_INDEX, .ro, 0⟩]⟩,
  ⟨0x600098, [], [⟨F.CEN_TRC_TPTR_INDEX, .ro, 0⟩]⟩,
  ⟨0x60009C, [], [⟨F.CEN_TRC_SPILL_SIZE, .rwl, 0⟩, ⟨F.CEN_TRC_SPILL_OFS, .rwl, 0⟩]⟩,
  ⟨0x6000A0, [], [⟨F.CEN_TRC_SPILLDROP_COUNT, .rc, 0⟩]⟩,
  ⟨0x600100, [(0x20, 12)], [⟨F.CEN_CE_STAT_EPOCH, .ro, 0⟩, ⟨F.CEN_CE_STAT_MISSING, .w1c, 0⟩, ⟨F.CEN_CE_STAT_RESETTING, .ro, 0⟩]⟩,
  ⟨0x600104, [(0x20, 12)], [⟨F.CEN_CE_MISS_COUNT, .rc, 0⟩]⟩,
  ⟨0x600108, [(0x20, 12)], [⟨F.CEN_CE_PHERR_COUNT, .rc, 0⟩]⟩,
  ⟨0x60010C, [(0x20, 12)], [⟨F.CEN_CE_IDXMISS_COUNT, .rc, 0⟩]⟩,
  ⟨0x600110, [(0x20, 12)], [⟨F.CEN_CE_ACCSAT_COUNT, .rc, 0⟩]⟩,
  ⟨0x600114, [(0x20, 12)], [⟨F.CEN_CE_TRCDROP_COUNT, .rc, 0⟩]⟩,
  ⟨0x600118, [(0x20, 12)], [⟨F.CEN_CE_XFER_COUNT, .rc, 0⟩]⟩]

/-- The register tables of block MAP. -/
def regRowsMAP : List RegRow := [
  ⟨0x700000, [], [⟨F.MAP_CFG_SRC_PORT, .rwl, 0⟩, ⟨F.MAP_CFG_SRC_EN, .rwl, 0⟩, ⟨F.MAP_CFG_TILED, .rwl, 0⟩]⟩,
  ⟨0x700010, [], [⟨F.MAP_SAF_CFG_GAIN, .rwl, 0x4000⟩, ⟨F.MAP_SAF_CFG_REF, .rwl, 0⟩, ⟨F.MAP_SAF_CFG_ABS, .rwl, 0⟩, ⟨F.MAP_SAF_CFG_EN, .rwl, 0⟩]⟩,
  ⟨0x700014, [], [⟨F.MAP_SAF_TGT_TGT, .rwl, 0⟩]⟩,
  ⟨0x700018, [], [⟨F.MAP_SAF_STAT_LIMIT, .w1c, 0⟩]⟩,
  ⟨0x70001C, [], [⟨F.MAP_SAF_NOSIG_COUNT, .rc, 0⟩]⟩,
  ⟨0x700040, [(0x20, 4)], [⟨F.MAP_SAF_RATIO_RATIO, .rwl, 0x10000⟩]⟩,
  ⟨0x700044, [(0x20, 4)], [⟨F.MAP_SAF_BASE_BASE, .rwl, 0⟩]⟩,
  ⟨0x700048, [(0x20, 4)], [⟨F.MAP_SAF_PDLY_PDLY, .rwl, 0⟩]⟩,
  ⟨0x70004C, [(0x20, 4)], [⟨F.MAP_SAF_S_S, .rwl, 0x10000⟩]⟩,
  ⟨0x700050, [(0x20, 4)], [⟨F.MAP_SAF_SMIN_SMIN, .rwl, 0x8000⟩]⟩,
  ⟨0x700054, [(0x20, 4)], [⟨F.MAP_SAF_SMAX_SMAX, .rwl, 0x20000⟩]⟩,
  ⟨0x700058, [(0x20, 4)], [⟨F.MAP_SAF_E_E, .ro, 0⟩]⟩,
  ⟨0x701000, [(0x1000, 2)], [⟨F.MAP_CTL_GO, .wo, 0⟩, ⟨F.MAP_CTL_STOP, .wo, 0⟩, ⟨F.MAP_CTL_TRIG, .rw, 0⟩, ⟨F.MAP_CTL_SYNC, .rw, 0⟩, ⟨F.MAP_CTL_CONT, .rw, 0⟩, ⟨F.MAP_CTL_HOLDLAST, .rw, 0⟩, ⟨F.MAP_CTL_QREC, .rw, 0⟩, ⟨F.MAP_CTL_DONE_EN, .rw, 0⟩, ⟨F.MAP_CTL_TEVT, .rw, 0⟩, ⟨F.MAP_CTL_DEVT, .rw, 0⟩]⟩,
  ⟨0x701004, [(0x1000, 2)], [⟨F.MAP_STAT_EPOCH, .ro, 0⟩, ⟨F.MAP_STAT_REJ_CAUSE, .ro, 0⟩, ⟨F.MAP_STAT_LINEERR, .w1c, 0⟩, ⟨F.MAP_STAT_COMMIT_REJECT, .w1c, 0⟩, ⟨F.MAP_STAT_COMMITTED, .w1c, 0⟩, ⟨F.MAP_STAT_SUBCAUSE, .ro, 0⟩, ⟨F.MAP_STAT_SUBREJ, .w1c, 0⟩, ⟨F.MAP_STAT_PCAP, .w1c, 0⟩, ⟨F.MAP_STAT_LANELOSS, .w1c, 0⟩, ⟨F.MAP_STAT_PLANELATE, .w1c, 0⟩, ⟨F.MAP_STAT_UNDERRUN, .w1c, 0⟩, ⟨F.MAP_STAT_DEFERRED_FREE, .w1c, 0⟩, ⟨F.MAP_STAT_LATE, .w1c, 0⟩, ⟨F.MAP_STAT_RUN, .ro, 0⟩, ⟨F.MAP_STAT_RES, .ro, 0⟩]⟩,
  ⟨0x701008, [(0x1000, 2)], [⟨F.MAP_COMMIT_GO, .wo, 0⟩]⟩,
  ⟨0x701010, [(0x1000, 2)], [⟨F.MAP_GEOM_HEIGHT, .rw, 0⟩, ⟨F.MAP_GEOM_WIDTH, .rw, 0⟩]⟩,
  ⟨0x701014, [(0x1000, 2)], [⟨F.MAP_FRAME_VB, .rw, 0⟩, ⟨F.MAP_FRAME_FSIZE, .rw, 0⟩, ⟨F.MAP_FRAME_NPL, .rw, 0⟩]⟩,
  ⟨0x701018, [(0x1000, 2)], [⟨F.MAP_TIMING_TSET, .rw, 0⟩, ⟨F.MAP_TIMING_TRST, .rw, 0⟩]⟩,
  ⟨0x70101C, [(0x1000, 2)], [⟨F.MAP_GUARD_GUARD, .rw, 0⟩]⟩,
  ⟨0x701040, [(0x1000, 2), (8, 16)], [⟨F.MAP_SEQ_A_WT, .rw, 0⟩, ⟨F.MAP_SEQ_A_CMASK, .rw, 0⟩, ⟨F.MAP_SEQ_A_WAVE, .rw, 0⟩, ⟨F.MAP_SEQ_A_PLANE, .rw, 0⟩]⟩,
  ⟨0x701044, [(0x1000, 2), (8, 16)], [⟨F.MAP_SEQ_B_PLEN, .rw, 0⟩]⟩,
  ⟨0x701100, [(0x1000, 2)], [⟨F.MAP_SUBMIT_BUF, .wo, 0⟩]⟩,
  ⟨0x701104, [(0x1000, 2)], [⟨F.MAP_FREE_BUF, .wo, 0⟩]⟩,
  ⟨0x701110, [(0x1000, 2), (4, 8)], [⟨F.MAP_BUFST_STATE, .ro, 0⟩]⟩,
  ⟨0x701130, [(0x1000, 2)], [⟨F.MAP_FNUM_FNUM, .ro, 0⟩]⟩,
  ⟨0x701134, [(0x1000, 2)], [⟨F.MAP_FBUF_DARK, .ro, 0⟩, ⟨F.MAP_FBUF_REPEAT, .ro, 0⟩, ⟨F.MAP_FBUF_BUF, .ro, 0⟩]⟩,
  ⟨0x701138, [(0x1000, 2), (4, 3)], [⟨F.MAP_FLIP_FLIP, .ro, 0⟩]⟩,
  ⟨0x701144, [(0x1000, 2)], [⟨F.MAP_QDEPTH_QDEPTH, .ro, 0⟩]⟩,
  ⟨0x701148, [(0x1000, 2)], [⟨F.MAP_NFR_NFR, .rw, 0⟩]⟩,
  ⟨0x701180, [(0x1000, 2)], [⟨F.MAP_UNDERRUN_COUNT, .rc, 0⟩]⟩,
  ⟨0x701184, [(0x1000, 2)], [⟨F.MAP_PLANELATE_COUNT, .rc, 0⟩]⟩,
  ⟨0x701188, [(0x1000, 2)], [⟨F.MAP_DEFERFREE_COUNT, .rc, 0⟩]⟩,
  ⟨0x70118C, [(0x1000, 2)], [⟨F.MAP_LATECOMMIT_COUNT, .rc, 0⟩]⟩,
  ⟨0x701190, [(0x1000, 2)], [⟨F.MAP_WRVIOL_COUNT, .rc, 0⟩]⟩,
  ⟨0x701194, [(0x1000, 2)], [⟨F.MAP_PCAP_COUNT, .rc, 0⟩]⟩,
  ⟨0x701198, [(0x1000, 2)], [⟨F.MAP_LINEERR_COUNT, .rc, 0⟩]⟩,
  ⟨0x70119C, [(0x1000, 2)], [⟨F.MAP_SUBREJ_COUNT, .rc, 0⟩]⟩,
  ⟨0x7011A0, [(0x1000, 2)], [⟨F.MAP_QDROP_COUNT, .rc, 0⟩]⟩]

/-- The register tables of block AXF. -/
def regRowsAXF : List RegRow := [
  ⟨0x800000, [], [⟨F.AXF_STAT_REJ_CAUSE, .ro, 0⟩, ⟨F.AXF_STAT_REJ_INDEX, .ro, 0⟩, ⟨F.AXF_STAT_NOBIND, .w1c, 0⟩, ⟨F.AXF_STAT_COMMITTED, .w1c, 0⟩, ⟨F.AXF_STAT_COMMIT_REJECT, .w1c, 0⟩]⟩,
  ⟨0x800004, [], [⟨F.AXF_COMMIT_GO, .wo, 0⟩]⟩,
  ⟨0x800100, [(0x40, 8)], [⟨F.AXF_AX_CFG_EN, .rw, 0⟩, ⟨F.AXF_AX_CFG_TYPE, .rw, 0⟩, ⟨F.AXF_AX_CFG_DIRINV, .rw, 0⟩, ⟨F.AXF_AX_CFG_IDXMODE, .rw, 0⟩, ⟨F.AXF_AX_CFG_FILT, .rw, 0⟩, ⟨F.AXF_AX_CFG_WMLEN, .rw, 0⟩]⟩,
  ⟨0x800104, [(0x40, 8)], [⟨F.AXF_AX_CFG2_HIGH, .rw, 0xffff⟩, ⟨F.AXF_AX_CFG2_LOW, .rw, 0⟩]⟩,
  ⟨0x800108, [(0x40, 8)], [⟨F.AXF_AX_HYST_IDXTOL, .rw, 0⟩, ⟨F.AXF_AX_HYST_HYST, .rw, 1⟩]⟩,
  ⟨0x80010C, [(0x40, 8)], [⟨F.AXF_AX_IDXPER_IDXPER, .rw, 0⟩]⟩,
  ⟨0x800110, [(0x40, 8)], [⟨F.AXF_AX_IDXREF_LO_IDXREF, .rw, 0⟩]⟩,
  ⟨0x800114, [(0x40, 8)], [⟨F.AXF_AX_IDXREF_HI_IDXREF, .rw, 0⟩]⟩,
  ⟨0x800118, [(0x40, 8)], [⟨F.AXF_AX_WMFIRED_COUNT, .rc, 0⟩]⟩,
  ⟨0x80011C, [(0x40, 8)], [⟨F.AXF_AX_WMPASSED_COUNT, .rc, 0⟩]⟩,
  ⟨0x800120, [(0x40, 8)], [⟨F.AXF_AX_POS_LO_POS, .ro, 0⟩]⟩,
  ⟨0x800124, [(0x40, 8)], [⟨F.AXF_AX_POS_HI_POS, .ro, 0⟩]⟩,
  ⟨0x800128, [(0x40, 8)], [⟨F.AXF_AX_SPEED_SPEED, .ro, 0⟩]⟩,
  ⟨0x80012C, [(0x40, 8)], [⟨F.AXF_AX_STAT_VALID, .ro, 0⟩, ⟨F.AXF_AX_STAT_POSLOST, .w1c, 0⟩, ⟨F.AXF_AX_STAT_REFD, .ro, 0⟩, ⟨F.AXF_AX_STAT_CORRFIRE, .w1c, 0⟩, ⟨F.AXF_AX_STAT_IDXMIS, .w1c, 0⟩, ⟨F.AXF_AX_STAT_SSIERR, .w1c, 0⟩, ⟨F.AXF_AX_STAT_HALLERR, .w1c, 0⟩, ⟨F.AXF_AX_STAT_QERR, .w1c, 0⟩, ⟨F.AXF_AX_STAT_AMPFLT, .w1c, 0⟩, ⟨F.AXF_AX_STAT_OVSP, .w1c, 0⟩]⟩,
  ⟨0x800130, [(0x40, 8)], [⟨F.AXF_AX_IDXOBS_LO_IDXOBS, .ro, 0⟩]⟩,
  ⟨0x800134, [(0x40, 8)], [⟨F.AXF_AX_IDXOBS_HI_IDXOBS, .ro, 0⟩]⟩,
  ⟨0x800138, [(0x40, 8)], [⟨F.AXF_AX_ERRCNT_COUNT, .rc, 0⟩]⟩,
  ⟨0x80013C, [(0x40, 8)], [⟨F.AXF_AX_IDXERR_COUNT, .rc, 0⟩]⟩,
  ⟨0x800300, [(4, 8)], [⟨F.AXF_CMP_CFG_POL, .rwl, 0⟩]⟩,
  ⟨0x800400, [(0x10, 4)], [⟨F.AXF_PDET_CFG_EN, .rw, 0⟩, ⟨F.AXF_PDET_CFG_POL, .rw, 0⟩, ⟨F.AXF_PDET_CFG_AXIS, .rw, 0⟩, ⟨F.AXF_PDET_CFG_NOREC_REJ, .rw, 0⟩, ⟨F.AXF_PDET_CFG_REJSTR, .rw, 0⟩, ⟨F.AXF_PDET_CFG_BLANK, .rw, 0⟩]⟩,
  ⟨0x800404, [(0x10, 4)], [⟨F.AXF_PDET_REJOFS_REJOFS, .rw, 0⟩]⟩,
  ⟨0x800408, [(0x10, 4)], [⟨F.AXF_PDET_REJOUT_OUTEN, .rw, 0⟩, ⟨F.AXF_PDET_REJOUT_OUT, .rw, 0⟩, ⟨F.AXF_PDET_REJOUT_WIDTH, .rw, 0⟩]⟩,
  ⟨0x80040C, [(0x10, 4)], [⟨F.AXF_PDET_NOREC_COUNT, .rc, 0⟩]⟩,
  ⟨0x800480, [(4, 4)], [⟨F.AXF_PDET_BLANKED_COUNT, .rc, 0⟩]⟩,
  ⟨0x800500, [], [⟨F.AXF_PQ_STAT_INFLIGHT, .ro, 0⟩, ⟨F.AXF_PQ_STAT_WPTR, .ro, 0⟩]⟩,
  ⟨0x800504, [], [⟨F.AXF_PQ_CFG_QREC, .rw, 0⟩]⟩,
  ⟨0x800508, [], [⟨F.AXF_PQ_CODED_COUNT, .rc, 0⟩]⟩,
  ⟨0x80050C, [], [⟨F.AXF_PQ_REJECTED_COUNT, .rc, 0⟩]⟩,
  ⟨0x800510, [], [⟨F.AXF_PQ_QDROP_COUNT, .rc, 0⟩]⟩,
  ⟨0x800600, [(0x10, 4)], [⟨F.AXF_MD_CFG_EN, .rw, 0⟩, ⟨F.AXF_MD_CFG_AXIS, .rw, 0⟩, ⟨F.AXF_MD_CFG_NODE, .rw, 0⟩]⟩,
  ⟨0x800604, [(0x10, 4)], [⟨F.AXF_MD_STOPTHR_STOPTHR, .rwl, 0x100⟩]⟩,
  ⟨0x800608, [(0x10, 4)], [⟨F.AXF_MD_ACC_ACC, .rwl, 0⟩]⟩,
  ⟨0x80060C, [(0x10, 4)], [⟨F.AXF_MD_STAT_ACTIVE, .ro, 0⟩, ⟨F.AXF_MD_STAT_HOSTSTOP, .w1c, 0⟩, ⟨F.AXF_MD_STAT_FAIL, .w1c, 0⟩, ⟨F.AXF_MD_STAT_PHASE, .ro, 0⟩]⟩,
  ⟨0x800700, [(4, 8)], [⟨F.AXF_AO_CFG_EN, .rwl, 0⟩, ⟨F.AXF_AO_CFG_NODE, .rwl, 0⟩]⟩,
  ⟨0x800720, [(4, 8)], [⟨F.AXF_AI_CFG_EN, .rwl, 0⟩, ⟨F.AXF_AI_CFG_NODE, .rwl, 0⟩]⟩,
  ⟨0x800740, [], [⟨F.AXF_AI_TMO_TMO, .rwl, 0x3e7⟩]⟩,
  ⟨0x800744, [], [⟨F.AXF_AI_STAT_STALE, .ro, 0⟩]⟩,
  ⟨0x800748, [], [⟨F.AXF_AI_REJECT_COUNT, .rc, 0⟩]⟩,
  ⟨0x800760, [(4, 8)], [⟨F.AXF_AI_VALUE, .ro, 0⟩]⟩]

/-- The register tables of block CAM. -/
def regRowsCAM : List RegRow := [
  ⟨0x901000, [(0x1000, 4)], [⟨F.CAM_CFG_TAPMODE, .rwl, 0⟩, ⟨F.CAM_CFG_TPOL, .rwl, 0⟩, ⟨F.CAM_CFG_HPOL, .rwl, 0⟩, ⟨F.CAM_CFG_VPOL, .rwl, 0⟩, ⟨F.CAM_CFG_PCLKNEG, .rwl, 0⟩, ⟨F.CAM_CFG_SYNC, .rwl, 0⟩, ⟨F.CAM_CFG_HEAD, .rwl, 0⟩, ⟨F.CAM_CFG_PORT, .rwl, 0⟩, ⟨F.CAM_CFG_SRC, .rwl, 0⟩, ⟨F.CAM_CFG_EN, .rwl, 0⟩]⟩,
  ⟨0x901004, [(0x1000, 4)], [⟨F.CAM_STAT_EPOCH, .ro, 0⟩, ⟨F.CAM_STAT_REJ_CAUSE, .ro, 0⟩, ⟨F.CAM_STAT_RES, .ro, 0⟩, ⟨F.CAM_STAT_CFG_ERR, .w1c, 0⟩, ⟨F.CAM_STAT_LINEERR, .w1c, 0⟩, ⟨F.CAM_STAT_TAPINC, .w1c, 0⟩, ⟨F.CAM_STAT_TIMEOUT, .w1c, 0⟩, ⟨F.CAM_STAT_DROP, .w1c, 0⟩, ⟨F.CAM_STAT_LONG, .w1c, 0⟩, ⟨F.CAM_STAT_SHORT, .w1c, 0⟩, ⟨F.CAM_STAT_FRAME, .w1c, 0⟩, ⟨F.CAM_STAT_COMMITTED, .w1c, 0⟩, ⟨F.CAM_STAT_COMMIT_REJECT, .w1c, 0⟩]⟩,
  ⟨0x901008, [(0x1000, 4)], [⟨F.CAM_COMMIT_GO, .wo, 0⟩]⟩,
  ⟨0x90100C, [(0x1000, 4)], [⟨F.CAM_FNUM_FNUM, .ro, 0⟩]⟩,
  ⟨0x901010, [(0x1000, 4)], [⟨F.CAM_SNAP_SNAP, .wo, 0⟩]⟩,
  ⟨0x901014, [(0x1000, 4)], [⟨F.CAM_TAP_N, .wo, 0⟩]⟩,
  ⟨0x901018, [(0x1000, 4)], [⟨F.CAM_TAPCFG_SIZE, .rwl, 0⟩, ⟨F.CAM_TAPCFG_OFS, .rwl, 0⟩]⟩,
  ⟨0x90101C, [(0x1000, 4)], [⟨F.CAM_TAPWP_PAGE, .ro, 0⟩]⟩,
  ⟨0x901100, [(0x1000, 4)], [⟨F.CAM_ESET_BITS, .rw, 8⟩, ⟨F.CAM_ESET_CODE, .rw, 0⟩, ⟨F.CAM_ESET_KIND, .rw, 0⟩, ⟨F.CAM_ESET_ESID, .rw, 0⟩]⟩,
  ⟨0x901104, [(0x1000, 4)], [⟨F.CAM_TRIG_SEL, .rw, 0⟩, ⟨F.CAM_TRIG_AXIS, .rw, 0⟩, ⟨F.CAM_TRIG_SRC, .rw, 0⟩]⟩,
  ⟨0x901108, [(0x1000, 4)], [⟨F.CAM_PER_PER, .rw, 0⟩]⟩,
  ⟨0x90110C, [(0x1000, 4)], [⟨F.CAM_TDLY_TDLY, .rw, 0⟩]⟩,
  ⟨0x901110, [(0x1000, 4)], [⟨F.CAM_EXP_MINPER, .rw, 0⟩, ⟨F.CAM_EXP_EXP, .rw, 0⟩]⟩,
  ⟨0x901114, [(0x1000, 4)], [⟨F.CAM_GEOM_HEIGHT, .rw, 0⟩, ⟨F.CAM_GEOM_WIDTH, .rw, 0⟩]⟩,
  ⟨0x901118, [(0x1000, 4)], [⟨F.CAM_CORR_GAIN, .rw, 0x1000⟩, ⟨F.CAM_CORR_OFS, .rw, 0⟩]⟩,
  ⟨0x90111C, [(0x1000, 4)], [⟨F.CAM_THR_THHI, .rw, 0xffff⟩, ⟨F.CAM_THR_THLO, .rw, 0⟩]⟩,
  ⟨0x901120, [(0x1000, 4), (8, 4)], [⟨F.CAM_ROI_X_EN, .rw, 0⟩, ⟨F.CAM_ROI_X_X1, .rw, 0⟩, ⟨F.CAM_ROI_X_X0, .rw, 0⟩]⟩,
  ⟨0x901124, [(0x1000, 4), (8, 4)], [⟨F.CAM_ROI_Y_Y1, .rw, 0⟩, ⟨F.CAM_ROI_Y_Y0, .rw, 0⟩]⟩,
  ⟨0x901140, [(0x1000, 4)], [⟨F.CAM_GRID_BANDDIR, .rw, 0⟩, ⟨F.CAM_GRID_NBAND, .rw, 0⟩, ⟨F.CAM_GRID_NY, .rw, 0⟩, ⟨F.CAM_GRID_NX, .rw, 0⟩]⟩,
  ⟨0x901080, [(0x1000, 4)], [⟨F.CAM_SHORTCNT_COUNT, .rc, 0⟩]⟩,
  ⟨0x901084, [(0x1000, 4)], [⟨F.CAM_LONGCNT_COUNT, .rc, 0⟩]⟩,
  ⟨0x901088, [(0x1000, 4)], [⟨F.CAM_LINEERR_COUNT, .rc, 0⟩]⟩,
  ⟨0x90108C, [(0x1000, 4)], [⟨F.CAM_TRGDROP_COUNT, .rc, 0⟩]⟩,
  ⟨0x901090, [(0x1000, 4)], [⟨F.CAM_TRGMISS_COUNT, .rc, 0⟩]⟩,
  ⟨0x901094, [(0x1000, 4)], [⟨F.CAM_TRGLATE_COUNT, .rc, 0⟩]⟩,
  ⟨0x901098, [(0x1000, 4)], [⟨F.CAM_UNTRIG_COUNT, .rc, 0⟩]⟩,
  ⟨0x90109C, [(0x1000, 4)], [⟨F.CAM_TAPDROP_COUNT, .rc, 0⟩]⟩]

/-- The register tables of block TIM. -/
def regRowsTIM : List RegRow := [
  ⟨0xA00000, [], [⟨F.TIM_STAT_REJ_CAUSE, .ro, 0⟩, ⟨F.TIM_STAT_HOLDREF, .ro, 0⟩, ⟨F.TIM_STAT_ACTIVE, .ro, 0⟩, ⟨F.TIM_STAT_NOREF, .ro, 0⟩, ⟨F.TIM_STAT_REFSW, .w1c, 0⟩, ⟨F.TIM_STAT_STEPPED, .w1c, 0⟩, ⟨F.TIM_STAT_COMMITTED, .w1c, 0⟩, ⟨F.TIM_STAT_COMMIT_REJECT, .w1c, 0⟩]⟩,
  ⟨0xA00004, [], [⟨F.TIM_COMMIT_GO, .wo, 0⟩]⟩,
  ⟨0xA00010, [(4, 3)], [⟨F.TIM_NOW_NOW, .ro, 0⟩]⟩,
  ⟨0xA00020, [], [⟨F.TIM_REF_CFG_FREQ1, .rwl, 0⟩, ⟨F.TIM_REF_CFG_FREQ0, .rwl, 0⟩, ⟨F.TIM_REF_CFG_AUTO, .rw, 1⟩, ⟨F.TIM_REF_CFG_SEL, .rw, 0⟩]⟩,
  ⟨0xA00024, [], [⟨F.TIM_RATE_RATE, .ro, 0⟩]⟩,
  ⟨0xA00028, [], [⟨F.TIM_RATE_SET_RATE, .rw, 0⟩]⟩,
  ⟨0xA0002C, [], [⟨F.TIM_REFSWCNT_COUNT, .rc, 0⟩]⟩,
  ⟨0xA00030, [], [⟨F.TIM_START_CFG_SYNCI, .rw, 0⟩, ⟨F.TIM_START_CFG_EN, .rw, 0⟩]⟩,
  ⟨0xA00034, [], [⟨F.TIM_CAPMISS_COUNT, .rc, 0⟩]⟩,
  ⟨0xA00040, [], [⟨F.TIM_PTP_STAT_PORT, .ro, 0⟩, ⟨F.TIM_PTP_STAT_MASTER_LOST, .w1c, 0⟩, ⟨F.TIM_PTP_STAT_GM_CHANGE, .w1c, 0⟩, ⟨F.TIM_PTP_STAT_PATH_STEP, .w1c, 0⟩, ⟨F.TIM_PTP_STAT_OUT_OF_RANGE, .w1c, 0⟩, ⟨F.TIM_PTP_STAT_LOCKED, .ro, 0⟩, ⟨F.TIM_PTP_STAT_STATE, .ro, 0⟩]⟩,
  ⟨0xA00044, [], [⟨F.TIM_PTP_OFS_LO_OFS, .ro, 0⟩]⟩,
  ⟨0xA00048, [], [⟨F.TIM_PTP_OFS_HI_OFS, .ro, 0⟩]⟩,
  ⟨0xA0004C, [], [⟨F.TIM_PTP_MPD_MPD, .ro, 0⟩]⟩,
  ⟨0xA00050, [], [⟨F.TIM_PTP_GM_LO_GM, .ro, 0⟩]⟩,
  ⟨0xA00054, [], [⟨F.TIM_PTP_GM_HI_GM, .ro, 0⟩]⟩,
  ⟨0xA00058, [], [⟨F.TIM_PTP_I_I, .ro, 0⟩]⟩,
  ⟨0xA00100, [], [⟨F.TIM_PTP_CFG_PORTEN, .rw, 0⟩, ⟨F.TIM_PTP_CFG_DOMAIN, .rw, 0⟩, ⟨F.TIM_PTP_CFG_SLAVEONLY, .rw, 0⟩, ⟨F.TIM_PTP_CFG_UDP, .rw, 0⟩, ⟨F.TIM_PTP_CFG_PROFILE, .rw, 0⟩, ⟨F.TIM_PTP_CFG_SERVO, .rw, 1⟩, ⟨F.TIM_PTP_CFG_EN, .rw, 0⟩]⟩,
  ⟨0xA00104, [], [⟨F.TIM_PTP_INT_ANNTMO, .rw, 2⟩, ⟨F.TIM_PTP_INT_SYNCTMO, .rw, 2⟩, ⟨F.TIM_PTP_INT_LOGPDELAY, .rw, 0⟩, ⟨F.TIM_PTP_INT_LOGANN, .rw, 0⟩, ⟨F.TIM_PTP_INT_LOGSYNC, .rw, 0xd⟩]⟩,
  ⟨0xA00108, [], [⟨F.TIM_PTP_KP_KP, .rw, 0x40000⟩]⟩,
  ⟨0xA0010C, [], [⟨F.TIM_PTP_KI_KI, .rw, 0x8000⟩]⟩,
  ⟨0xA00110, [], [⟨F.TIM_PTP_LIM_RCAP, .rw, 0xc8⟩, ⟨F.TIM_PTP_LIM_CAPTURE, .rw, 0x32⟩]⟩,
  ⟨0xA00114, [], [⟨F.TIM_PTP_PD_GUARD, .rw, 0x40⟩, ⟨F.TIM_PTP_PD_PDSTEP, .rw, 0x32⟩]⟩,
  ⟨0xA00118, [], [⟨F.TIM_PTP_DS_CLASS, .rw, 0xf8⟩, ⟨F.TIM_PTP_DS_PRIO2, .rw, 0x80⟩, ⟨F.TIM_PTP_DS_PRIO1, .rw, 0x80⟩]⟩,
  ⟨0xA01000, [(0x100, 2)], [⟨F.TIM_P_CFG_PCP, .rwl, 0⟩, ⟨F.TIM_P_CFG_VID, .rwl, 0⟩, ⟨F.TIM_P_CFG_VLAN, .rwl, 0⟩, ⟨F.TIM_P_CFG_ANEG, .rwl, 0⟩, ⟨F.TIM_P_CFG_SPEED, .rwl, 0⟩, ⟨F.TIM_P_CFG_EN, .rwl, 0⟩]⟩,
  ⟨0xA01004, [(0x100, 2)], [⟨F.TIM_P_MAC_LO_MAC, .rwl, 0⟩]⟩,
  ⟨0xA01008, [(0x100, 2)], [⟨F.TIM_P_MAC_HI_MAC, .rwl, 0⟩]⟩,
  ⟨0xA0100C, [(0x100, 2)], [⟨F.TIM_P_IP_IP, .rwl, 0⟩]⟩,
  ⟨0xA01010, [(0x100, 2)], [⟨F.TIM_P_ASYM_ASYM, .rw, 0⟩]⟩,
  ⟨0xA01014, [(0x100, 2)], [⟨F.TIM_P_STAT_PSTATE, .ro, 0⟩, ⟨F.TIM_P_STAT_LINKCHG, .w1c, 0⟩, ⟨F.TIM_P_STAT_LINK, .ro, 0⟩]⟩,
  ⟨0xA01040, [(0x100, 2)], [⟨F.TIM_P_RXOK_COUNT, .rc, 0⟩]⟩,
  ⟨0xA01044, [(0x100, 2)], [⟨F.TIM_P_RXFCS_COUNT, .rc, 0⟩]⟩,
  ⟨0xA01048, [(0x100, 2)], [⟨F.TIM_P_RXDROP_COUNT, .rc, 0⟩]⟩,
  ⟨0xA0104C, [(0x100, 2)], [⟨F.TIM_P_TXOK_COUNT, .rc, 0⟩]⟩,
  ⟨0xA02000, [(0x20, 4)], [⟨F.TIM_SYNCI_CFG_DLY, .rw, 0⟩, ⟨F.TIM_SYNCI_CFG_EDGE, .rw, 0⟩]⟩,
  ⟨0xA02004, [(0x20, 4), (4, 3)], [⟨F.TIM_SYNCI_TS_TS, .ro, 0⟩]⟩,
  ⟨0xA02010, [(0x20, 4)], [⟨F.TIM_SYNCI_CNT_COUNT, .rc, 0⟩]⟩,
  ⟨0xA02100, [(0x20, 4)], [⟨F.TIM_SYNCO_CFG_WIDTH, .rw, 0⟩, ⟨F.TIM_SYNCO_CFG_POL, .rw, 0⟩, ⟨F.TIM_SYNCO_CFG_MODE, .rw, 0⟩]⟩,
  ⟨0xA02104, [(0x20, 4)], [⟨F.TIM_SYNCO_PER_PER, .rw, 0⟩]⟩,
  ⟨0xA02108, [(0x20, 4)], [⟨F.TIM_SYNCO_PH_PH, .rw, 0⟩]⟩,
  ⟨0xA0210C, [(0x20, 4)], [⟨F.TIM_SYNCO_AT_LO_AT, .rw, 0⟩]⟩,
  ⟨0xA02110, [(0x20, 4)], [⟨F.TIM_SYNCO_AT_HI_AT, .rw, 0⟩]⟩]

/-- The register tables of block CAL. -/
def regRowsCAL : List RegRow := [
  ⟨0xB00000, [], [⟨F.CAL_CFG_AUTOCOMMIT, .rwl, 0⟩, ⟨F.CAL_CFG_SWAP, .rwl, 0⟩, ⟨F.CAL_CFG_NEGY, .rwl, 0⟩, ⟨F.CAL_CFG_NEGX, .rwl, 0⟩, ⟨F.CAL_CFG_CAM, .rwl, 0⟩, ⟨F.CAL_CFG_MINFID, .rwl, 4⟩, ⟨F.CAL_CFG_SETTLE, .rwl, 0x1f4⟩]⟩,
  ⟨0xB00004, [], [⟨F.CAL_PIX_PIX, .rwl, 0x10000⟩]⟩,
  ⟨0xB00008, [], [⟨F.CAL_CTR_CY, .rwl, 0⟩, ⟨F.CAL_CTR_CX, .rwl, 0⟩]⟩,
  ⟨0xB0000C, [], [⟨F.CAL_LIM0_MAXOFS, .rwl, 0x32⟩, ⟨F.CAL_LIM0_MAXRES, .rwl, 0x7d0⟩]⟩,
  ⟨0xB00010, [], [⟨F.CAL_LIM1_MAXROT, .rwl, 0x1f4⟩, ⟨F.CAL_LIM1_MAXSCALE, .rwl, 0x1f4⟩]⟩,
  ⟨0xB00014, [], [⟨F.CAL_RUN_BUSY, .ro, 0⟩, ⟨F.CAL_RUN_HEAD, .ro, 0⟩, ⟨F.CAL_RUN_FID, .ro, 0⟩]⟩,
  ⟨0xB00018, [], [⟨F.CAL_PASS_PASS, .ro, 0⟩]⟩,
  ⟨0xB01010, [(0x40, 24)], [⟨F.CAL_H_RES_CODE, .ro, 0⟩, ⟨F.CAL_H_RES_NFID, .ro, 0⟩, ⟨F.CAL_H_RES_RMS, .ro, 0⟩]⟩,
  ⟨0xB01014, [(0x40, 24)], [⟨F.CAL_H_TREF_VALID, .ro, 0⟩, ⟨F.CAL_H_TREF_TREF, .rw, 0⟩]⟩,
  ⟨0xB01018, [(0x40, 24)], [⟨F.CAL_H_TSRC_EN, .rwl, 0⟩, ⟨F.CAL_H_TSRC_ACT, .rwl, 0⟩, ⟨F.CAL_H_TSRC_SRC, .rwl, 0⟩, ⟨F.CAL_H_TSRC_DRIFT, .rwl, 0x500⟩]⟩,
  ⟨0xB03000, [(0x10, 8)], [⟨F.CAL_AX_TRIM0_COFS, .rw, 0⟩, ⟨F.CAL_AX_TRIM0_SOFS, .rw, 0⟩]⟩,
  ⟨0xB03004, [(0x10, 8)], [⟨F.CAL_AX_TRIM1_CGAIN, .rw, 0x4000⟩]⟩,
  ⟨0xB03008, [(0x10, 8)], [⟨F.CAL_AX_TSTAT_FAIL, .w1c, 0⟩, ⟨F.CAL_AX_TSTAT_DONE, .w1c, 0⟩]⟩]

/-- The register tables of block GEO. -/
def regRowsGEO : List RegRow := [
  ⟨0xB01000, [(0x40, 24)], [⟨F.GEO_H_STAT_REJ_CAUSE, .ro, 0⟩, ⟨F.GEO_H_STAT_RERUN, .w1c, 0⟩, ⟨F.GEO_H_STAT_COMMITTED, .w1c, 0⟩, ⟨F.GEO_H_STAT_COMMIT_REJECT, .w1c, 0⟩]⟩,
  ⟨0xB01004, [(0x40, 24)], [⟨F.GEO_H_COMMIT_GO, .wo, 0⟩]⟩,
  ⟨0xB01008, [(0x40, 24)], [⟨F.GEO_H_SAT_COUNT, .rc, 0⟩]⟩]

/-- The register tables of block THM. -/
def regRowsTHM : List RegRow := [
  ⟨0xB08000, [], [⟨F.THM_STAT_REJ_CAUSE, .ro, 0⟩, ⟨F.THM_STAT_BROKEN, .w1c, 0⟩, ⟨F.THM_STAT_EXPWIN, .w1c, 0⟩, ⟨F.THM_STAT_FLWIN, .ro, 0⟩, ⟨F.THM_STAT_CRIT, .w1c, 0⟩, ⟨F.THM_STAT_HOT, .w1c, 0⟩, ⟨F.THM_STAT_RISE, .w1c, 0⟩, ⟨F.THM_STAT_WARN, .w1c, 0⟩, ⟨F.THM_STAT_COMMITTED, .w1c, 0⟩, ⟨F.THM_STAT_COMMIT_REJECT, .w1c, 0⟩]⟩,
  ⟨0xB08004, [], [⟨F.THM_COMMIT_GO, .wo, 0⟩]⟩,
  ⟨0xB08008, [], [⟨F.THM_CFG_EXPW, .rw, 0⟩, ⟨F.THM_CFG_REMEN, .rw, 0⟩, ⟨F.THM_CFG_ACT_RISE, .rw, 0⟩, ⟨F.THM_CFG_ACT_HOT, .rw, 1⟩]⟩,
  ⟨0xB08010, [(0x10, 2)], [⟨F.THM_THR_LVL_HOT, .rw, 0x6900⟩, ⟨F.THM_THR_LVL_WARN, .rw, 0x5f00⟩]⟩,
  ⟨0xB08014, [(0x10, 2)], [⟨F.THM_THR_DYN_RISE, .rw, 0x500⟩, ⟨F.THM_THR_DYN_HYST, .rw, 0x200⟩]⟩,
  ⟨0xB08018, [(0x10, 2)], [⟨F.THM_THR_EXP_EXPMAX, .rw, 0x5f00⟩, ⟨F.THM_THR_EXP_EXPMIN, .rw, 0⟩]⟩,
  ⟨0xB08030, [], [⟨F.THM_FLWIN_FLMAX, .rw, 0x5500⟩, ⟨F.THM_FLWIN_FLMIN, .rw, 0xec00⟩]⟩,
  ⟨0xB08100, [(0x10, 12)], [⟨F.THM_CH_TEMP_TEMP, .ro, 0⟩]⟩,
  ⟨0xB08104, [(0x10, 12)], [⟨F.THM_CH_COND_BROKEN, .ro, 0⟩, ⟨F.THM_CH_COND_EXPOUT, .ro, 0⟩, ⟨F.THM_CH_COND_HOT, .ro, 0⟩, ⟨F.THM_CH_COND_RISE, .ro, 0⟩, ⟨F.THM_CH_COND_WARN, .ro, 0⟩]⟩,
  ⟨0xB08108, [(0x10, 12)], [⟨F.THM_CH_MAX_MAX, .rc, 0x8000⟩]⟩]

/-- The register tables of block REC. -/
def regRowsREC : List RegRow := [
  ⟨0xC00000, [], [⟨F.REC_STAT_FLUSHING, .ro, 0⟩, ⟨F.REC_STAT_FLASHERR, .w1c, 0⟩, ⟨F.REC_STAT_LOST, .w1c, 0⟩, ⟨F.REC_STAT_PFULL, .ro, 0⟩]⟩,
  ⟨0xC00004, [], [⟨F.REC_SEQ_SEQ, .ro, 0⟩]⟩,
  ⟨0xC00008, [], [⟨F.REC_OLDEST_OLDEST, .ro, 0⟩]⟩,
  ⟨0xC0000C, [], [⟨F.REC_PCOUNT_PCOUNT, .ro, 0⟩]⟩,
  ⟨0xC00010, [], [⟨F.REC_OPTIME_OPTIME, .ro, 0⟩]⟩,
  ⟨0xC00014, [], [⟨F.REC_PCYC_PCYC, .ro, 0⟩]⟩,
  ⟨0xC00018, [], [⟨F.REC_PBASE_PBASE, .ro, 0⟩]⟩,
  ⟨0xC0001C, [], [⟨F.REC_CBASE_CBASE, .ro, 0⟩]⟩,
  ⟨0xC00020, [], [⟨F.REC_WAIT_WAIT, .ro, 0⟩]⟩,
  ⟨0xC00024, [], [⟨F.REC_CTL_RETRY, .wo, 0⟩]⟩,
  ⟨0xC00040, [], [⟨F.REC_DROP_COUNT, .rc, 0⟩]⟩,
  ⟨0xC00044, [], [⟨F.REC_PDROP_COUNT, .rc, 0⟩]⟩,
  ⟨0xC00048, [], [⟨F.REC_FLASHFAIL_COUNT, .rc, 0⟩]⟩,
  ⟨0xC00100, [], [⟨F.REC_QS_CFG_FLUSH, .rwl, 0xa⟩, ⟨F.REC_QS_CFG_SBC, .rwl, 0⟩, ⟨F.REC_QS_CFG_EN, .rwl, 0⟩]⟩,
  ⟨0xC00104, [], [⟨F.REC_QS_AREA_SIZE, .rwl, 0⟩, ⟨F.REC_QS_AREA_OFS, .rwl, 0⟩]⟩,
  ⟨0xC00108, [], [⟨F.REC_QS_WPTR_WPTR, .ro, 0⟩]⟩,
  ⟨0xC0010C, [], [⟨F.REC_QS_RPTR_RPTR, .rw, 0⟩]⟩,
  ⟨0xC00110, [], [⟨F.REC_QS_STAT_CFG_ERR, .w1c, 0⟩]⟩]

/-- The register tables of block SBC. -/
def regRowsSBC : List RegRow := [
  ⟨0xC01000, [], [⟨F.SBC_BLKIN_COUNT, .rc, 0⟩]⟩,
  ⟨0xC01004, [], [⟨F.SBC_CORRUPT_COUNT, .rc, 0⟩]⟩,
  ⟨0xC01008, [], [⟨F.SBC_BLKOUT_COUNT, .rc, 0⟩]⟩,
  ⟨0xC0100C, [], [⟨F.SBC_SELFFAIL_COUNT, .rc, 0⟩]⟩]

/-- The register tables of block FLT. -/
def regRowsFLT : List RegRow := [
  ⟨0xD00000, [], [⟨F.FLT_STAT_FATAL, .w1c, 0⟩, ⟨F.FLT_STAT_DEGRADING, .w1c, 0⟩, ⟨F.FLT_STAT_CORRECTED, .w1c, 0⟩, ⟨F.FLT_STAT_NOTE, .w1c, 0⟩]⟩,
  ⟨0xD00004, [], [⟨F.FLT_FATAL_ESCALATED, .w1c, 0⟩, ⟨F.FLT_FATAL_CLOCK, .w1c, 0⟩, ⟨F.FLT_FATAL_SUPPLY, .w1c, 0⟩, ⟨F.FLT_FATAL_THERMAL, .w1c, 0⟩, ⟨F.FLT_FATAL_EMITTER, .w1c, 0⟩, ⟨F.FLT_FATAL_SRAM, .w1c, 0⟩, ⟨F.FLT_FATAL_BSQ_EXC, .w1c, 0⟩, ⟨F.FLT_FATAL_MCP_NONE, .w1c, 0⟩]⟩,
  ⟨0xD00008, [], [⟨F.FLT_CFG_VEC, .rwl, 0⟩, ⟨F.FLT_CFG_RETIRE, .rwl, 3⟩]⟩,
  ⟨0xD0000C, [], [⟨F.FLT_ESC_DRAM_UE, .rwl, 0⟩, ⟨F.FLT_ESC_SRAM_UE, .rwl, 0⟩, ⟨F.FLT_ESC_FLASH_WRITE, .rwl, 0⟩, ⟨F.FLT_ESC_REF_LOST, .rwl, 0⟩, ⟨F.FLT_ESC_AXIS_AMP, .rwl, 0⟩, ⟨F.FLT_ESC_LATE_FRAME, .rwl, 0⟩]⟩,
  ⟨0xD00010, [], [⟨F.FLT_LAST_UNIT, .ro, 0⟩, ⟨F.FLT_LAST_SEV, .ro, 0⟩, ⟨F.FLT_LAST_CODE, .ro, 0⟩]⟩,
  ⟨0xD00014, [], [⟨F.FLT_MCP_B_STATE, .ro, 1⟩, ⟨F.FLT_MCP_A_STATE, .ro, 0⟩, ⟨F.FLT_MCP_ACTIVE, .ro, 0⟩]⟩,
  ⟨0xD00018, [], [⟨F.FLT_BSQST0_STATE, .ro, 0⟩]⟩,
  ⟨0xD0001C, [], [⟨F.FLT_BSQST1_STATE, .ro, 0x50000⟩]⟩,
  ⟨0xD00020, [(4, 4)], [⟨F.FLT_SEQMAP_MAP, .ro, 0⟩]⟩,
  ⟨0xD00030, [(4, 4)], [⟨F.FLT_EPOCH_EPOCH, .ro, 0⟩]⟩,
  ⟨0xD00040, [], [⟨F.FLT_ERRADR_LO_ADDR, .ro, 0⟩]⟩,
  ⟨0xD00044, [], [⟨F.FLT_ERRADR_HI_DRAM, .ro, 0⟩, ⟨F.FLT_ERRADR_HI_ADDR, .ro, 0⟩]⟩,
  ⟨0xD00100, [(4, 24)], [⟨F.FLT_GSG_EPOCH, .ro, 0⟩, ⟨F.FLT_GSG_LASTDIS, .w1c, 0⟩, ⟨F.FLT_GSG_RETIRED, .ro, 0⟩]⟩,
  ⟨0xD00080, [], [⟨F.FLT_SRAM_CE_COUNT, .rc, 0⟩]⟩,
  ⟨0xD00084, [], [⟨F.FLT_SRAM_UE_COUNT, .rc, 0⟩]⟩,
  ⟨0xD00088, [], [⟨F.FLT_DRAM_CE_COUNT, .rc, 0⟩]⟩,
  ⟨0xD0008C, [], [⟨F.FLT_DRAM_UE_COUNT, .rc, 0⟩]⟩,
  ⟨0xD00090, [], [⟨F.FLT_VOTES_COUNT, .rc, 0⟩]⟩,
  ⟨0xD00094, [], [⟨F.FLT_TAKEOVERS_COUNT, .rc, 0⟩]⟩,
  ⟨0xD00098, [], [⟨F.FLT_STALE_COUNT, .rc, 0⟩]⟩]

/-- The register tables of block LCS. -/
def regRowsLCS : List RegRow := [
  ⟨0xE00000, [], [⟨F.LCS_STAT_SESSKEY, .ro, 0⟩, ⟨F.LCS_STAT_UPDATING, .ro, 0⟩, ⟨F.LCS_STAT_LC_REJ, .w1c, 0⟩, ⟨F.LCS_STAT_LC_PEND, .ro, 0⟩, ⟨F.LCS_STAT_BOOTERR, .ro, 0⟩, ⟨F.LCS_STAT_SLOT, .ro, 0⟩, ⟨F.LCS_STAT_LC, .ro, 2⟩]⟩,
  ⟨0xE00004, [], [⟨F.LCS_LC_REQ_GO, .wo, 0⟩]⟩,
  ⟨0xE00008, [], [⟨F.LCS_SVN_SVN, .ro, 0⟩]⟩,
  ⟨0xE0000C, [], [⟨F.LCS_SERIAL_SERIAL, .ro, 0⟩]⟩,
  ⟨0xE00010, [], [⟨F.LCS_REAUTH_PER, .rw, 0⟩]⟩,
  ⟨0xE00014, [], [⟨F.LCS_PART_GRADE, .ro, 0⟩]⟩,
  ⟨0xE00100, [(0x10, 16)], [⟨F.LCS_UC_BAL_LO_BAL, .ro, 0⟩]⟩,
  ⟨0xE00104, [(0x10, 16)], [⟨F.LCS_UC_BAL_HI_BAL, .ro, 0⟩]⟩,
  ⟨0xE00108, [(0x10, 16)], [⟨F.LCS_UC_SEQ_SEQ, .ro, 0⟩]⟩,
  ⟨0xE0010C, [(0x10, 16)], [⟨F.LCS_UC_STAT_EMPTY, .w1c, 0⟩, ⟨F.LCS_UC_STAT_BOUND, .ro, 0⟩]⟩]

/-- The register tables of block PWR. -/
def regRowsPWR : List RegRow := [
  ⟨0xE08000, [], [⟨F.PWR_STAT_RSTCAUSE, .ro, 0⟩, ⟨F.PWR_STAT_DDR_RATE, .ro, 0⟩, ⟨F.PWR_STAT_DRAM_FAIL, .ro, 0⟩, ⟨F.PWR_STAT_NOXO, .ro, 0⟩, ⟨F.PWR_STAT_VFUSE_LOW, .ro, 0⟩, ⟨F.PWR_STAT_SEALED, .ro, 0⟩, ⟨F.PWR_STAT_PFAIL, .ro, 0⟩]⟩,
  ⟨0xE08004, [], [⟨F.PWR_MON_RAIL, .ro, 0x3ff⟩]⟩,
  ⟨0xE08008, [], [⟨F.PWR_LATCH_RAIL, .w1c, 0⟩]⟩]

/-- The register tables of block MSIX. -/
def regRowsMSIX : List RegRow := [
  ⟨0xFF0000, [(0x10, 64)], [⟨F.MSIX_ADDR_LO_ADDR, .rw, 0⟩]⟩,
  ⟨0xFF0004, [(0x10, 64)], [⟨F.MSIX_ADDR_HI_ADDR, .rw, 0⟩]⟩,
  ⟨0xFF0008, [(0x10, 64)], [⟨F.MSIX_DATA_DATA, .rw, 0⟩]⟩,
  ⟨0xFF000C, [(0x10, 64)], [⟨F.MSIX_CTRL_MASK, .rw, 1⟩]⟩,
  ⟨0xFF8000, [(4, 2)], [⟨F.MSIX_PBA_PEND, .ro, 0⟩]⟩]

/-- The register tables of the block that holds BAR0 offset `off`. -/
def regRows (off : Nat) : List RegRow :=
  if off < 0x100000 then regRowsGLB else
  if off < 0x200000 then regRowsHQ else
  if off < 0x300000 then regRowsBSQ else
  if off < 0x400000 then regRowsTSC else
  if off < 0x500000 then regRowsBLD else
  if off < 0x600000 then regRowsLN else
  if off < 0x700000 then regRowsCEN else
  if off < 0x800000 then regRowsMAP else
  if off < 0x900000 then regRowsAXF else
  if off < 0xA00000 then regRowsCAM else
  if off < 0xB00000 then regRowsTIM else
  if off < 0xB08000 then regRowsCAL ++ regRowsGEO else
  if off < 0xC00000 then regRowsTHM else
  if off < 0xC01000 then regRowsREC else
  if off < 0xD00000 then regRowsSBC else
  if off < 0xE00000 then regRowsFLT else
  if off < 0xE08000 then regRowsLCS else
  if off < 0xF00000 then regRowsPWR else
  if off < 0x1000000 then regRowsMSIX else
  []

/-- The register table that defines BAR0 offset `off`, if any (R3). -/
def regRow (off : Nat) : Option RegRow :=
  (regRows off).find? fun r => decide (r.base ≤ off) && inDims r.dims (off - r.base)

/-- The reset word that a register table gives every instance. -/
def rowReset (fs : List FieldRow) : Word :=
  fs.foldl (fun w r => fput w r.fld r.reset) 0

/-- The word of a BAR0 register right after reset. Three registers differ by instance: GLB_DRAM4_SIZE resets to 64 MiB
(R29), lanes LN24 to LN31 reset to the array role (R244), and FLT_SEQMAP holds sequencer h for head h (R425). -/
def regReset (off : Nat) : Word :=
  if off = R.GLB_DRAM_SIZE 4 then 64
  else if 0x500000 ≤ off ∧ off < 0x520000 ∧ off % 0x1000 = 0 then
    (if off < 0x518000 then 0x002 else 0x102)
  else if off = R.FLT_SEQMAP 0 then 0xa418820
  else if off = R.FLT_SEQMAP 1 then 0x16a4a0e6
  else if off = R.FLT_SEQMAP 2 then 0x2307b9ac
  else if off = R.FLT_SEQMAP 3 then 0x2f6ad272
  else match regRow off with
    | some r => rowReset r.fields
    | none => 0

end Sys2Proof.Machine
end

