-- ==== Sys2Proof/Machine/Types.lean ====
section
/-! DEFINITION. The types of the internal state that the manual gives each block beside its registers: queues,
sequencers, tiles, records. They are plain data. -/

namespace Sys2Proof.Machine

/-- The eight operating modes (Table 2-3, R45). -/
inductive Mode where
  | boot | idle | armed | expose | hold | degraded | safe | service
  deriving DecidableEq, Repr

/-- What the device has sent outside, oldest first: the model's own record of its outputs. -/
inductive Out where
  /-- An MSI-X message: address and data of the vector's table entry (R57). -/
  | msix (addr : Nat) (data : Word)
  /-- A management datagram sent on an Ethernet port: type, queue, DSEQ, ACK, ADDR and payload (R83 to R86). -/
  | datagram (port type queue dseq ack addr : Nat) (payload : List Byte)
  /-- A link message sent down a lane: node position, message type, tag, epoch, address and data words (R239, R240). -/
  | message (lane pos type tag epoch addr : Nat) (data : List Word)
  /-- The header blocks of a downstream tick frame, as field values (R227 to R230). -/
  | frame (lane tick : Nat) (fields : List Nat)
  /-- A gate block of a downstream tick frame: its number and the positions 8i + b, for slot i and beamlet b, whose voted drive bit is 1 (R226). -/
  | gates (lane tick block : Nat) (bits : List Nat)
  /-- A PTP message sent on a port: message type, sequence number and fields (R364 to R369). -/
  | ptp (port type seq : Nat) (fields : List Int)
  /-- An ARP reply (kind 1) or an ICMP echo reply (kind 2) with its payload (R377). -/
  | net (port kind : Nat) (payload : List Byte)
  /-- A change of an output pin: pin name code and level (R327, R331, R342, R363). -/
  | pin (kind index : Nat) (level : Bool) (atNs : Nat)
  /-- The value that a host read returned (R8, R10). -/
  | read (off : Nat) (w : Word)
  /-- A row of mirror data: lane, frame number, sequence entry, row number, bytes (R293, R310). -/
  | row (lane frame entry y : Nat) (bytes : List Byte)
  /-- A mirror reset, and a source pulse, by absolute slot numbers (R292, R297). -/
  | reset (port frame entry slot : Nat)
  | pulse (port cls first len : Nat)
  deriving DecidableEq, Repr

/-! ## Host queues (chapter 03) -/

/-- What a started command waits for before it ends. -/
inductive Wait where
  | run                    -- its own opcode has not acted yet
  | pause                  -- a PAUSE to complete (R49)
  | commit                 -- its snapshots to go live (R77)
  | copy                   -- a staging copy (R165)
  | reply                  -- the reply of a link node (R333)
  | timeStep               -- the tick boundary of a time step (R373)
  | calibrate              -- a registration or trim run (R385)
  | auth                   -- a head authentication exchange (R444)
  | image                  -- the flash write of a firmware image (R441)
  | selfTest               -- the self-test of a reset unit (R417)
  | expand                 -- the expansion of its SBC stream (R413)
  deriving DecidableEq, Repr

/-- A command in flight: accepted and not yet ended (R72). -/
structure Cmd where
  seq : Nat
  queue : Nat
  path : Nat
  slot : Nat
  epochAt : Nat
  words : List Word
  started : Bool
  late : Bool
  tAccept : Nat
  tStart : Nat
  wait : Wait
  journalOnly : Bool
  deriving DecidableEq, Repr

/-- A COMPLETE datagram not yet acknowledged (R86). -/
structure EthComplete where
  dseq : Nat
  repeats : Nat
  sentAt : Nat                       -- device time of the last sending, ns
  entry : List Byte
  deriving DecidableEq, Repr

/-- The device's own state of one host queue. -/
structure Queue where
  cqUsed : Nat                       -- completion entries written and not yet released by the host
  posted : List (List Word)          -- descriptors of SUBMIT datagrams not yet accepted
  rxSeq : Nat                        -- DSEQ of the last SUBMIT accepted (R84)
  txSeq : Nat                        -- DSEQ of the last COMPLETE sent
  unacked : List EthComplete         -- COMPLETE datagrams not yet acknowledged (R86)
  deriving DecidableEq, Repr

/-- An SBC stream being expanded for a LOAD command (R409 to R413). -/
structure SbcJob where
  seq : Nat                          -- the command
  pos : Nat                          -- offset of the next block in the command's data
  bytes : Nat                        -- bytes expanded
  count : Nat                        -- tiles loaded
  bad : Bool                         -- a buffer of SBC lost a word of the block (Table 16-4)
  deriving DecidableEq, Repr

/-- HQ's state beside its registers. -/
structure Hq where
  cmds : List Cmd                    -- the commands in flight, in acceptance order (R72)
  queues : Sparse Queue
  sbc : List SbcJob                  -- streams being expanded, in start order
  rrHigh : Nat                       -- last queue of PRIO 3 served (R73)
  rrLow : Nat                        -- queue of the present weighted turn (R73)
  rrLeft : Nat                       -- descriptors left of that turn
  hostAt : Nat                       -- ns of the last host activity that the watchdog counts (R87)
  hostOut : Bool                     -- the watchdog has expired since
  deriving DecidableEq, Repr

/-- A snapshot that passed its check and waits for its tick boundary (R77 to R79). -/
structure Pending where
  id : Nat
  sets : List Nat                    -- the shadow sets that go live together
  notReady : List Nat                -- those of them that are not ready yet
  seq : Option Nat                   -- the COMMIT or COMMIT_LAYER command that waits for it
  timed : Bool
  earliest : Nat                     -- device time in ns before which it does not go live; 0 none
  regs : List (Nat × Word)           -- the snapshot of the sets' registers
  tiles : Nat                        -- tile count of the image that set 1 makes live
  failed : Option (Nat × Nat)        -- a set of the mask failed: its ID and the command's status; nothing goes live
  deriving DecidableEq, Repr

/-! ## Beam sequencers (chapters 04 and 05) -/

/-- A point of the field frame, nm. -/
structure Pt where
  x : Int
  y : Int
  z : Int
  deriving DecidableEq, Repr

/-- How a straight path is paced: uniform over n ticks (R127); the trapezoid of R131 with speed v (µm/s), ACC
code, length L and n ticks; the Stop of Table 5-4 from speed v in td ticks; the Approach to speed v in ta ticks. -/
inductive Pace where
  | uniform (n : Nat)
  | trapezoid (v acc l n : Nat)
  | stop (v td : Nat)
  | approach (v ta : Nat)
  deriving DecidableEq, Repr

/-- A path of set-points. -/
inductive Path where
  | hold (p : Pt)
  | line (p0 p1 : Pt) (pace : Pace)
  | run (p0 : Pt) (dx dy : Int) (pace : Pace)
  | arc (p0 : Pt) (cx cy sweep z1 : Int) (n : Nat)
  | cubic (p0 p1 p2 p3 : Pt) (n : Nat)
  deriving DecidableEq, Repr

/-- What a span of the output stream is, which decides how a tile rejoins there (R187, R189). -/
inductive SpanKind where
  | motion | jump | hold | fill | dwell | wait | runIn | manoeuvre | column | stall
  deriving DecidableEq, Repr

/-- A span of the sequencer's output stream: slots [start, start + len) of absolute slot numbers (tick index × 1250 +
slot), the path it follows, and its gates. -/
structure Span where
  start : Nat
  len : Nat
  path : Path
  tick0 : Nat                        -- ticks of the path already done at the span's first tick
  kind : SpanKind
  fire : Bool
  openAt : Nat                       -- gates are open from this slot
  closeAt : Nat                      -- and closed from this slot
  vidx : Nat
  vlen : Nat                         -- L of R130, nm
  vticks : Nat                       -- N of R130
  pc : Nat
  speed : Nat
  deriving DecidableEq, Repr

/-- A ramp of the level (R139, R196). -/
structure Ramp where
  running : Bool
  l0 : Nat
  target : Nat
  time : Nat
  done : Nat                         -- steps produced before `since`
  since : Nat                        -- the slot that carries step done + 1
  deriving DecidableEq, Repr

/-- The attributes that hold from slot `since` of the stream on. -/
structure Attr where
  since : Nat
  level : Nat
  mask : Nat
  region : Nat
  curves : Nat
  ramp : Ramp
  deriving DecidableEq, Repr

/-- The architectural state of a sequencer: what its checkpoint carries (R88, R94), less the plan. -/
structure Arch where
  pc : Nat
  stack : List Nat                   -- return stack, last pushed first
  fz : Bool
  fn : Bool
  fc : Bool
  fw : Bool
  ft : Bool
  region : Nat
  mask : Nat
  level : Nat
  g : List Word
  speed : Nat
  jspeed : Nat
  vidx : Nat
  px : Int
  py : Int
  pz : Int
  tile : Nat
  scratch : Sparse Word
  ramp : Ramp
  delays : List Int                  -- LON, LOFF, JUMP, MARK, POLY
  deriving DecidableEq, Repr

/-- The rest of the architectural state: skywriting, curves and the armed waymark. -/
structure Shape where
  skyOn : Bool
  skyLimit : Nat
  runIn : Nat
  runOut : Nat
  curves : Nat                       -- curve of beamlet b in bits [4b+3:4b]
  wmArmed : Bool
  wmAxis : Nat
  wmIndex : Nat
  deriving DecidableEq, Repr

/-- What a sequencer is doing between two instructions. -/
inductive Activity where
  | ready                            -- the next instruction may issue
  | motion                           -- a motion runs to the end of the plan
  | dwell                            -- a slot-counted hold runs to the end of the plan
  | column                           -- a COL runs
  | waitWm (axis wm limit : Nat) (timed : Bool)
  | waitTime (passed : Bool)
  | waitBar (bid count limit : Nat) (timed : Bool)
  | swbStop | swbWait | swbBack | swbApproach
  | guardStop | guardWait            -- the guard stop of R184
  | checkerStop                      -- the checker stop of R425
  | faulted                          -- halted: no work until FAULTED is cleared (R158)
  deriving DecidableEq, Repr

/-- A column block in progress (R143 to R145). -/
structure ColRun where
  active : Bool
  axisMode : Bool
  down : Bool
  col0 : Nat
  ncol : Nat
  axis : Nat
  period : Nat
  dot : Nat
  next : Nat                         -- the next column to fire
  starts : List Nat                  -- first slots of the columns fired lately, newest first
  s0 : Nat
  a0 : Int                           -- fine position of column 0, 1/65536 count
  dirUp : Bool
  started : Bool
  busyTo : Nat                       -- the end of the longest dot and minimum off time of the last column
  starved : Bool
  area : Nat                         -- the column area and the copy that it reads (R206)
  copy : Nat
  stretched : Bool
  deriving DecidableEq, Repr

/-- A dot of a fired column: beamlet, first slot, end slot, density level factor. -/
structure Dot where
  beamlet : Nat
  first : Nat
  last : Nat
  lf : Nat
  deriving DecidableEq, Repr

/-- The manoeuvre that a Switchback or a guard or checker stop runs (R152, R185, R425). -/
structure Swb where
  ps : Pt
  dx : Int
  dy : Int
  v1 : Nat
  dx2 : Int
  dy2 : Int
  v2 : Nat
  acc : Nat
  deriving DecidableEq, Repr

/-- One beam sequencer (R88, R124). -/
structure Seq where
  running : Bool                     -- executing a tile
  head : Nat
  arch : Arch
  shape : Shape
  act : Activity
  cursor : Nat                       -- first slot not yet filled by the program (R124)
  nextTick : Nat                     -- the first tick whose intent is not complete
  tick0 : Nat                        -- the tick in which TIL BEGIN was issued
  begun : Bool                       -- TIL BEGIN was executed
  spans : List Span
  attrs : List Attr                  -- newest first
  words : Nat                        -- instruction words issued in the tick `wordTick` (R97)
  wordTick : Nat
  entry : Nat                        -- word address of the tile's TIL BEGIN
  args : List Word                   -- the tile's four program arguments (R90, R182)
  job : Option Nat                   -- the product record of a coding job
  inRun : Bool                       -- the last firing motion did not end its run
  openAt : Nat                       -- the run's gate-on slot
  tdx : Int                          -- outgoing tangent of the last vector
  tdy : Int
  tv : Nat                           -- its speed
  runInDone : Bool                   -- a JMP ended at the run-in start of the motion to come (R137)
  pos : Pt                           -- the actual point at the cursor
  colRun : ColRun
  dots : List Dot
  swb : Swb
  firstSlot : Nat                    -- the first slot of the tile it runs
  joinAt : Nat                       -- the join slot of a rejoin (R188); 0 when none
  joinRamp : Nat                     -- its ramp: RAMP + 65536 × START, 0 none
  deriving DecidableEq, Repr

/-! ## The tile scheduler (chapter 06) -/

/-- A saved context of R180: the resume header of Table 6-6 and the state of the tile. -/
structure Ctx where
  tile : Nat
  job : Option Nat
  fromHead : Nat
  cause : Nat
  vidx : Nat
  sigma : Nat
  pc : Nat
  slot : Nat
  uncert : Nat
  pt : Pt
  tStop : Nat
  nextCol : Option Nat
  seq : Seq                          -- the sequencer as it stood, with the spans from the resume point on
  deriving DecidableEq, Repr

/-- A tile of the active set (R172). -/
structure Active where
  tile : Nat
  head : Nat
  until_ : Option Nat                -- none while the head holds it; then the tick at which it leaves
  deriving DecidableEq, Repr

/-- A coding job that waits for a head (R181, R190). -/
structure Job where
  rcd : Nat                          -- ring index of its product record
  tile : Nat                         -- its TWIN template
  minStation : Option Int            -- only heads with a greater STATION may take it
  ctx : Option Nat                   -- the context it continues from
  deriving DecidableEq, Repr

/-- TSC's state beside its registers and the status words in SRAM. -/
structure Tsc where
  active : List Active
  ctxs : Sparse (Option Ctx)
  holds : Sparse (Option Nat)        -- the tile held by each head
  jobs : Sparse (Option Nat)         -- the product record run by each head
  jobList : List Job                 -- the jobs no head holds
  joining : Sparse (Option Ctx)      -- the context that each head is to rejoin: in a guard stop, or until its join
  grantedAt : Sparse Nat             -- the round in which each head's tile was granted
  round : Nat
  firedTick : Sparse Nat             -- 1 + the last tick in which each head fired
  clear : Sparse Nat                 -- clear ticks of each head's guard stop
  stopTicks : Sparse Nat             -- ticks of each head's guard stop
  urgentSeen : List Nat              -- class 1 candidates of the last round that got no grant (R179)
  removedAt : Sparse Nat             -- 1 + the tick in which each head last left the set (R426)
  written : Sparse Bool              -- tile indices written since the last commit, by layer × 65536 + tile
  pages : Sparse Bool                -- program pages written to staging slots, by slot × 8192 + page
  committed : Bool                   -- a live pool was committed since reset or since a reset of TSC
  svcGo : Bool
  startAt : Option Nat               -- the instant of a START whose first round has not run (R33)
  copying : Option Nat               -- the staging slot that is being copied
  barriers : List (Nat × Nat × Nat × Nat)  -- barrier, head, count, arrival tick
  deriving DecidableEq, Repr

/-! ## Link lanes (chapter 08) -/

/-- What waits for the reply of a link message. -/
inductive MsgFor where
  | nothing
  | medium (seq : Nat)               -- a MEDIUM command (R333)
  | web (m : Nat)                    -- a web Switchback of channel m (R334)
  | caps (pos : Nat)                 -- the capability or chain read of a position (R245)
  | auth                             -- the authentication exchange (R443)
  | camera (c tag : Nat)             -- a camera trigger of pipeline c (R340)
  deriving DecidableEq, Repr

/-- A link message sent and not yet answered (R240). -/
structure Msg where
  seq : Nat
  pos : Nat
  kind : Nat
  addr : Nat
  words : Nat
  data : List Word
  tries : Nat                        -- resends done
  sentAt : Nat                       -- device time of the last sending, ns
  who : MsgFor
  deriving DecidableEq, Repr

/-- An authentication exchange in progress (R443, R444). -/
structure Auth where
  step : Nat                         -- 0 AUTH_INFO, 1 to 12 CERT_READ, 13 CHALLENGE, 14 to 17 SIG_READ, 18 done
  nonce : List Byte
  cert : List Byte
  sig : List Byte
  failed : Bool                      -- a reply was missing or refused
  seq : Option Nat                   -- the HEAD_AUTH command that waits
  at_ : Nat                          -- ns at which it began
  again : Bool                       -- a repeat of the challenge only (R444)
  deriving DecidableEq, Repr

/-- A lane beside its registers. -/
structure Lane where
  since : Nat                        -- device time in ns at which the state was entered
  seq : Nat                          -- SEQ of the next message
  out : List Msg                     -- messages outstanding, in SEQ order
  wait : List Msg                    -- messages that wait until fewer than eight are outstanding
  mkGood : Nat                       -- successive MK positions that matched, and that did not
  mkBad : Nat
  lock : Bool                        -- upstream codeword lock (R223)
  uncorr : Nat                       -- consecutive uncorrectable upstream codewords
  announced : Nat                    -- data blocks announced and not yet received (R225)
  pre : Nat                          -- PRE_DN, PRE_UP as taken at the last entry to ACQUIRE (R219)
  capsDone : Bool                    -- the capability and chain reads have ended
  launched : Nat                     -- 1 + the last tick whose frame was launched
  sent : List (Nat × Int)            -- launched ticks with T_act, in units of 2⁻¹⁶ ps
  permit : Bool                      -- PERMIT of the last frame
  zeroed : Bool                      -- its frame was not sent, or a gate block was late
  conf : Nat                         -- 1 + the last tick confirmed as applied
  upTick : Nat                       -- 1 + the last tick of a valid upstream frame
  judged : Nat                       -- 1 + the last tick judged at its deadline
  missRun : Nat                      -- consecutive frames missing
  miss : Nat                         -- MISS of the last valid upstream frame
  loop : Int                         -- L, in units of 2⁻¹⁶ ps (R238)
  meas : Nat                         -- valid measurements since DELAY was entered, and their sum
  sum : Int
  far : Nat                          -- consecutive measurements far from L, and their sum
  farSum : Int
  enc : Option (Nat × Pt)            -- the latest encoder position with its tick, drive codes
  applied : List Nat                 -- ticks confirmed as applied, newest first, at most eight
  pep : Word                         -- LNn_PEP_CTL as taken at the last entry to TEST (R252)
  auth : Option Auth
  cert : List Byte                   -- the certificate that its head last passed with (R443)
  deriving DecidableEq, Repr

/-- LNK's state beside its registers. -/
structure Lnk where
  lanes : Sparse Lane
  timeAt : Nat                       -- the millisecond of the last TIME broadcast (R242)
  rowErr : Sparse Nat                -- ROWERR of the last status of each array lane (R311)
  rack : Sparse Nat                  -- 1 + RSEQ of the reset that the last status acknowledged, 0 none
  deriving DecidableEq, Repr

/-! ## Beamlet drive (chapter 07) -/

/-- One beamlet of one head: the spread state that the three GSG copies share (R198), the corrections that CEN wrote, and the
diagnosis of its emitter (R209 to R212). -/
structure Emitter where
  a : Int
  o : Bool
  n : Nat
  run : Bool
  ks : List (Nat × Word)             -- corrections by their first slot, newest first (R197)
  failOpen : Nat                     -- consecutive failures of each kind
  failShort : Nat
  failStuck : Nat
  bare : Nat                         -- sample instants without a valid on-sample or probe sample (R211)
  lastValid : Nat                    -- tick of the last such sample, or since when diagnosis runs (R212)
  unverified : Bool
  maskAt : Nat                       -- first tick that its fault mask zeroes
  probe : Option (Nat × Nat)         -- first and end slot of the probe span
  samples : List (Nat × Nat)         -- class of the sample at a tick: 1 on, 2 probe, 3 off (R209)
  idrv : Nat                         -- the latest driver current code (Table 9-3)
  deriving DecidableEq, Repr

/-- The point that a head is driven to in a tick, with its drive codes (R380). -/
structure Aim where
  tick : Nat
  p : Pt
  c : Pt
  deriving DecidableEq, Repr

/-- One head slice of BLD, with the drive codes that GEO made for the head. -/
structure Slice where
  doneTo : Nat                       -- first slot whose gate bits are not produced yet
  missTick : Nat                     -- 1 + the last tick counted in CURVEMISS
  aims : List Aim                    -- newest first, at most eight
  deriving DecidableEq, Repr

/-- BLD's state beside its registers. -/
structure Bld where
  emitters : Sparse Emitter          -- by 8 × head + beamlet
  slices : Sparse Slice
  held : List (Nat × List Byte)      -- shadow writes held from the snapshot to the end of the copy (R213)
  holding : Bool
  diagSince : Nat                    -- the tick since which the mode lets diagnosis run (R212)
  deriving DecidableEq, Repr

/-! ## Melt-pool loops and control engines (chapter 09) -/

/-- The state of one loop (R259, R272 to R276). -/
structure Loop where
  g : List Word
  intg : Word
  gset : Nat
  k : Word                           -- the last K written
  auto : Bool                        -- CEN_LCTL and CEN_LMAN of the loop
  track : Bool
  man : Word
  stat : Word                        -- CEN_LSTAT of the loop
  missRun : Nat                      -- consecutive missing evaluations
  xfer : Option (Option Word)        -- a transfer is due: K_prev, or none for the K in force (R274)
  joined : Bool                      -- that transfer is the one of a detour join (R275)
  round : Nat                        -- 1 + the last round in which its slot was served
  deriving DecidableEq, Repr

/-- An evaluation in progress on an engine (R258 to R268). -/
structure Eval where
  loop : Nat
  slot : Nat                         -- the slot of the sample instant
  round : Nat
  pc : Nat
  issued : Nat                       -- instructions issued
  g : List Word
  acc : Int
  fz : Bool
  fn : Bool
  fc : Bool
  fw : Bool
  ft : Bool
  intg : Word
  gset : Nat
  pair : Nat                         -- the limit pair of the last INT
  held : Option Word                 -- the value of the last OUT
  limited : Bool                     -- C after the last CLP
  taps : List (Nat × Word × Bool)    -- channel, value and C of the TRC issued
  dark : Bool
  ended : Bool                       -- HLT issued
  pd0 : Word
  pd1 : Word
  speed : Word
  region : Nat
  level : Nat
  idrv : Nat
  umps : Nat                         -- the slot's speed in µm/s
  deriving DecidableEq, Repr

/-- CEN's state beside its registers. -/
structure Cen where
  loops : Sparse Loop                -- loops 0 to 207
  evals : Sparse (Option Eval)       -- by engine
  pds : Sparse (List (Nat × Nat))    -- alignment queue, by 16 × head + channel: TICK[7:0] and value, newest first
  held : List (Nat × List Byte)      -- shadow writes held from the snapshot to the end of the copy (R270)
  holding : Bool
  deriving DecidableEq, Repr

/-! ## Axis feedback (chapter 11) -/

/-- What AXF keeps of one axis beside its registers. Instants are in units of 2⁻¹⁶ ns. -/
structure Axis where
  ab : Nat                           -- accepted levels of A (bit 0) and B (bit 1)
  hall : Nat                         -- last valid Hall code; 0 none yet
  phase : Option Nat                 -- last sin/cos phase, 1/4096 period
  frame : Option Nat                 -- last SSI frame
  frameAt : Nat
  frameStep : Int                    -- its difference from the frame before
  frameGap : Nat                     -- and the time between the two
  te : Nat                           -- time tag of the last counted edge
  up : Bool                          -- its direction
  gap : Option Nat                   -- T_e
  ampBad : Nat                       -- consecutive samples outside the amplitude window
  ssiBad : Nat                       -- consecutive SSI errors
  good : Nat                         -- consecutive good samples while VALID = 0
  refDue : Bool                      -- mode 3 waits for its first index
  judge : Bool                       -- entries are judged afresh at the first valid sample (R336)
  corr : Option Int                  -- a correction that waits for the next sample
  prevF : Int                        -- f(t_n − 1 µs), in 1/65536 count
  pubT : Nat                         -- the instant of the last publication, ns
  pubCount : Nat
  pubF : Int
  pubV : Int                         -- v(n), Q16.16 counts/µs
  deriving DecidableEq, Repr

/-- A pulse of a CMP output: its first and end instant, in units of 2⁻¹⁶ ns (R327, R331). -/
structure Pulse where
  out : Nat
  first : Nat
  last : Nat
  deriving DecidableEq, Repr

/-- A medium channel's web Switchback (R334). -/
structure Md where
  speed : Int                        -- V, counts/s
  still : Nat                        -- consecutive instants at which the axis was within STOPTHR
  waiting : List Nat                 -- the starved sequencers
  moving : Bool                      -- the last command of the device was answered
  back : Nat
  deriving DecidableEq, Repr

/-- AXF's state beside its registers. -/
structure Axf where
  axes : Sparse Axis
  pulses : List Pulse
  cmpOn : Nat                        -- CMP outputs that are active
  lastPd : Sparse (Option Int)       -- Pd of the last accepted edge of each input
  rejects : List (Nat × Int)         -- reject points of edges with no record: input and count (R329)
  md : Sparse Md
  aiAt : Sparse Nat                  -- time in ns of each AI word's last update
  deriving DecidableEq, Repr

/-! ## Camera pipelines (chapter 12) -/

/-- A camera trigger (R341 to R344). -/
structure CamTrig where
  at_ : Nat                          -- its instant, a slot number
  src : Nat
  ref : Nat
  tag : Nat
  set : List Word                    -- the exposure set that it uses
  deriving DecidableEq, Repr

/-- A frame in progress, or closed and waiting for its record. -/
structure CamFrame where
  num : Nat
  trig : Option CamTrig
  set : List Word
  lines : Nat                        -- lines received, within HEIGHT
  nextLine : Nat                     -- the line expected next
  openLine : Option Nat              -- a head camera's line that is not judged yet
  segs : List (Nat × Nat × List Nat) -- line, first pixel, pixel values
  flags : Nat                        -- FLAGS of Table 12-6
  startAt : Nat                      -- ns of the start
  closeTs : Nat                      -- TS96 of the close
  tap : Option Nat                   -- page of its tap slot
  tapLost : List Nat                 -- lines that the tap could not write (R350)
  deriving DecidableEq, Repr

/-- A camera pipeline beside its registers. -/
structure Cam where
  due : List CamTrig                 -- triggers whose instant is known and not yet acted on
  await : List CamTrig               -- triggers that await frames, oldest first
  lastAt : Option Nat                -- the previous trigger's instant
  pulses : List (Nat × Nat)          -- first and end slot of CAMTRGn pulses
  active : Bool                      -- CAMTRGn is active
  tag : Nat
  compares : List (Nat × Int × Nat)  -- product compares: axis, signed count, ring index
  frame : Option CamFrame
  closed : List CamFrame
  taps : Nat                         -- taps still due
  page : Nat                         -- page of the next tap slot, from OFS
  deriving DecidableEq, Repr

/-- The trace unit beside its registers (R279 to R282). -/
structure Trc where
  mode : Nat                         -- MODE as latched at ARM
  post : Nat                         -- entries still to be written after the trigger
  count : Nat                        -- entries written since ARM
  copying : List Nat                 -- quarters whose copy to the spill ring has not finished
  spill : Nat                        -- next byte offset in the spill ring
  deriving DecidableEq, Repr

/-! ## Area projection (chapter 10) -/

/-- The values of set 28 + p that a frame was latched with. -/
structure MapSet where
  height : Nat
  width : Nat
  npl : Nat
  vb : Nat
  fsize : Nat
  tset : Nat
  trst : Nat
  guard : Nat
  plane : List Nat
  wave : List Nat
  cmask : List Nat
  wt : List Nat
  plen : List Nat
  deriving DecidableEq, Repr

/-- A frame of a mirror-array port, latched (R295). -/
structure Frame where
  num : Nat
  buf : Option Nat
  popped : Bool                      -- its buffer was taken from the queue
  rep : Bool                         -- an underrun repeat
  dark : Bool                        -- a dark repeat (R304)
  r0 : Nat                           -- slot of R_0
  set : MapSet
  scales : List Nat                  -- S_c as latched
  k : Nat                            -- the next entry to be reset
  fired : Nat                        -- classes that fired
  part : Bool                        -- a pulse was suppressed, or the frame was cut
  late : Bool                        -- an entry was not loaded in time
  cap : Bool
  lateCommit : Bool
  rowBad : Bool
  e : List Nat                       -- energy sums (R299)
  eOk : Bool
  deriving DecidableEq, Repr

/-- A mirror-array port beside its registers. -/
structure MapP where
  waiting : Bool                     -- GO succeeded and the trigger has not come
  trigAt : Option Nat                -- the instant of the trigger, ns
  ctl : Word                         -- CTL as latched at GO
  nfr : Nat
  count : Nat                        -- frames counted towards NFR
  queue : List Nat
  kept : Option Nat
  cur : Option Frame
  next : List Frame                  -- latched frames not started yet
  lines : Nat                        -- lines sent of the entry being loaded
  loading : Bool                     -- TRST has passed for the entry being loaded
  skip : Bool                        -- the entry being loaded gets no reset (R294)
  pulses : List (Nat × Nat × Nat)    -- class, first slot, end slot of what is left to judge of the present entry's pulses
  unlatched : Bool                   -- a commit of the set is not yet served (R302)
  lateDue : Bool                     -- the commit not yet live was decided after V_n (R301)
  served : Nat                       -- 0 not live yet, 1 live, 2 live and applied one frame later (R301)
  stopping : Bool                    -- STOP was written
  last : Option (Nat × Bool × List Nat)  -- end slot, usable for Saffron, energies of the last frame
  deriving DecidableEq, Repr

/-! ## Device time and PTP (chapter 13) -/

/-- A step of device time that waits for its tick boundary (R358, R373). -/
structure TimeStep where
  offset : Int                       -- in units of 2⁻¹⁶ ns
  seq : Option Nat                   -- the TIME_STEP command; none for the step at first lock
  at_ : Nat                          -- when it arrived, ns
  tick : Nat                         -- the tick in which it arrived
  deriving DecidableEq, Repr

/-- A master that a port has heard (R370). -/
structure Foreign where
  port : Nat
  src : Nat                          -- the sender's clock identity
  key : List Nat                     -- priority1, class, accuracy, variance, priority2, grandmaster, steps removed, sender
  at_ : Nat                          -- ns of its last Announce
  heard : Nat                        -- Announces heard, at most 2
  deriving DecidableEq, Repr

/-- The PTP servo and ports beside their registers (R364 to R372). Times are in units of 2⁻¹⁶ ns unless said otherwise. -/
structure Ptp where
  foreign : List Foreign
  parent : Option Foreign            -- the master followed
  cmd : Int                          -- the servo's commanded rate, 2⁻⁸ ppb
  good : Nat                         -- consecutive valid offsets while ACQUIRING
  far : Nat                          -- consecutive offsets beyond CAPTURE
  d : Int                            -- mean path delay
  dSet : Bool
  dFar : List Int                    -- the latest consecutive measurements far from d
  guardEnd : Nat                     -- ns
  syncAt : Nat                       -- ns of the last valid Sync and Announce
  annAt : Nat
  twoStep : Option (Nat × Nat × Int × Int)  -- port, sequence number, correction and receive time of a two-step Sync
  last : Option (Int × Int)          -- t1 and t2 of the last Sync
  req : List (Nat × Nat × Int)       -- port, sequence number and transmit time of delay requests
  txSeq : Sparse Nat                 -- next sequence number, by 16 × port + message type
  txAt : Sparse (Option Nat)         -- ns of the last transmission, likewise
  since : Sparse Nat                 -- ns at which each port began to listen
  deriving DecidableEq, Repr

/-- TIM's state beside its registers. -/
structure Tim where
  steps : List TimeStep              -- oldest first
  rate10 : Int                       -- the applied rate, in tenths of 2⁻⁸ ppb
  present : Nat                      -- bit r: reference r is present
  capAt : Sparse (Option Nat)        -- last captured edge of each SYNCI input, 2⁻¹⁶ ns
  armed : Sparse (Option Nat)        -- slot of the MODE 2 pulse of each SYNCO output
  lastSync : Sparse (Option Nat)     -- slot of the last MODE 1 pulse of each SYNCO output
  pulses : List (Nat × Nat × Nat)    -- output, first and end slot of its pulses
  on : Nat                           -- SYNCO outputs that are active
  ptp : Ptp
  deriving DecidableEq, Repr

/-! ## Registration and temperature (chapter 14) -/

/-- The extremes that a trim run records for one axis (R393). -/
structure Extremes where
  sMin : Int
  sMax : Int
  cMin : Int
  cMax : Int
  travel : Nat                       -- counts covered
  valid : Bool
  deriving DecidableEq, Repr

/-- CAL's state beside its registers. -/
structure Cal where
  kind : Nat                         -- 0 no run, 1 FIDUCIAL, 2 TRIM
  seq : Nat                          -- the CALIBRATE command
  heads : List Nat                   -- heads still to do, the first one in progress
  fids : List (Int × Int)            -- the fiducial list (R385)
  todo : List Nat                    -- fiducials of this head still to do
  trig : Option (Nat × Nat)          -- the tag and the frame number before it, of the frame triggered for the first of them
  found : List (Int × Int × Int × Int)  -- field point and offset (nm, 2⁻³² units) of the fiducials found
  since : Nat                        -- when the settle time or the recording began, ns
  passed : Nat
  binding : Nat                      -- the pipeline's HEAD before the run
  extremes : Sparse (Option Extremes)
  flagged : Nat                      -- heads whose RERUN was raised since TREF was recorded (R390)
  copying : List Nat                 -- heads whose set 4 + h is being copied (R384)
  held : List (Bool × Nat × List Byte) -- shadow writes held during a copy: SRAM or register, address, bytes
  banks : Sparse (Sparse Byte)       -- GEO's standby bank of each head, by byte offset
  deriving DecidableEq, Repr

/-- THM's state of one channel. -/
structure Chan where
  hist : List Nat                    -- values of the last 100 rounds, newest first
  goodRounds : Nat                   -- good rounds in a row while BROKEN
  critRounds : Nat                   -- rounds in a row at or above 125 °C
  warnLow : Nat                      -- rounds in a row below WARN − HYST
  hotLow : Nat
  deriving DecidableEq, Repr

/-! ## Records, faults, life-cycle (chapters 15 to 17) -/

/-- A Cairn record (Table 15-1). -/
structure Cairn where
  perm : Bool
  lost : Bool
  pfl : Bool
  src : Nat
  code : Nat
  seq : Nat
  time : Nat                         -- TS96
  optime : Nat
  pcyc : Nat
  payload : List Byte
  permDone : Bool                    -- the permanent copy is programmed (R482)
  deriving DecidableEq, Repr

/-- REC's state beside its registers. -/
structure Rec where
  staging : List Cairn               -- records waiting, oldest first (R404)
  permSlots : Sparse (Option Cairn)  -- the permanent area
  circSlots : Sparse (Option Cairn)  -- the circulating area
  lostNext : Bool
  dropC : Nat                        -- circulating records dropped since the last CODE 3 record
  dropP : Nat
  fails : Nat                        -- page program failures in a row (R406)
  skip : Nat                         -- slots skipped by failed programs
  stopped : Bool
  powerFail : Bool                   -- PFAIL_N asserted (R405)
  flushEnd : Bool                    -- no further page program starts (Table 15-3)
  busy : Option (Nat × Bool)         -- a page program that runs on to its end: SEQ of its record, and whether it began after PFAIL_N
  erased : Nat                       -- absolute slot of the circulating area up to which it is erased (R402)
  bootLost : Nat                     -- records that the last reset lost from staging (R399)
  opAt : Nat                         -- OPTIME of the last operating-time record (R399)
  qBuf : List (Nat × List Byte)      -- quality records in the compression buffer, with the counter of their source (R414)
  qBufSince : Nat
  deriving DecidableEq, Repr

/-- FLT's state beside its registers. -/
structure Flt where
  gsgRun : Sparse Nat                -- consecutive disagreeing ticks, by head × 3 + copy (R427)
  gsgTick : Sparse Nat               -- last disagreeing tick + 1, by head × 3 + copy
  rejoin : List (Nat × Nat)          -- 3 × head + copy of the copies that rejoin, with the tick (Table 16-2)
  mcpHealthy : Nat                   -- bit 0 MCP-A, bit 1 MCP-B
  handover : List Nat                -- the UNIT_RESET commands that wait for a planned handover (R422)
  resets : List (Nat × List Nat)     -- units in reset with the UNIT_RESET commands that wait for it
  ceReported : Nat                   -- memories (bit 0 SRAM, bit 1 DRAM) whose corrected error was reported
  ceSince : List Nat                 -- device time in ns of the last such report
  deriving DecidableEq, Repr

/-- An anchor of the anchor list (Table 17-2). -/
structure Anchor where
  id : Nat
  purpose : Nat
  key : List Byte
  deriving DecidableEq, Repr

/-- A firmware update under way (R441). -/
structure FwUpdate where
  seq : Nat                          -- the FW_UPDATE command
  image : List Byte                  -- header and body
  slot : Nat                         -- the image slot that is written
  step : Nat                         -- 0 writing, 1 standby pair in self-test, 2 handover due, 3 former active pair in self-test
  pair : Nat                         -- the pair in self-test
  deriving DecidableEq, Repr

/-- PWR's state beside its registers, and how far the boot has come (Table 18-4). -/
structure Pwr where
  held : Bool                        -- the device is held in reset
  core : Bool                        -- CD_CORE PLL locked, fuses read
  time : Bool                        -- CD_TIME runs
  image : Bool                       -- an image was chosen and verified
  dram : List (Nat × Nat × Nat)      -- channels that ended training: channel, rate (3 failed), capacity in MiB
  pfailAt : Option Nat               -- ns of the first PFAIL_N assertion since reset
  highAt : Nat                       -- ns at which PFAIL_N last returned high
  clockBad : Bool                    -- SYSCLK was lost, or a PLL unlocked (R465)
  deriving DecidableEq, Repr

/-- LCS's state beside its registers. -/
structure Lcs where
  session : Option (List Byte)
  anchors : List Anchor
  debug : Option Nat
  transition : Option (Nat × Nat)
  burned : Option Nat                -- the life-cycle state that the next reset takes (R436)
  reserved : Sparse Nat              -- units of each counter's reservation left (R447)
  flashBal : Sparse Nat              -- balance of each counter's last flash record
  images : Sparse (List Byte)        -- the images that FW_UPDATE wrote to slots A (0) and B (1)
  reauthAt : Nat                     -- ns of the last REAUTH_TIMER
  keyHash : List (List Byte)         -- fuse KEYHASH by slot
  revoked : Nat
  update : Option FwUpdate
  deriving DecidableEq, Repr

/-! ## What each unit's record holds right after reset -/

def Ramp.none : Ramp := ⟨false, 0, 0, 0, 0, 0⟩

def Queue.reset : Queue := ⟨0, [], 0, 0, []⟩

def Arch.reset : Arch :=
  { pc := 0, stack := [], fz := false, fn := false, fc := false, fw := false, ft := false, region := 0, mask := 0,
    level := 0, g := List.replicate 16 0, speed := 0, jspeed := 5000000, vidx := 0, px := 0, py := 0, pz := 0,
    tile := 0, scratch := [], ramp := Ramp.none, delays := [0, 0, 0, 0, 0] }

def Shape.reset : Shape := ⟨false, 0, 0, 0, 0, false, 0, 0⟩

def ColRun.none : ColRun := ⟨false, false, false, 0, 0, 0, 0, 0, 0, [], 0, 0, false, false, 0, false, 0, 0, false⟩

def Swb.none : Swb := ⟨⟨0, 0, 0⟩, 0, 0, 0, 0, 0, 0, 0⟩

/-- A sequencer right after reset: no tile, JSPEED as the worked example of chapter 16 gives it, every other architectural value 0 (log
entry 3). -/
def Seq.reset (n : Nat) : Seq :=
  { running := false, head := if n < 24 then n else 31, arch := Arch.reset, shape := Shape.reset, act := .ready, cursor := 0,
    nextTick := 0, tick0 := 0, begun := false, spans := [], attrs := [], words := 0, wordTick := 0, entry := 0,
    args := [0, 0, 0, 0], job := none, inRun := false, openAt := 0, tdx := 0,
    tdy := 0, tv := 0, runInDone := false, pos := ⟨0, 0, 0⟩, colRun := ColRun.none, dots := [], swb := Swb.none,
    firstSlot := 0, joinAt := 0, joinRamp := 0 }

def Tsc.reset : Tsc :=
  { active := [], ctxs := [], holds := [], jobs := [], jobList := [], joining := [], grantedAt := [], round := 0, firedTick := [], clear := [],
    stopTicks := [], urgentSeen := [], removedAt := [], written := [], pages := [], committed := false, svcGo := false, startAt := none, copying := none,
    barriers := [] }

def Lane.reset : Lane :=
  { since := 0, seq := 0, out := [], wait := [], mkGood := 0, mkBad := 0, lock := false, uncorr := 0, announced := 0, pre := 0,
    capsDone := false, launched := 0, sent := [], permit := false, zeroed := false, conf := 0, upTick := 0, judged := 0,
    missRun := 0, miss := 0, loop := 0, meas := 0, sum := 0, far := 0, farSum := 0, enc := none, applied := [], pep := 0,
    auth := none, cert := [] }

def Lnk.reset : Lnk := ⟨[], 0, [], []⟩

def Emitter.reset : Emitter :=
  { a := 0, o := false, n := 65535, run := false, ks := [], failOpen := 0, failShort := 0, failStuck := 0, bare := 0,
    lastValid := 0, unverified := false, maskAt := 0, probe := none, samples := [], idrv := 0 }

def Slice.reset : Slice := ⟨0, 0, []⟩

def Bld.reset : Bld := ⟨[], [], [], false, 0⟩

def Loop.reset : Loop :=
  { g := List.replicate 16 0, intg := 0, gset := 0, k := 0x10000, auto := false, track := true, man := 0x10000, stat := 0,
    missRun := 0, xfer := none, joined := false, round := 0 }

def Cen.reset : Cen := ⟨[], [], [], [], false⟩

def Axis.reset : Axis :=
  { ab := 0, hall := 0, phase := none, frame := none, frameAt := 0, frameStep := 0, frameGap := 0, te := 0, up := true,
    gap := none, ampBad := 0, ssiBad := 0, good := 0, refDue := false, judge := false, corr := none, prevF := 0,
    pubT := 0, pubCount := 0, pubF := 0, pubV := 0 }

def Cam.reset : Cam :=
  { due := [], await := [], lastAt := none, pulses := [], active := false, tag := 0, compares := [], frame := none, closed := [],
    taps := 0, page := 0 }

def Trc.reset : Trc := ⟨0, 0, 0, [], 0⟩

def MapP.reset : MapP :=
  { waiting := false, trigAt := none, ctl := 0, nfr := 0, count := 0, queue := [], kept := none, cur := none, next := [],
    lines := 0, loading := false, skip := false, pulses := [], unlatched := false, lateDue := false, served := 0, stopping := false,
    last := none }

def Ptp.reset : Ptp :=
  { foreign := [], parent := none, cmd := 0, good := 0, far := 0, d := 0, dSet := false, dFar := [], guardEnd := 0, syncAt := 0,
    annAt := 0, twoStep := none, last := none, req := [], txSeq := [], txAt := [], since := [] }

/-- TIM after reset: device time and both rates are 0 (R356); both references are taken as present (log entry 3). -/
def Tim.reset : Tim :=
  { steps := [], rate10 := 0, present := 3, capAt := [], armed := [], lastSync := [], pulses := [], on := 0, ptp := Ptp.reset }

def Cal.reset : Cal :=
  { kind := 0, seq := 0, heads := [], fids := [], todo := [], trig := none, found := [], since := 0, passed := 0,
    binding := 0, extremes := [], flagged := 0, copying := [], held := [], banks := [] }

def Chan.reset : Chan := ⟨[], 0, 0, 0, 0⟩

def Md.reset : Md := ⟨0, 0, [], false, 0⟩

def Axf.reset : Axf := ⟨[], [], 0, [], [], [], []⟩

def Rec.reset : Rec :=
  { staging := [], permSlots := [], circSlots := [], lostNext := false, dropC := 0, dropP := 0, fails := 0, skip := 0,
    stopped := false, powerFail := false, flushEnd := false, busy := none, erased := 65536, bootLost := 0, opAt := 0, qBuf := [], qBufSince := 0 }

def Flt.reset : Flt :=
  { gsgRun := [], gsgTick := [], rejoin := [], mcpHealthy := 3, handover := [], resets := [], ceReported := 0,
    ceSince := [0, 0] }

def Lcs.reset : Lcs :=
  { session := none, anchors := [], debug := none, transition := none, burned := none, reserved := [], flashBal := [],
    images := [], reauthAt := 0, keyHash := List.replicate 4 (List.replicate 48 0), revoked := 0, update := none }

def Pwr.reset : Pwr := ⟨false, false, false, false, [], none, 0, false⟩

end Sys2Proof.Machine
end

