-- ==== Sys2Proof/Machine/State.lean ====
section
/-! DEFINITION. The state of the LB7192 block, as plain data, and its state right after reset. -/

namespace Sys2Proof.Machine

/-- The reasons a step can stop with a fault. There is none: the manual gives every command of the table an effect in every
state, so the model never faults (safe: nothing is cut short). -/
inductive Fault where
  deriving DecidableEq, Repr

/-- The reasons a command can be refused. -/
inductive Refusal where
  /-- Raised by exec for a command that has no meaning yet, by its mnemonic (safe). -/
  | notModelled (mnemonic : String)
  deriving DecidableEq, Repr

/-- The outcome of a command. -/
abbrev Res (σ : Type) := Host.Outcome σ Fault Refusal

/-- The memories: on-chip SRAM (R27), external DRAM (R29), and the host memory the device reaches by DMA. An
unlisted byte reads 0 (log entry 2). The `Bad` tables list the 8-byte SRAM words and 32-byte DRAM units that hold an
uncorrectable error (R429). -/
structure Memory where
  sram : Sparse Byte
  dram : Sparse Byte
  host : Sparse Byte
  sramBad : Sparse Bool
  dramBad : Sparse Bool
  deriving DecidableEq, Repr

/-- GLB's state beside its registers: interlocks, relay, pause, DRAM partition, interrupts (chapters 01 and 02). -/
structure Glb where
  ilkCfg : Word                      -- GLB_ILK_CFG as latched (R36)
  ilkCfg2 : Word
  pins : Nat                         -- level of ILK0 to ILK7, 1 high
  tripping : Nat                     -- in-use inputs confirmed tripped
  force : Nat                        -- inputs whose unlatched force-zero is in effect (R41, R42)
  latched : Bool                     -- the force-zero latched by SAFE
  holdTrips : Nat                    -- class P inputs that tripped in this HOLD (R42)
  holdPaused : Bool                  -- the HOLD was entered by a PAUSE operation
  mismatch : Bool                    -- the relay feedback was found in mismatch (R40)
  forceSince : Nat                   -- TS96 at which force-zero began
  fbLow : Bool                       -- EMIT_FB_N is low (contact closed)
  pauseAt : Nat                      -- when the PAUSE in progress was accepted, ns (R49)
  dramLive : List (Nat × Nat)        -- live DRAM regions: base and size in MiB (R29)
  deriving DecidableEq, Repr

/-- The machine. -/
structure State where
  pending : List Instr               -- the commands that wait, first in first out
  tick : Nat                         -- the device tick in progress: its boundary has been processed
  now : Nat                          -- device time in ns since the PTP epoch (R12), FRAC 0
  regs : Sparse Word                 -- BAR0 registers by offset; an unlisted one reads its reset word
  live : Sparse Word                 -- the live copies of the shadow-set registers (R77), by the same offsets
  latches : Sparse (Option Word)     -- high parts latched by reads of low words (R10), by the high word's offset
  mem : Memory
  glb : Glb
  hq : Hq
  pend : List Pending                -- snapshots that wait for their tick boundary
  nextPend : Nat
  seqs : Sparse Seq                  -- BSQ0 to BSQ25
  ckpts : Sparse (Option (Nat × Seq)) -- checkpoint slots, by 2 × sequencer + tick parity (R424)
  tsc : Tsc
  lnk : Lnk
  bld : Bld
  cen : Cen
  axf : Axf
  cams : Sparse Cam                  -- CAM0 to CAM3
  trc : Trc
  maps : Sparse MapP                 -- MAP0 and MAP1
  tim : Tim
  cal : Cal
  chans : Sparse Chan                -- THM channels: TS0 to TS7, RD0 to RD3
  recd : Rec
  flt : Flt
  lcs : Lcs
  pwr : Pwr
  out : List Out                     -- what the device has sent, newest first (the model's own)
  free : Nat                         -- number of free values drawn (the model's own)
  deriving DecidableEq, Repr

def Memory.reset : Memory := ⟨[], [], [], [], []⟩

/-- The canonical form of every memory: addresses strictly rise, and no listed byte equals what an unlisted one reads (0). -/
def Memory.wf (m : Memory) : Bool :=
  swf (fun _ => (0 : Byte)) m.sram && swf (fun _ => (0 : Byte)) m.dram && swf (fun _ => (0 : Byte)) m.host &&
    swf (fun _ => false) m.sramBad && swf (fun _ => false) m.dramBad

/-- GLB after reset: every input in use and of class S (R36), the pins low by their pull-downs (log entry 3), the
relay contact open, DRAM region 4 at MiB 0 to 63 (R30). -/
def Glb.reset : Glb :=
  { ilkCfg := regReset R.GLB_ILK_CFG, ilkCfg2 := regReset R.GLB_ILK_CFG2, pins := 0, tripping := 0, force := 0, latched := false,
    holdTrips := 0, holdPaused := false, mismatch := false, forceSince := 0, fbLow := false, pauseAt := 0,
    dramLive := [(0, 0), (0, 0), (0, 0), (0, 0), (0, 64), (0, 0)] }

def Hq.reset : Hq := ⟨[], [], [], 15, 15, 0, 0, false⟩

/-- The machine right after reset: BOOT (Table 2-4), every register at its reset value, nothing waiting. -/
def State.reset : State :=
  { pending := [], tick := 0, now := 0, regs := [], live := [], latches := [], mem := Memory.reset, glb := Glb.reset,
    hq := Hq.reset, pend := [], nextPend := 1, seqs := [], ckpts := [], tsc := Tsc.reset, lnk := Lnk.reset, bld := Bld.reset, cen := Cen.reset, axf := Axf.reset, cams := [], trc := Trc.reset, maps := [], tim := Tim.reset,
    cal := Cal.reset, chans := [], recd := Rec.reset, flt := Flt.reset,
    lcs := Lcs.reset, pwr := Pwr.reset, out := [], free := 0 }

end Sys2Proof.Machine
end

