-- ==== Sys2Proof/Machine/Ops.lean ====
section
/-! DEFINITION. The named operations over registers, memories, time and outputs that every meaning shares. -/

namespace Sys2Proof.Machine

/-! ## Registers -/

/-- The stored word of the BAR0 register at `off`. -/
def State.rd (s : State) (off : Nat) : Word := sget regReset off s.regs

/-- The state with the BAR0 register at `off` holding `w`. -/
def State.wr (s : State) (off : Nat) (w : Word) : State := { s with regs := sput regReset off w s.regs }

/-- Field `f` of the register at `off`. -/
def State.fld (s : State) (off : Nat) (f : Fld) : Nat := fget (s.rd off) f

/-- The state with field `f` of the register at `off` holding `v`. -/
def State.setFld (s : State) (off : Nat) (f : Fld) (v : Nat) : State := s.wr off (fput (s.rd off) f v)

/-- The live word of a shadow-set register (R77). -/
def State.lv (s : State) (off : Nat) : Word := sget regReset off s.live

/-- Field `f` of the live word of a shadow-set register. -/
def State.lfld (s : State) (off : Nat) (f : Fld) : Nat := fget (s.lv off) f

/-- Event counter `off` raised by `n`, saturating (R9). -/
def State.inc (s : State) (off : Nat) (n : Nat) : State := s.wr off (satAdd (s.rd off) n)

/-- GLB_LOCKVIOL raised by one (R481). -/
def State.lockviol (s : State) : State := s.inc R.GLB_LOCKVIOL 1

/-! ## Mode -/

/-- The mode that a code of Table 2-3 names. -/
def Mode.ofCode : Nat → Mode
  | 0 => .boot
  | 1 => .idle
  | 2 => .armed
  | 3 => .expose
  | 4 => .hold
  | 5 => .degraded
  | 6 => .safe
  | _ => .service

/-- The code of a mode (Table 2-3). -/
def Mode.code : Mode → Nat
  | .boot => 0
  | .idle => 1
  | .armed => 2
  | .expose => 3
  | .hold => 4
  | .degraded => 5
  | .safe => 6
  | .service => 7

/-- The present mode (R45). -/
def State.mode (s : State) : Mode := Mode.ofCode (s.fld R.GLB_MODE F.GLB_MODE_MODE)

/-- RWL fields are writable only in IDLE and SERVICE (R5). -/
def State.unlocked (s : State) : Bool := s.mode = .idle || s.mode = .service

/-- Tiles run in EXPOSE and DEGRADED (Table 2-3). -/
def State.runMode (s : State) : Bool := s.mode = .expose || s.mode = .degraded

/-- The life-cycle state code of LCS_STAT.LC (Table 17-1). -/
def State.lc (s : State) : Nat := s.fld R.LCS_STAT F.LCS_STAT_LC

/-! ## Time -/

/-- The TS96 value of a device time in whole ns (Table 0-4). -/
def ts96 (ns : Nat) : Nat := ns % 1000000000 * 2 ^ 16 + ns / 1000000000 * 2 ^ 48

/-- The present device time as TS96. -/
def State.nowTs (s : State) : Nat := ts96 s.now

/-- The device time, in units of 2⁻¹⁶ ns, of a TS96 value. -/
def tsFine (ts : Nat) : Nat := (ts / 2 ^ 48 * 1000000000 + ts / 2 ^ 16 % 2 ^ 32) * 65536 + ts % 65536

/-- The NS field of a TS64 or TS96 value is below 1,000,000,000 (R14). -/
def tsValid (ts : Nat) : Bool := decide (ts / 2 ^ 16 % 2 ^ 32 < 1000000000)

/-- The instant, in units of 2⁻¹⁶ ns, that a TS64 value names at present time `p` ns (R75): the one in the half-open window
of ± 32,768 s about the present time. It may lie before the epoch. -/
def extendTs (v p : Nat) : Int :=
  let fine : Int := ((v / 2 ^ 16 % 2 ^ 32) * 65536 + v % 65536 : Nat)
  let sec : Int := (v / 2 ^ 48 % 65536 : Nat)
  let one : Int := 1000000000 * 65536
  let pf : Int := (p : Int) * 65536
  let base : Int := ((p / 1000000000 / 65536 * 65536 : Nat) : Int) + sec
  let t := base * one + fine
  let span := 65536 * one
  if t < pf - 32768 * one then t + span
  else if pf + 32768 * one ≤ t then t - span
  else t

/-- The time in ns at which a command that arrives `ns` nanoseconds into the present tick is handled. Time never runs
backwards (log entry 7). -/
def State.arrive (s : State) (ns : Nat) : State := { s with now := max s.now (s.tick * 500 + min ns 499) }

/-! ## Outputs and interrupts -/

def State.emit (s : State) (o : Out) : State := { s with out := o :: s.out }

/-- A frame leaves Ethernet port `p`, and TXOK counts it (R376). -/
def State.ethSend (s : State) (p : Nat) (o : Out) : State := (s.emit o).inc (R.TIM_P_TXOK p) 1

/-- A free value is drawn: the counter that names it advances. -/
def State.draw (s : State) : State := { s with free := s.free + 1 }

/-- Vector `v` of the MSI-X structures is sent, or is left pending while it is masked (R57). -/
def State.msix (s : State) (v : Nat) : State :=
  if s.fld (R.MSIX_CTRL v) F.MSIX_CTRL_MASK = 1 then
    s.wr (R.MSIX_PBA (v / 32)) (s.rd (R.MSIX_PBA (v / 32)) ||| BitVec.ofNat 32 (2 ^ (v % 32)))
  else
    s.emit (.msix ((s.rd (R.MSIX_ADDR_LO v)).toNat + (s.rd (R.MSIX_ADDR_HI v)).toNat * 2 ^ 32) (s.rd (R.MSIX_DATA v)))

/-- The sources of Table 1-9 (bits 0 to 7) that one register's word raises. -/
def irqBits (off : Nat) (w : Word) : Nat :=
  if w = 0 then 0
  else if 0x200000 ≤ off ∧ off < 0x21A000 ∧ off % 0x1000 = 0x18 then 1
  else if 0x901000 ≤ off ∧ off < 0x905000 ∧ off % 0x1000 = 4 then
    (if fget w F.CAM_STAT_FRAME = 1 then 2 ^ (1 + (off - 0x901000) / 0x1000) else 0)
  else if 0xB01000 ≤ off ∧ off < 0xB01600 ∧ off % 0x40 = 0 then
    (if fget w F.GEO_H_STAT_RERUN = 1 then 32 else 0)
  else if off = R.THM_STAT then
    (if w &&& (fmask F.THM_STAT_WARN ||| fmask F.THM_STAT_RISE ||| fmask F.THM_STAT_HOT ||| fmask F.THM_STAT_CRIT |||
        fmask F.THM_STAT_EXPWIN ||| fmask F.THM_STAT_BROKEN) = 0 then 0 else 64)
  else if 0xE00100 ≤ off ∧ off < 0xE00200 ∧ off % 0x10 = 0xC then
    (if fget w F.LCS_UC_STAT_EMPTY = 1 then 128 else 0)
  else 0

/-- GLB_IRQ_SRC[7:0]: every source one of whose status bits reads 1 (R32). -/
def State.irqSources (s : State) : Nat :=
  s.regs.foldl (fun acc p => acc ||| irqBits p.1 p.2) 0

/-- The MSI-X vector that GLB_IRQ_VEC0 to GLB_IRQ_VEC2 name for source `i` (R32). -/
def State.irqVec (s : State) (i : Nat) : Nat := (s.rd (R.GLB_IRQ_VEC (i / 4))).toNat / 2 ^ (8 * (i % 4)) % 64

/-- The vectors of the enabled sources in the list are sent. -/
def State.irqSend (s : State) (rose : Nat) : State :=
  (List.range 9).foldl (fun s i =>
    if bit rose i && bit (s.fld R.GLB_IRQ_EN F.GLB_IRQ_EN_EN) i then s.msix (s.irqVec i) else s) s

/-- GLB_IRQ_SRC follows the status bits it gathers, and each enabled source whose bit rises sends its vector (R32). -/
def State.irqSync (s : State) : State :=
  let old := s.fld R.GLB_IRQ_SRC F.GLB_IRQ_SRC_SRC
  let new := s.irqSources
  if new = old then s
  else (s.setFld R.GLB_IRQ_SRC F.GLB_IRQ_SRC_SRC new).irqSend (new - (new &&& old))

/-- The next state of a command: the interrupt sources are brought up to date. -/
def done (s : State) : Res State := .next s.irqSync

/-- The next state of a host write to a register with a row of its own: during BOOT it has no effect (R457). -/
def hostOp (s : State) (k : State → State) : Res State := done (if s.mode = .boot then s else k s)

/-! ## Memories -/

def zeroByte : Nat → Byte := fun _ => 0

/-- `n` bytes of a memory from address `a`. -/
def readBytes (m : Sparse Byte) (a n : Nat) : List Byte := (List.range n).map fun i => sget zeroByte (a + i) m

/-- A memory with a list of bytes written from address `a`. -/
def writeBytes : Sparse Byte → Nat → List Byte → Sparse Byte
  | m, _, [] => m
  | m, a, b :: t => writeBytes (sput zeroByte a b m) (a + 1) t

/-- The little-endian value of `n` SRAM bytes from `a`. -/
def State.sramNat (s : State) (a n : Nat) : Nat := leNat (readBytes s.mem.sram a n)

def State.sramBytes (s : State) (a n : Nat) : List Byte := readBytes s.mem.sram a n

/-- The error marks of the words that a write of `n` bytes at `a` rewrites, cleared, for units of `w` bytes (Table 16-4). -/
def clearBad (m : Sparse Bool) (w a n : Nat) : Sparse Bool :=
  if n = 0 then m
  else (List.range ((a + n - 1) / w - a / w + 1)).foldl (fun m i => sput (fun _ => false) (a / w + i) false m) m

/-- SRAM with bytes written by the device. -/
def State.sramPut (s : State) (a : Nat) (bs : List Byte) : State :=
  { s with mem := { s.mem with sram := writeBytes s.mem.sram a bs, sramBad := clearBad s.mem.sramBad 8 a bs.length } }

def State.dramBytes (s : State) (a n : Nat) : List Byte := readBytes s.mem.dram a n

def State.dramPut (s : State) (a : Nat) (bs : List Byte) : State :=
  { s with mem := { s.mem with dram := writeBytes s.mem.dram a bs, dramBad := clearBad s.mem.dramBad 32 a bs.length } }

def State.hostBytes (s : State) (a n : Nat) : List Byte := readBytes s.mem.host a n

def State.hostPut (s : State) (a : Nat) (bs : List Byte) : State :=
  { s with mem := { s.mem with host := writeBytes s.mem.host a bs } }

/-- Whether an SRAM range holds a word with an uncorrectable error. -/
def State.sramPoisoned (s : State) (a n : Nat) : Bool :=
  n ≠ 0 && (List.range ((a + n - 1) / 8 - a / 8 + 1)).any fun i => sget (fun _ => false) (a / 8 + i) s.mem.sramBad

/-- Whether a DRAM range holds a unit with an uncorrectable error. -/
def State.dramPoisoned (s : State) (a n : Nat) : Bool :=
  n ≠ 0 && (List.range ((a + n - 1) / 32 - a / 32 + 1)).any fun i => sget (fun _ => false) (a / 32 + i) s.mem.dramBad

/-- Base and size in bytes of live DRAM region `n` (R29). -/
def State.dramRegion (s : State) (n : Nat) : Nat × Nat :=
  match s.glb.dramLive[n]? with
  | some (b, z) => (b * 2 ^ 20, z * 2 ^ 20)
  | none => (0, 0)

/-- The live DRAM region that holds byte address `a`, if any. -/
def State.dramRegionOf (s : State) (a : Nat) : Option Nat :=
  (List.range 6).find? fun n => let r := s.dramRegion n; decide (r.1 ≤ a) && decide (a < r.1 + r.2)

/-! ## CRC-32 of IEEE 802.3 (Table 3-9) -/

def crcStep (c : Nat) : Nat := if c % 2 = 1 then (c / 2) ^^^ 0xEDB88320 else c / 2

def crcByte (c : Nat) (b : Byte) : Nat :=
  crcStep (crcStep (crcStep (crcStep (crcStep (crcStep (crcStep (crcStep (c ^^^ b.toNat))))))))

/-- CRC-32 with the IEEE 802.3 polynomial, initial value and bit order. -/
def crc32 (bs : List Byte) : Nat := (bs.foldl crcByte 0xFFFFFFFF) ^^^ 0xFFFFFFFF

/-! ## Units -/

def State.seq (s : State) (n : Nat) : Seq := sget Seq.reset n s.seqs

def State.setSeq (s : State) (n : Nat) (q : Seq) : State := { s with seqs := sput Seq.reset n q s.seqs }

def State.queue (s : State) (n : Nat) : Queue := sget (fun _ => Queue.reset) n s.hq.queues

def State.setQueue (s : State) (n : Nat) (q : Queue) : State :=
  { s with hq := { s.hq with queues := sput (fun _ => Queue.reset) n q s.hq.queues } }

/-- The sequencer that serves head `h` (FLT_SEQMAP, R425). -/
def State.seqOf (s : State) (h : Nat) : Nat := (s.rd (R.FLT_SEQMAP (h / 6))).toNat / 2 ^ (5 * (h % 6)) % 32

def State.setSeqOf (s : State) (h n : Nat) : State :=
  s.setFld (R.FLT_SEQMAP (h / 6)) ⟨5 * (h % 6), 5⟩ n

/-- The state of sequencer `n` in FLT_BSQST: 0 active, 1 spare, 2 failed, 3 testing. -/
def State.bsqState (s : State) (n : Nat) : Nat :=
  s.fld (if n < 16 then R.FLT_BSQST0 else R.FLT_BSQST1) ⟨2 * (n % 16), 2⟩

def State.setBsqState (s : State) (n v : Nat) : State :=
  s.setFld (if n < 16 then R.FLT_BSQST0 else R.FLT_BSQST1) ⟨2 * (n % 16), 2⟩ v

/-- The tile that head `h` holds, if any. -/
def State.held (s : State) (h : Nat) : Option Nat := sget (fun _ => none) h s.tsc.holds

/-- Head `h` is in the eligible set (TSC_HEADS.LIVE). -/
def State.liveHead (s : State) (h : Nat) : Bool := bit (s.fld R.TSC_HEADS F.TSC_HEADS_LIVE) h

/-- A degradation cause sets in GLB_DEGR_CAUSE (R48). -/
def State.degrBit (s : State) (f : Fld) : State := s.setFld R.GLB_DEGR_CAUSE f 1

/-! ## Trace triggers -/

/-- The trace triggers, once per run: the entry at TPTR holds the trigger point, and POST further entries follow (R282). -/
def State.traceHit (s : State) : State :=
  if s.fld R.CEN_TRC_STAT F.CEN_TRC_STAT_RUN = 0 ∨ s.fld R.CEN_TRC_STAT F.CEN_TRC_STAT_TRIGGERED = 1 then s
  else
    let s := (s.setFld R.CEN_TRC_STAT F.CEN_TRC_STAT_TRIGGERED 1).wr R.CEN_TRC_TPTR (s.rd R.CEN_TRC_WPTR)
    { s with trc := { s.trc with post := s.fld R.CEN_TRC_POST F.CEN_TRC_POST_POST + 1 } }

/-- A trace trigger of source `k` (Table of R282). -/
def State.traceTrigger (s : State) (k : Nat) : State :=
  if s.fld R.CEN_TRC_CFG F.CEN_TRC_CFG_TRIG = k then s.traceHit else s

end Sys2Proof.Machine
end

