-- ==== Sys2Proof/Machine/Geometry.lean ====
section
/-! DEFINITION. The geometry of motion: lengths, tick counts, set-points and corner angles (R104 to R107, R127 to R131, R135,
R152). Lengths and angles that are irrational are computed in fixed point with guard bits far below the rounding
unit (log entry 14). -/

namespace Sys2Proof.Machine

/-- √v rounded to the nearest integer. -/
def sqrtNear (v : Nat) : Nat := (isqrt (4 * v) + 1) / 2

/-- √(dx² + dy²) rounded to the nearest nm (R127). -/
def hyp (dx dy : Int) : Nat := sqrtNear (dx * dx + dy * dy).toNat

/-- √(dx² + dy²) in units of 2⁻²⁰ nm. -/
def hypFine (dx dy : Int) : Nat := isqrt ((dx * dx + dy * dy).toNat * 2 ^ 40)

/-- N = ⌈2000 × L ÷ v⌉ ticks (Table 4-4). -/
def ticksOf (l v : Nat) : Nat := cdiv (2000 * l) v

/-! ## Angles in fixed point -/

/-- 2⁶⁰, the unit of the fixed point of angles and their sines. -/
abbrev fxOne : Int := 1152921504606846976

/-- π × 2⁶⁰, rounded. -/
abbrev fxPi : Int := 3622009729038561421

/-- The Taylor series of sine (or cosine) from its term k on; the terms are in units of 2⁻⁶⁰. -/
def taylor (x2 : Int) : Nat → Nat → Int → Int → Int
  | 0, _, _, acc => acc
  | n + 1, k, term, acc =>
    let t := -(rdiv (rdiv (term * x2) 1152921504606846976) (k * (k + 1)))
    taylor x2 n (k + 2) t (acc + t)

/-- Sine of x, both in units of 2⁻⁶⁰, for |x| up to about 2. -/
def sinFx (x : Int) : Int := taylor (rdiv (x * x) 1152921504606846976) 16 2 x x

/-- Cosine of x, both in units of 2⁻⁶⁰, for |x| up to about 2. -/
def cosFx (x : Int) : Int := taylor (rdiv (x * x) 1152921504606846976) 16 1 fxOne fxOne

/-- Cosine and sine of num ÷ den turns. -/
def cosSin (num : Int) (den : Nat) : Int × Int :=
  let m := num % (den : Int)
  let q := 4 * m / (den : Int)
  let r := 4 * m - q * (den : Int)
  let x := rdiv (r * fxPi) (2 * den)
  let c := cosFx x
  let n := sinFx x
  if q = 0 then (c, n) else if q = 1 then (-n, c) else if q = 2 then (-c, -n) else (n, -c)

/-! ## Corner angle (R135) -/

/-- Whether the angle whose tangent vector is (dot, cross), 0 to half a turn, is at least (2k − 1) × 2⁻¹⁷ turn. -/
def angleAtLeast (dot cross : Int) (k : Nat) : Bool :=
  if k = 0 then true
  else
    let (c, n) := cosSin (2 * (k : Int) - 1) 131072
    -- sine of (angle − bound) is at least 0
    decide (0 ≤ cross * c - dot * n)

/-- Binary search for the rounded angle from bit `b` downwards. -/
def angleGo (dot cross : Int) : Nat → Nat → Nat
  | 0, a => a
  | b + 1, a => if a + 2 ^ b ≤ 32768 ∧ angleAtLeast dot cross (a + 2 ^ b) then angleGo dot cross b (a + 2 ^ b)
                else angleGo dot cross b a

/-- The corner angle between two tangents in units of 2⁻¹⁶ turn, 0 to 32,768, rounded to the nearest unit (R135). -/
def cornerAngle (ax ay bx by_ : Int) : Nat :=
  let dot := ax * bx + ay * by_
  let cross := ax * by_ - ay * bx
  angleGo dot (if cross < 0 then -cross else cross) 16 0

/-- The polygon hold hp = ⌊(2 × POLY × A + 32,768) ÷ 65,536⌋ slots (R135). -/
def polyHold (poly a : Nat) : Nat := (2 * poly * a + 32768) / 65536

/-! ## Paces: the distance covered at the end of tick i, as numerator and denominator -/

/-- T of a triangular jump profile in units of 2⁻³² tick: 2 × √(40 × L ÷ A) (R131). -/
def triT (acc l : Nat) : Nat := isqrt (160 * l * 2 ^ 64 / (acc + 1))

/-- The number of ticks of a jump of length L at speed v with the profile of R131. -/
def jumpTicks (profile : Bool) (acc l v : Nat) : Nat :=
  if l = 0 then 0
  else if !profile then ticksOf l v
  else
    let a := acc + 1
    if v * v ≤ 100000 * a * l then cdiv (100000 * a * l + v * v) (50 * a * v)
    else
      -- the smallest n with n² × A ≥ 160 × L
      let n := isqrt (160 * l / a)
      if 160 * l ≤ n * n * a then n else if 160 * l ≤ (n + 1) * (n + 1) * a then n + 1 else n + 2

/-- Distance along the jump of R131 at the end of tick i. -/
def trapDist (v acc l n i : Nat) : Nat × Nat :=
  let a := acc + 1
  if n ≤ i then (l, 1)
  else if v * v ≤ 100000 * a * l then
    -- tu = v ÷ (50 A); T = (100000 A L + v²) ÷ (50 A v)
    if 50 * a * i ≤ v then (a * i * i, 80)
    else if 50 * a * v * i + v * v ≤ 100000 * a * l + v * v then
      -- s = v i ÷ 2000 − v² ÷ (200000 A)
      (v * i * 100 * a - v * v, 200000 * a)
    else
      let r := 100000 * a * l + v * v - 50 * a * v * i   -- (T − i) × 50 A v
      let d := 50 * a * v
      (l * 80 * d * d - a * r * r, 80 * d * d)
  else
    let t := triT acc l
    let fi := i * 2 ^ 32
    if 2 * fi ≤ t then (a * i * i, 80)
    else if t ≤ fi then (l, 1)
    else (l * 80 * 2 ^ 64 - a * (t - fi) * (t - fi), 80 * 2 ^ 64)

/-- Distance of the Stop phase at the end of tick i: v1 × t − ½ × a1 × t², in nm (Table 5-4). -/
def stopDist (v td i : Nat) : Nat × Nat :=
  if td = 0 then (0, 1) else (v * i * (2 * td - i), 4000 * td)

/-- Distance of the Approach at the end of tick i: ½ × a2 × t², in nm (Table 5-4). -/
def approachDist (v ta i : Nat) : Nat × Nat :=
  if ta = 0 then (0, 1) else (v * i * i, 4000 * ta)

/-- Td or Ta: ⌈v ÷ a ÷ 500 ns⌉ ticks for the acceleration (ACC + 1) × 100 m/s² (Table 5-4, R187). -/
def rampTicks (v acc : Nat) : Nat := cdiv v (50 * (acc + 1))

/-- Distance at the end of tick i of a pace, for a path of length l. -/
def Pace.dist (p : Pace) (l i : Nat) : Nat × Nat :=
  match p with
  | .uniform n => if n = 0 then (l, 1) else (l * i, n)
  | .trapezoid v acc l n => trapDist v acc l n i
  | .stop v td => stopDist v td i
  | .approach v ta => approachDist v ta i

/-- The ticks a pace takes. -/
def Pace.ticks : Pace → Nat
  | .uniform n => n
  | .trapezoid _ _ _ n => n
  | .stop _ td => td
  | .approach _ ta => ta

/-! ## Bézier curves (R107, R129) -/

/-- 64³ times the coordinate of a cubic Bézier curve at parameter k ÷ 64. -/
def bez64 (p0 p1 p2 p3 : Int) (k : Nat) : Int :=
  let t : Int := k
  let u : Int := 64 - k
  u * u * u * p0 + 3 * u * u * t * p1 + 3 * u * t * t * p2 + t * t * t * p3

/-- Length of polyline segment k (from k ÷ 64 to (k + 1) ÷ 64), in units of 2⁻²⁰ nm. -/
def bezSeg (p0 p1 p2 p3 : Pt) (k : Nat) : Nat :=
  let dx := bez64 p0.x p1.x p2.x p3.x (k + 1) - bez64 p0.x p1.x p2.x p3.x k
  let dy := bez64 p0.y p1.y p2.y p3.y (k + 1) - bez64 p0.y p1.y p2.y p3.y k
  isqrt ((dx * dx + dy * dy).toNat * 2 ^ 4)

/-- Length of the 64-segment polyline in units of 2⁻²⁰ nm. -/
def bezLenFine (p0 p1 p2 p3 : Pt) : Nat := (List.range 64).foldl (fun acc k => acc + bezSeg p0 p1 p2 p3 k) 0

/-- L of a CUB: the polyline length rounded to the nearest nm (R107). -/
def bezLen (p0 p1 p2 p3 : Pt) : Nat := (2 * bezLenFine p0 p1 p2 p3 + 2 ^ 20) / 2 ^ 21

/-- The parameter, in units of 2⁻⁴⁰, at which the polyline length reaches `d` (units of 2⁻²⁰ nm), from segment k on. -/
def bezParam (p0 p1 p2 p3 : Pt) (d : Nat) : Nat → Nat → Nat
  | 0, _ => 2 ^ 40
  | n + 1, k =>
    let l := bezSeg p0 p1 p2 p3 k
    if d ≤ l then k * 2 ^ 34 + (if l = 0 then 0 else d * 2 ^ 34 / l)
    else bezParam p0 p1 p2 p3 (d - l) n (k + 1)

/-- A coordinate of the Bézier curve at t (units of 2⁻⁴⁰), rounded as R127. -/
def bezAt (p0 p1 p2 p3 : Int) (t : Nat) : Int :=
  let a : Int := t
  let u : Int := 2 ^ 40 - a
  rdivAway (u * u * u * p0 + 3 * u * u * a * p1 + 3 * u * a * a * p2 + a * a * a * p3) (2 ^ 120)

/-! ## Arcs (R106, R128) -/

/-- L of an ARC: r × |θ| rounded to the nearest nm, halves away from zero. -/
def arcLen (dx dy sweep : Int) : Nat :=
  (rdiv ((hypFine dx dy : Int) * sweep.natAbs * fxPi) (2 ^ 23 * 2 ^ 20 * 2 ^ 60)).toNat

/-- The vector (dx, dy) turned by sweep × i ÷ n ÷ 2²⁴ turns, in units of 2⁻⁶⁰ nm. -/
def turned (dx dy sweep : Int) (i n : Nat) : Int × Int :=
  let (c, w) := cosSin (sweep * i) (2 ^ 24 * n)
  (dx * c - dy * w, dx * w + dy * c)

/-! ## Set-points -/

/-- The set-point at the end of tick i of a path (R127 to R131, R152). -/
def Path.at (p : Path) (i : Nat) : Pt :=
  match p with
  | .hold q => q
  | .line a b pace =>
    let l := match pace with
      | .trapezoid _ _ l _ => l
      | _ => 1
    let (num, den) := pace.dist l i
    let d := den * max l 1
    let go (u v : Int) : Int := rdivAway (u * d + (v - u) * num) d
    ⟨go a.x b.x, go a.y b.y, go a.z b.z⟩
  | .run a dx dy pace =>
    let (num, den) := pace.dist 0 i
    let h := hypFine dx dy
    if h = 0 then a
    else ⟨rdivAway (a.x * (den * h : Nat) + dx * num * 2 ^ 20) (den * h), rdivAway (a.y * (den * h : Nat) + dy * num * 2 ^ 20) (den * h), a.z⟩
  | .arc a cx cy sweep z1 n =>
    if n = 0 then a
    else
      let (vx, vy) := turned (a.x - cx) (a.y - cy) sweep i n
      ⟨rdivAway (cx * 2 ^ 60 + vx) (2 ^ 60), rdivAway (cy * 2 ^ 60 + vy) (2 ^ 60), rdivAway (a.z * n + (z1 - a.z) * i) n⟩
  | .cubic p0 p1 p2 p3 n =>
    if n = 0 then p0
    else
      let t := bezParam p0 p1 p2 p3 (bezLenFine p0 p1 p2 p3 * i / n) 64 0
      if i = n then ⟨p3.x, p3.y, p0.z⟩
      else ⟨bezAt p0.x p1.x p2.x p3.x t, bezAt p0.y p1.y p2.y p3.y t, p0.z⟩

/-- The point that a straight line of length `d` (nm, as numerator and denominator) from `p` along (dx, dy) reaches. -/
def alongFrac (p : Pt) (dx dy : Int) (num : Int) (den : Nat) : Pt :=
  let h := hypFine dx dy
  if h = 0 then p
  else ⟨rdivAway (p.x * (den * h : Nat) + dx * num * 2 ^ 20) (den * h), rdivAway (p.y * (den * h : Nat) + dy * num * 2 ^ 20) (den * h), p.z⟩

def along (p : Pt) (dx dy : Int) (d : Int) : Pt := alongFrac p dx dy d 1

/-- The coordinate fits 32 signed bits. -/
def fits32 (x : Int) : Bool := decide (-2147483648 ≤ x) && decide (x ≤ 2147483647)

end Sys2Proof.Machine
end

