-- ==== Sys2Proof/Machine/Flags.lean ====
section
/-! DEFINITION. The flag computations of the Tanoran instructions (R92, R101), over 32-bit values. -/

namespace Sys2Proof.Machine

/-- A result with the flags Z, N, C it gives. -/
structure Alu where
  val : Word
  z : Bool
  n : Bool
  c : Bool
  deriving DecidableEq, Repr

def zn (r : Word) (c : Bool) : Alu := ⟨r, r = 0, r.msb, c⟩

/-- ADD: C is the carry out (R92). -/
def aluAdd (a b : Word) : Alu := zn (a + b) (decide (2 ^ 32 ≤ a.toNat + b.toNat))

/-- SUB: C is the borrow (R92). -/
def aluSub (a b : Word) : Alu := zn (a - b) (decide (a.toNat < b.toNat))

/-- SHL by the low six bits of b; C is the last bit shifted out, 0 for a shift of 0 (R101). A bit beyond the
word is 0. -/
def aluShl (a b : Word) : Alu :=
  let k := b.toNat % 64
  zn (if k < 32 then a <<< k else 0) (k ≠ 0 && decide (k ≤ 32) && bit a.toNat (32 - k))

/-- SHR by the low six bits of b, logical (R101). -/
def aluShr (a b : Word) : Alu :=
  let k := b.toNat % 64
  zn (if k < 32 then a >>> k else 0) (k ≠ 0 && decide (k ≤ 32) && bit a.toNat (k - 1))

/-- SHR.A: an arithmetic shift; beyond the word every bit is the sign (R101). -/
def aluSar (a b : Word) : Alu :=
  let k := b.toNat % 64
  zn (a.sshiftRight k) (k ≠ 0 && (if k ≤ 32 then bit a.toNat (k - 1) else a.msb))

/-- CMP: equal, less as signed, less as unsigned (R92). -/
def aluCmp (a b : Word) : Alu := ⟨a, a = b, decide (a.toInt < b.toInt), decide (a.toNat < b.toNat)⟩

/-- The result of a register-format opcode, with `arith` the MOD.A bit; AND, ORR and XOR leave C as it was (Table 4-4). -/
def alu (op : Nat) (arith : Bool) (c : Bool) (a b : Word) : Alu :=
  if op = 0x10 then aluAdd a b
  else if op = 0x11 then aluSub a b
  else if op = 0x12 then zn (a &&& b) c
  else if op = 0x13 then zn (a ||| b) c
  else if op = 0x14 then zn (a ^^^ b) c
  else if op = 0x15 then aluShl a b
  else if op = 0x16 then (if arith then aluSar a b else aluShr a b)
  else aluCmp a b

/-- A branch condition of Table 4-9 on the flags Z, N, C, W, T. -/
def condHolds (cond : Nat) (z n c w t : Bool) : Bool :=
  match cond with
  | 0 => true
  | 1 => z
  | 2 => !z
  | 3 => n
  | 4 => !n
  | 5 => c
  | 6 => !c
  | 7 => w
  | 8 => !w
  | 9 => t
  | 10 => !t
  | 11 => z || n
  | _ => !z && !n

end Sys2Proof.Machine
end

