-- ==== Sys2Proof/Machine/Operands.lean ====
section
/-! DEFINITION. Tanoran instruction words: fetch, layout checks (R95 to R99), and the register operands of a beam program
(R88, R89). -/

namespace Sys2Proof.Machine

/-! ## Program faults (Table 4-20) -/

namespace Pf
abbrev illegalInstr : Nat := 1
abbrev illegalReg : Nat := 2
abbrev pcRange : Nat := 3
abbrev memRange : Nat := 4
abbrev stack : Nat := 5
abbrev speedZero : Nat := 6
abbrev fieldRange : Nat := 7
abbrev geometry : Nat := 8
abbrev badOperand : Nat := 9
abbrev tilNest : Nat := 10
abbrev barId : Nat := 11
abbrev waitTmo : Nat := 12
abbrev cls : Nat := 13
abbrev halted : Nat := 14
abbrev badParam : Nat := 15
end Pf

/-- A fetched instruction: its base word and up to three extension words (R95). -/
structure Iw where
  base : Nat
  w1 : Nat
  w2 : Nat
  w3 : Nat
  deriving DecidableEq, Repr

/-- Bits [hi:lo] of a 64-bit word. -/
def bits (w hi lo : Nat) : Nat := w / 2 ^ lo % 2 ^ (hi + 1 - lo)

def Iw.op (i : Iw) : Nat := bits i.base 7 0
def Iw.xw (i : Iw) : Nat := bits i.base 9 8
def Iw.md (i : Iw) (n : Nat) : Bool := bit i.base n
def Iw.len (i : Iw) : Nat := 1 + i.xw
def Iw.gd (i : Iw) : Nat := bits i.base 20 16
def Iw.ga (i : Iw) : Nat := bits i.base 25 21
def Iw.gb (i : Iw) : Nat := bits i.base 30 26
def Iw.hi (i : Iw) : Nat := bits i.base 63 32
/-- Signed 32-bit halves of an extension word. -/
def lo32 (w : Nat) : Int := sgn 32 (bits w 31 0)
def hi32 (w : Nat) : Int := sgn 32 (bits w 63 32)

/-- The 64-bit word at word address `w` of the program windows (R95). -/
def progWord (m : Sparse Byte) (w : Nat) : Nat := leNat (readBytes m (8 * w) 8)

/-- The last word address of the program windows plus one (R95). -/
abbrev progEnd : Nat := 4194304

/-- The instruction at `pc`, or PC_RANGE where a word of it lies outside the program windows (R98). -/
def fetchIw (m : Sparse Byte) (pc : Nat) : Except Nat Iw :=
  if progEnd ≤ pc then .error Pf.pcRange
  else
    let b := progWord m pc
    let x := bits b 9 8
    if progEnd < pc + 1 + x then .error Pf.pcRange
    else .ok ⟨b, if 1 ≤ x then progWord m (pc + 1) else 0, if 2 ≤ x then progWord m (pc + 2) else 0,
      if 3 ≤ x then progWord m (pc + 3) else 0⟩

/-- The shared opcodes and the opcodes of the beam class (Table 4-3). -/
def beamOp (op : Nat) : Bool :=
  [0x00, 0x01, 0x08, 0x09, 0x0A, 0x10, 0x11, 0x12, 0x13, 0x14, 0x15, 0x16, 0x17, 0x20, 0x21, 0x22, 0x23, 0x24, 0x30, 0x31,
    0x32, 0x33, 0x34, 0x38, 0x39, 0x3A, 0x3C, 0x3D, 0x40, 0x41, 0x48, 0x49, 0x4A, 0x4B, 0x50, 0x58].contains op

/-- The opcodes of the control class (Table 4-3). -/
def controlOp (op : Nat) : Bool := decide (0x80 ≤ op) && decide (op ≤ 0x86)

/-- The shared opcodes (Table 4-3). -/
def sharedOp (op : Nat) : Bool :=
  [0x00, 0x01, 0x08, 0x10, 0x11, 0x12, 0x13, 0x14, 0x15, 0x16, 0x17, 0x20, 0x21].contains op

/-- XW that the opcode and its MOD bits require (Table 4-4, Table 4-19). -/
def needXw (i : Iw) : Nat :=
  let op := i.op
  if op = 0x30 ∨ op = 0x31 then (if i.md 13 then b2n (i.md 12) else 1 + b2n (i.md 11 || i.md 12))
  else if op = 0x32 then 2 + b2n (i.md 11)
  else if op = 0x33 then 3
  else if op = 0x3D then b2n (i.md 10)
  else if op = 0x40 then 2
  else if op = 0x41 then 1
  else if op = 0x48 ∨ op = 0x4A then b2n (i.md 11)
  else if op = 0x49 then b2n (i.md 10)
  else if op = 0x80 then b2n (i.md 11)
  else 0

/-- The bits of a base word that an opcode's layout gives a meaning, above OP and XW (Tables 4-5 to 4-19). -/
def baseMask (i : Iw) : Nat :=
  let op := i.op
  let f (hi lo : Nat) : Nat := 2 ^ (hi + 1) - 2 ^ lo
  if op = 0x08 then f 20 16 + f 63 32
  else if op = 0x09 ∨ op = 0x0A then f 10 10 + f 25 16 + f 63 32
  else if op = 0x17 then f 10 10 + f 25 21 + (if i.md 10 then f 63 32 else f 30 26)
  else if 0x10 ≤ op ∧ op ≤ 0x16 then
    f 10 10 + f 12 12 + (if op = 0x16 then f 11 11 else 0) + f 25 16 + (if i.md 10 then f 63 32 else f 30 26)
  else if op = 0x20 ∨ op = 0x22 then f 63 32
  else if op = 0x21 then f 19 16 + f 63 32
  else if op = 0x24 then f 24 20 + f 63 32
  else if op = 0x30 ∨ op = 0x31 then f 13 10 + (if i.md 13 then f 23 16 + (if i.md 11 then f 27 24 else 0) else 0)
  else if op = 0x32 then f 12 10
  else if op = 0x33 then f 10 10
  else if op = 0x34 then f 10 10 + f 47 16
  else if op = 0x38 then f 12 10 + f 43 16
  else if op = 0x39 then f 10 10 + f 31 16 + f 55 32
  else if op = 0x3A then f 27 16
  else if op = 0x3C then f 18 16 + f 63 32
  else if op = 0x3D then f 10 10 + (if i.md 10 then f 31 16 else 0)
  else if op = 0x40 then f 13 10 + f 27 16
  else if op = 0x41 then f 11 10 + f 47 16 + (if i.md 10 then f 50 48 else 0)
  else if op = 0x48 then f 11 10 + f 18 16 + f 43 32
  else if op = 0x49 then f 10 10 + (if i.md 10 then 0 else f 47 16)
  else if op = 0x4A then f 11 11 + f 21 16 + f 36 32
  else if op = 0x4B then f 10 10 + f 23 16
  else if op = 0x50 then f 18 16
  else if op = 0x58 then f 10 10 + f 20 16 + f 31 24
  else if op = 0x80 then f 11 10 + f 20 16 + (if i.md 11 then 0 else f 27 24)
  else if op = 0x81 then f 10 10 + f 20 16 + (if i.md 10 then 0 else f 25 21) + f 30 28
  else if op = 0x82 then f 10 10 + f 20 16 + f 27 24 + f 30 28
  else if op = 0x83 then f 20 16 + f 30 28
  else if op = 0x84 then f 11 10 + f 23 16
  else if op = 0x85 then f 20 16
  else if op = 0x86 then f 20 16 + f 27 24
  else 0

/-- The extension-word bits that an opcode's layout gives a meaning. -/
def extMask (i : Iw) : Nat × Nat × Nat :=
  let op := i.op
  let all := 2 ^ 64 - 1
  let low := 2 ^ 32 - 1
  let high := all - low
  if op = 0x30 ∨ op = 0x31 then
    if i.md 13 then (high, 0, 0)
    else (all, (if i.md 11 then low else 0) + (if i.md 12 then high else 0), 0)
  else if op = 0x32 then (all, low + (if i.md 12 then high else 0), low)
  else if op = 0x33 then (all, all, all)
  else if op = 0x3D then (all, 0, 0)
  else if op = 0x40 then (all, (if i.md 13 then 0 else low) + (if i.md 12 then high else 0), 0)
  else if op = 0x41 then (2 ^ 48 - 1, 0, 0)
  else if op = 0x48 ∨ op = 0x4A then (low, 0, 0)
  else if op = 0x49 then (all, 0, 0)
  else if op = 0x80 then (low, 0, 0)
  else (0, 0, 0)

/-- XW is as required and no reserved bit is 1; NOP accepts anything (R96). -/
def layoutOk (i : Iw) : Bool :=
  i.op = 0x00 ||
  (i.xw = needXw i &&
    (i.base / 1024 * 1024) &&& (2 ^ 64 - 1 - baseMask i) = 0 &&
    i.w1 &&& (2 ^ 64 - 1 - (extMask i).1) = 0 &&
    i.w2 &&& (2 ^ 64 - 1 - (extMask i).2.1) = 0 &&
    i.w3 &&& (2 ^ 64 - 1 - (extMask i).2.2) = 0)

/-- The instruction a beam sequencer issues at `pc`, or the fault it raises before any effect (R96, R98, R99). -/
def beamFetch (m : Sparse Byte) (pc : Nat) : Except Nat Iw :=
  if progEnd ≤ pc then .error Pf.pcRange
  else
    let op := bits (progWord m pc) 7 0
    if controlOp op then .error Pf.cls
    else if !beamOp op then .error Pf.illegalInstr
    else if op = 0x00 then fetchIw m pc
    else match fetchIw m pc with
      | .error e => .error e
      | .ok i => if layoutOk i then .ok i else .error Pf.illegalInstr

/-! ## The level and its ramp (R139, R196) -/

/-- L(j) of R196. -/
def rampLevel (l0 target time j : Nat) : Nat :=
  if time ≤ j then target
  else ((l0 : Int) + (((target : Int) - l0) * (2 * j) + time) / (2 * time)).toNat

/-- The steps of a ramp produced before slot `x`. -/
def Ramp.steps (r : Ramp) (x : Nat) : Nat := if r.running then r.done + (x - r.since) else r.done

/-- The level that slot `x` carries under an attribute record. -/
def Attr.levelAt (a : Attr) (x : Nat) : Nat :=
  if a.ramp.time = 0 then a.level else rampLevel a.ramp.l0 a.ramp.target a.ramp.time (a.ramp.steps (x + 1))

/-- The present level of the program: that of the last slot produced while a ramp runs (R109, R196). -/
def Seq.level (q : Seq) : Nat :=
  let r := q.arch.ramp
  if r.time = 0 then q.arch.level
  else if r.steps q.cursor = 0 then r.l0 else rampLevel r.l0 r.target r.time (r.steps q.cursor)

/-- The attributes take effect from the slot at the cursor (R89, R109). -/
def Seq.mark (q : Seq) : Seq :=
  let a : Attr := ⟨q.cursor, q.arch.level, q.arch.mask, q.arch.region, q.shape.curves, q.arch.ramp⟩
  { q with attrs := a :: q.attrs.filter fun b => decide (b.since < q.cursor) }

/-- PWR with the level applied: a running ramp stops (R89, R109). -/
def Seq.setLevel (q : Seq) (v : Nat) : Seq :=
  { q with arch := { q.arch with level := v, ramp := Ramp.none } }.mark

/-! ## Register operands (Table 4-1) -/

/-- The tick in which an instruction issues now: that of the slot before the cursor (R124). During a Switchback the program goes on in
the tick under way (R152). -/
def Seq.issueTick (q : Seq) : Nat :=
  if q.act = .swbStop ∨ q.act = .swbWait then q.nextTick else (q.cursor - 1) / 1250

/-- FLAGS: bits [4:0] = T, W, C, N, Z (Table 4-1). -/
def Arch.flags (a : Arch) : Nat := b2n a.fz + 2 * b2n a.fn + 4 * b2n a.fc + 8 * b2n a.fw + 16 * b2n a.ft

/-- The value of a register code, or ILLEGAL_REG for a reserved one (R88). -/
def Seq.reg (q : Seq) (code : Nat) : Except Nat Word :=
  if code < 16 then .ok (q.arch.g.getD code 0)
  else match code with
    | 16 => .ok (wordOf q.arch.px)
    | 17 => .ok (wordOf q.arch.py)
    | 18 => .ok (wordOf q.arch.pz)
    | 19 => .ok (BitVec.ofNat 32 q.arch.speed)
    | 20 => .ok (BitVec.ofNat 32 q.arch.jspeed)
    | 21 => .ok (BitVec.ofNat 32 q.level)
    | 22 => .ok (BitVec.ofNat 32 q.arch.mask)
    | 23 => .ok (BitVec.ofNat 32 q.arch.region)
    | 24 => .ok (BitVec.ofNat 32 q.arch.flags)
    | 25 => .ok (BitVec.ofNat 32 (q.issueTick - q.tick0))
    | 26 => .ok (BitVec.ofNat 32 q.arch.tile)
    | 27 => .ok (BitVec.ofNat 32 q.arch.vidx)
    | _ => .error Pf.illegalReg

/-- The sequencer with a register code written, or the fault that the write raises (R88, R89). -/
def Seq.setReg (q : Seq) (code : Nat) (v : Word) : Except Nat Seq :=
  if code < 16 then .ok { q with arch := { q.arch with g := q.arch.g.set code v } }
  else match code with
    | 19 => .ok { q with arch := { q.arch with speed := v.toNat } }
    | 20 => .ok { q with arch := { q.arch with jspeed := v.toNat } }
    | 21 => if 65535 < v.toNat then .error Pf.badOperand else .ok (q.setLevel v.toNat)
    | 22 => if 255 < v.toNat then .error Pf.badOperand
            else .ok { q with arch := { q.arch with mask := v.toNat } }.mark
    | 23 => if 15 < v.toNat then .error Pf.badOperand
            else .ok { q with arch := { q.arch with region := v.toNat } }.mark
    | _ => .error Pf.illegalReg

def Seq.pcAdd (q : Seq) (n : Nat) : Seq := { q with arch := { q.arch with pc := q.arch.pc + n } }

/-- A branch to pc + offset, or PC_RANGE outside the program windows (R98, R103). -/
def Seq.branch (q : Seq) (off : Int) : Except Nat Seq :=
  let t := (q.arch.pc : Int) + off
  if t < 0 ∨ (progEnd : Int) ≤ t then .error Pf.pcRange
  else .ok { q with arch := { q.arch with pc := t.toNat } }

end Sys2Proof.Machine
end

