-- ==== Sys2Proof/Machine/Beam.lean ====
section
/-! DEFINITION. What the beam instructions do to one sequencer: cost-0 instructions, the lookahead of R132 and R137, and the
plan of motions, delays and skywriting (R100 to R114, R124 to R145). Everything here is a function of one sequencer and
the memory it reads. -/

namespace Sys2Proof.Machine

/-! ## Cost-0 instructions that change only the sequencer -/

/-- The second operand of a register-format instruction (Table 4-6). -/
def Seq.opB (q : Seq) (i : Iw) : Except Nat Word :=
  if i.md 10 then .ok (BitVec.ofNat 32 i.hi) else q.reg i.gb

/-- ADD to SHR: the destination, and the flags unless NF (R92, R101). -/
def Seq.aluOp (q : Seq) (i : Iw) : Except Nat Seq := do
  let a ← q.reg i.ga
  let b ← q.opB i
  let r := alu i.op (i.md 11) q.arch.fc a b
  let q ← q.setReg i.gd r.val
  let q := if i.md 12 then q else { q with arch := { q.arch with fz := r.z, fn := r.n, fc := r.c } }
  .ok (q.pcAdd 1)

def Seq.cmpOp (q : Seq) (i : Iw) : Except Nat Seq := do
  let a ← q.reg i.ga
  let b ← q.opB i
  let r := aluCmp a b
  .ok ({ q with arch := { q.arch with fz := r.z, fn := r.n, fc := r.c } }.pcAdd 1)

/-- The word address of LD and ST: GA + OFFSET modulo 2³²; only g0 to g15 may be GA (R102). -/
def Seq.memAddr (q : Seq) (i : Iw) : Except Nat Nat :=
  if 16 ≤ i.ga then .error Pf.illegalReg
  else .ok (((q.arch.g.getD i.ga 0) + BitVec.ofNat 32 i.hi).toNat)

/-- LD (R102). The register codes are judged before the address (log entry 21). -/
def Seq.ldOp (m : Sparse Byte) (q : Seq) (i : Iw) : Except Nat Seq := do
  let a ← q.memAddr i
  let _ ← q.setReg i.gd 0
  if (if i.md 10 then 8388607 else 255) < a then .error Pf.memRange
  else
    let v : Word := if i.md 10 then BitVec.ofNat 32 (leNat (readBytes m (4 * a) 4)) else sget (fun _ => 0) a q.arch.scratch
    .ok ((← q.setReg i.gd v).pcAdd 1)

/-- ST (R102). -/
def Seq.stOp (q : Seq) (i : Iw) : Except Nat Seq := do
  let a ← q.memAddr i
  let v ← q.reg i.gd
  if i.md 10 || 255 < a then .error Pf.memRange
  else .ok ({ q with arch := { q.arch with scratch := sput (fun _ => 0) a v q.arch.scratch } }.pcAdd 1)

def Seq.brcOp (q : Seq) (i : Iw) : Except Nat Seq :=
  let cond := bits i.base 19 16
  if 13 ≤ cond then .error Pf.illegalInstr
  else if condHolds cond q.arch.fz q.arch.fn q.arch.fc q.arch.fw q.arch.ft then q.branch (sgn 32 i.hi)
  else .ok (q.pcAdd 1)

def Seq.calOp (q : Seq) (i : Iw) : Except Nat Seq := do
  if 8 ≤ q.arch.stack.length then .error Pf.stack
  else
    let r := q.arch.pc + 1
    let q ← q.branch (sgn 32 i.hi)
    .ok { q with arch := { q.arch with stack := r :: q.arch.stack } }

def Seq.retOp (q : Seq) : Except Nat Seq :=
  match q.arch.stack with
  | [] => .error Pf.stack
  | r :: t => .ok { q with arch := { q.arch with pc := r, stack := t } }

def Seq.lopOp (q : Seq) (i : Iw) : Except Nat Seq := do
  let gc := bits i.base 24 20
  if 16 ≤ gc then .error Pf.illegalReg
  else
    let v := q.arch.g.getD gc 0
    if v = 0 then .ok (q.pcAdd 1)
    else if v = 1 then .ok ((← q.setReg gc 0).pcAdd 1)
    else (← q.setReg gc (v - 1)).branch (sgn 32 i.hi)

/-- PWR: the fields that its MOD bits select (R109). -/
def Seq.pwrOp (q : Seq) (i : Iw) : Except Nat Seq :=
  let q := if i.md 11 then { q with arch := { q.arch with mask := bits i.base 39 32 } } else q
  let q := if i.md 12 then { q with arch := { q.arch with region := bits i.base 43 40 } } else q
  let q := if i.md 10 then q.setLevel (bits i.base 31 16) else if i.md 11 || i.md 12 then q.mark else q
  .ok (q.pcAdd 1)

/-- RMP without WAIT, and the start of RMP with WAIT: the ramp runs from the present level (R110). -/
def Seq.rmpOp (q : Seq) (i : Iw) : Seq :=
  let target := bits i.base 31 16
  let time := bits i.base 55 32
  if time = 0 then (q.setLevel target).pcAdd 1
  else
    let l := q.level
    ({ q with arch := { q.arch with level := l, ramp := ⟨true, l, target, time, 0, q.cursor⟩ } }.mark).pcAdd 1

/-- CRV: curve CURVE for the beamlets in CMASK (R111); `has` tells whether the live curve table holds a curve. -/
def Seq.crvOp (has : Nat → Bool) (q : Seq) (i : Iw) : Except Nat Seq :=
  let c := bits i.base 19 16
  let cm := bits i.base 27 20
  if cm = 0 then .ok (q.pcAdd 1)
  else if !has c then .error Pf.badOperand
  else
    let cv := (List.range 8).foldl (fun v b =>
      if bit cm b then v - v / 2 ^ (4 * b) % 16 * 2 ^ (4 * b) + c * 2 ^ (4 * b) else v) q.shape.curves
    .ok (({ q with shape := { q.shape with curves := cv } }.mark).pcAdd 1)

def Seq.dlyOp (q : Seq) (i : Iw) : Except Nat Seq :=
  let k := bits i.base 18 16
  let v := sgn 32 i.hi
  if 5 ≤ k then .error Pf.illegalInstr
  else if 2 ≤ k ∧ v < 0 then .error Pf.badOperand
  else .ok ({ q with arch := { q.arch with delays := q.arch.delays.set k v } }.pcAdd 1)

def Seq.skyOp (q : Seq) (i : Iw) : Seq :=
  if i.md 10 then
    let sh : Shape :=
      { q.shape with skyOn := true, skyLimit := bits i.base 31 16, runIn := bits i.w1 31 0, runOut := bits i.w1 63 32 }
    { q with shape := sh }.pcAdd 2
  else { q with shape := { q.shape with skyOn := false } }.pcAdd 1

/-- The instructions of cost 0 that change only the sequencer: none for every other opcode. -/
def Seq.exec0 (m : Sparse Byte) (has : Nat → Bool) (q : Seq) (i : Iw) : Option (Except Nat Seq) :=
  let op := i.op
  if op = 0x00 then some (.ok (q.pcAdd i.len))
  else if op = 0x08 then some ((q.setReg i.gd (BitVec.ofNat 32 i.hi)).map fun x => x.pcAdd 1)
  else if op = 0x09 then some (q.ldOp m i)
  else if op = 0x0A then some (q.stOp i)
  else if op = 0x17 then some (q.cmpOp i)
  else if 0x10 ≤ op ∧ op ≤ 0x16 then some (q.aluOp i)
  else if op = 0x20 then some (q.branch (sgn 32 i.hi))
  else if op = 0x21 then some (q.brcOp i)
  else if op = 0x22 then some (q.calOp i)
  else if op = 0x23 then some q.retOp
  else if op = 0x24 then some (q.lopOp i)
  else if op = 0x38 then some (q.pwrOp i)
  else if op = 0x39 ∧ !i.md 10 then some (.ok (q.rmpOp i))
  else if op = 0x3A then some (q.crvOp has i)
  else if op = 0x3C then some (q.dlyOp i)
  else if op = 0x3D then some (.ok (q.skyOp i))
  else none

/-! ## Vectors -/

/-- A vector about to be run: start and end point, length, speed, the tangents at both ends, and the path for n ticks. -/
structure Vec where
  p0 : Pt
  p1 : Pt
  len : Nat
  v : Nat
  inX : Int
  inY : Int
  outX : Int
  outY : Int
  shape : Nat                        -- 0 line, 1 arc, 2 cubic
  a : Pt                             -- arc: centre x, y and sweep in z; cubic: P1
  b : Pt                             -- cubic: P2
  deriving DecidableEq, Repr

/-- The path of a vector over n ticks at constant speed (R127 to R129). -/
def Vec.path (w : Vec) (n : Nat) : Path :=
  if w.shape = 1 then .arc w.p0 w.a.x w.a.y w.a.z w.p1.z n
  else if w.shape = 2 then .cubic w.p0 w.a w.b w.p1 n
  else .line w.p0 w.p1 (.uniform n)

def Seq.point (q : Seq) : Pt := ⟨q.arch.px, q.arch.py, q.arch.pz⟩

/-- The straight vector between two points; a move in Z only has length |ΔZ| (R127). -/
def lineVec (a b : Pt) (v : Nat) : Vec :=
  let dx := b.x - a.x
  let dy := b.y - a.y
  let l := if dx = 0 ∧ dy = 0 then (b.z - a.z).natAbs else hyp dx dy
  ⟨a, b, l, v, dx, dy, dx, dy, 0, a, a⟩

/-- The target and speed of JMP, MRK in either form, and of BRS pass 1 (R104, R113); FIELD_RANGE on an overflow (R105). -/
def Seq.target (q : Seq) (i : Iw) (v0 : Nat) : Except Nat (Pt × Nat) :=
  let p := q.point
  let rel (b o : Int) : Int := if i.md 10 then b + o else o
  let brs := i.op = 0x40
  let rg := !brs && i.md 13
  let zp := !brs && i.md 11
  let greg (k : Nat) : Int := (q.arch.g.getD k 0).toInt
  let x := rel p.x (if rg then greg (bits i.base 19 16) else lo32 i.w1)
  let y := rel p.y (if rg then greg (bits i.base 23 20) else hi32 i.w1)
  let z := if zp then rel p.z (if rg then greg (bits i.base 27 24) else lo32 i.w2) else p.z
  let v := if i.md 12 then bits (if rg then i.w1 else i.w2) 63 32 else v0
  if fits32 x && fits32 y && fits32 z then .ok (⟨x, y, z⟩, v) else .error Pf.fieldRange

/-- Whether the sector swept from vector v by `sweep` (2⁻²⁴ turn) holds the direction e (Table 4-11). -/
def sweeps (vx vy sweep ex ey : Int) : Bool :=
  let s := sweep.natAbs
  if 2 ^ 24 ≤ s then true
  else
    -- mirrored for a negative sweep, so that the turn is always from +X towards +Y
    let (wx, wy, fx, fy) := if sweep < 0 then (vx, -vy, ex, -ey) else (vx, vy, ex, ey)
    let (tx, ty) := turned wx wy (s : Int) 1 1
    let cr (ax ay bx by_ : Int) : Int := ax * by_ - ay * bx
    if s ≤ 2 ^ 23 then decide (0 ≤ cr wx wy fx fy) && decide (0 ≤ cr fx fy tx ty)
    else !(decide (0 < cr tx ty fx fy) && decide (0 < cr fx fy wx wy))

/-- The bounds of a tile. -/
structure Bounds where
  x0 : Int
  y0 : Int
  x1 : Int
  y1 : Int
  deriving DecidableEq, Repr

def Bounds.has (b : Bounds) (p : Pt) : Bool :=
  decide (b.x0 ≤ p.x) && decide (p.x ≤ b.x1) && decide (b.y0 ≤ p.y) && decide (p.y ≤ b.y1)

/-- The end point of an ARC (R106). -/
def arcEnd (p : Pt) (cx cy sweep z1 : Int) : Pt :=
  let (vx, vy) := turned (p.x - cx) (p.y - cy) sweep 1 1
  ⟨rdivAway (cx * 2 ^ 60 + vx) (2 ^ 60), rdivAway (cy * 2 ^ 60 + vy) (2 ^ 60), z1⟩

/-- The vector of an ARC (R106). -/
def Seq.arcVec (q : Seq) (b : Bounds) (i : Iw) : Except Nat Vec := do
  let p := q.point
  let cx := if i.md 10 then p.x + lo32 i.w1 else lo32 i.w1
  let cy := if i.md 10 then p.y + hi32 i.w1 else hi32 i.w1
  let sweep := lo32 i.w2
  let v := if i.md 12 then bits i.w2 63 32 else q.arch.speed
  let z1 := if i.md 11 then lo32 i.w3 else p.z
  if !(fits32 cx && fits32 cy) then .error Pf.fieldRange
  else if sweep = 0 then .ok ⟨p, p, 0, v, 0, 0, 0, 0, 1, ⟨cx, cy, 0⟩, p⟩
  else
    let dx := p.x - cx
    let dy := p.y - cy
    if dx = 0 ∧ dy = 0 then .error Pf.geometry
    else
      let e := arcEnd p cx cy sweep z1
      let r : Int := hyp dx dy
      let sg : Int := if sweep < 0 then -1 else 1
      let (ox, oy) := turned dx dy sweep 1 1
      let ext := [(1, 0), (0, 1), (-1, 0), (0, -1)].all fun (ex, ey) =>
        !sweeps dx dy sweep ex ey || b.has ⟨cx + ex * r, cy + ey * r, p.z⟩ ||
          b.has ⟨if ex = 0 then b.x0 else cx + ex * r, if ey = 0 then b.y0 else cy + ey * r, p.z⟩
      if b.has e && ext then
        .ok ⟨p, e, arcLen dx dy sweep, v, -dy * sg, dx * sg, rdiv (-oy * sg) (2 ^ 30), rdiv (ox * sg) (2 ^ 30), 1,
          ⟨cx, cy, sweep⟩, p⟩
      else .error Pf.fieldRange

/-- The first of the differences that is not zero, as a tangent. -/
def firstDir (ds : List (Int × Int)) : Int × Int := (ds.find? fun d => d.1 ≠ 0 || d.2 ≠ 0).getD (0, 0)

/-- The vector of a CUB (R107). Its intermediate points are checked at the 65 points of the polyline (log entry 15). -/
def Seq.cubVec (q : Seq) (b : Bounds) (i : Iw) : Except Nat Vec :=
  let p := q.point
  let pt (w : Nat) : Pt := if i.md 10 then ⟨p.x + lo32 w, p.y + hi32 w, p.z⟩ else ⟨lo32 w, hi32 w, p.z⟩
  let a := pt i.w1
  let c := pt i.w2
  let e := pt i.w3
  let bad (u : Pt) : Bool := !(fits32 u.x && fits32 u.y)
  if bad a || bad c || bad e then .error Pf.fieldRange
  else
    let ok := (List.range 65).all fun k =>
      b.has ⟨rdivAway (bez64 p.x a.x c.x e.x k) 262144, rdivAway (bez64 p.y a.y c.y e.y k) 262144, p.z⟩
    if !ok then .error Pf.fieldRange
    else
      let u := firstDir [(a.x - p.x, a.y - p.y), (c.x - p.x, c.y - p.y), (e.x - p.x, e.y - p.y)]
      let w := firstDir [(e.x - c.x, e.y - c.y), (e.x - a.x, e.y - a.y), (e.x - p.x, e.y - p.y)]
      .ok ⟨p, e, bezLen p a c e, q.arch.speed, u.1, u.2, w.1, w.2, 2, a, c⟩

/-- The vector of MRK. -/
def Seq.mrkVec (q : Seq) (b : Bounds) (i : Iw) : Except Nat Vec := do
  let (t, v) ← q.target i q.arch.speed
  if b.has t then .ok (lineVec q.point t v) else .error Pf.fieldRange

/-- The first vector of a firing motion, or the fault it raises before it starts; none for an opcode that is no firing
motion. DWL with EM has no vector. -/
def Seq.firingVec (q : Seq) (b : Bounds) (i : Iw) : Option (Except Nat Vec) :=
  if i.op = 0x31 then some (q.mrkVec b i)
  else if i.op = 0x32 then some (q.arcVec b i)
  else if i.op = 0x33 then some (q.cubVec b i)
  else if i.op = 0x40 ∧ bits i.base 19 16 ≠ 0 then some (q.mrkVec b i)
  else none

/-! ## Lookahead (R132, R137) -/

/-- What the next timed instruction is. -/
inductive Ahead where
  | fires (v : Option Vec)           -- a firing motion with its first vector, or a DWL with EM
  | ends                             -- anything that ends a run, or a place where the lookahead stops
  | faults                           -- an instruction that faults or halts: the run stops there by itself (R157)
  deriving DecidableEq, Repr

/-- A timed instruction that takes no slot and has no effect (R108, R113, R114, R116, R117). -/
def Iw.void (i : Iw) : Bool :=
  (i.op = 0x34 && bits i.base 47 16 = 0) || (i.op = 0x40 && bits i.base 19 16 = 0) || (i.op = 0x41 && bits i.base 47 32 = 0) ||
    (i.op = 0x49 && !i.md 10 && bits i.base 47 16 = 0) || (i.op = 0x4A && decide (bits i.base 36 32 ≤ 1))

/-- The next timed instruction, cost-0 instructions evaluated on the way, within a word budget. With `strict`, only the
unconditional flow of R137 is followed. -/
def Seq.ahead (m : Sparse Byte) (has : Nat → Bool) (b : Bounds) (strict : Bool) : Nat → Nat → Seq → Ahead
  | 0, _, _ => .ends
  | k + 1, budget, q =>
    match beamFetch m q.arch.pc with
    | .error _ => .faults
    | .ok i =>
      if budget < i.len then .ends
      else if i.op = 0x34 ∧ i.md 10 ∧ bits i.base 47 16 ≠ 0 then .fires none
      else if i.op = 0x39 ∧ i.md 10 ∧ bits i.base 55 32 ≠ 0 then .fires none
      else match q.firingVec b i with
        | some (.ok w) =>
          if w.len = 0 ∧ w.p0 = w.p1 then
            let q := if (i.op = 0x31 ∨ i.op = 0x32) ∧ i.md 12 then { q with arch := { q.arch with speed := w.v } } else q
            Seq.ahead m has b strict k (budget - i.len) (q.pcAdd i.len)
          else .fires (some w)
        | some (.error _) => .faults
        | none =>
          if strict ∧ (i.op = 0x23 ∨ i.op = 0x24 ∨ (i.op = 0x21 ∧ bits i.base 19 16 ≠ 0)) then .ends
          else if i.op = 0x01 then .faults
          else if i.op = 0x39 ∧ i.md 10 then Seq.ahead m has b strict k (budget - i.len) (q.rmpOp i)
          else if i.op = 0x4B ∨ i.op = 0x58 ∨ i.void then
            Seq.ahead m has b strict k (budget - i.len) (q.pcAdd i.len)
          else match q.exec0 m has i with
            | some (.ok q') => Seq.ahead m has b strict k (budget - i.len) q'
            | some (.error _) => .faults
            | none => .ends

/-! ## Building the plan -/

def Seq.delay (q : Seq) (k : Nat) : Int := q.arch.delays.getD k 0

/-- The first tick boundary at or after slot `x`. -/
def boundary (x : Nat) : Nat := cdiv x 1250 * 1250

/-- A span of `len` slots from the cursor. -/
def Seq.span (q : Seq) (len : Nat) (path : Path) (kind : SpanKind) (fire : Bool) (vlen vticks : Nat) : Seq :=
  if len = 0 then q
  else
    { q with
      spans := q.spans ++ [⟨q.cursor, len, path, 0, kind, fire, q.openAt, 2 ^ 80, q.arch.vidx, vlen, vticks, q.arch.pc, q.tv⟩]
      cursor := q.cursor + len }

/-- A hold at the present point. -/
def Seq.holdFor (q : Seq) (len : Nat) (kind : SpanKind) (fire : Bool) : Seq := q.span len (.hold q.pos) kind fire 0 0

/-- Fill slots up to the next tick boundary (R125). -/
def Seq.fill (q : Seq) (fire : Bool) : Seq := q.holdFor (boundary q.cursor - q.cursor) .fill fire

/-- A path of n ticks from the next tick boundary. -/
def Seq.drive (q : Seq) (n : Nat) (path : Path) (kind : SpanKind) (fire : Bool) (vlen : Nat) (e : Pt) : Seq :=
  { q.span (1250 * n) path kind fire vlen n with pos := e }

/-- A jump from the actual position at JSPEED with the head's profile (R131): `prof` holds EN and ACC. -/
def Seq.jump (q : Seq) (prof : Bool × Nat) (e : Pt) (kind : SpanKind) : Except Nat Seq :=
  let w := lineVec q.pos e q.arch.jspeed
  if w.len = 0 ∧ w.p0 = w.p1 then .ok q
  else if w.len ≠ 0 ∧ q.arch.jspeed = 0 then .error Pf.speedZero
  else
    let n := jumpTicks prof.1 prof.2 w.len q.arch.jspeed
    let pace := if prof.1 then Pace.trapezoid q.arch.jspeed prof.2 w.len n else .uniform n
    .ok ({ q.fill false with tv := q.arch.jspeed }.drive n (.line q.pos e pace) kind false w.len e)

/-- The gate of every span from index `k` on closes at slot `c`. -/
def Seq.closeFrom (q : Seq) (k c : Nat) : Seq :=
  { q with spans := q.spans.take k ++ (q.spans.drop k).map fun x => { x with closeAt := min x.closeAt c } }

/-- What a vector needs besides the sequencer: the memory, the curve table, the tile bounds, the head's jump profile. -/
structure Env where
  mem : Sparse Byte
  has : Nat → Bool
  bounds : Bounds
  prof : Bool × Nat

/-- The run-end after a firing motion whose last slot is before `e`: the gate closes at E + LOFF, and the hold of max(MARK, LOFF,
0) or the run-out of skywriting follows (R134, Table 5-2). `first` is the first slot not yet produced at the issue,
`k` the number of spans before the motion. The count is 1 where the delay was clamped. -/
def Seq.runEnd (q : Seq) (env : Env) (k first : Nat) : Except Nat (Seq × Nat) :=
  let e := q.cursor
  let loff := q.delay 1
  let mark := q.delay 3
  let close := if 0 ≤ loff then e + loff.toNat else max first (e - (-loff).toNat)
  let clamped := loff < 0 && decide ((e : Int) + loff < first)
  if q.shape.skyOn then
    let u := along q.pos q.tdx q.tdy q.shape.runOut
    if q.shape.runOut = 0 ∨ q.tv = 0 ∨ (q.tdx = 0 ∧ q.tdy = 0) then
      .ok (({ q with inRun := false, tv := 0 }).closeFrom k close, b2n clamped)
    else if !env.bounds.has u then .error Pf.fieldRange
    else
      let n := ticksOf q.shape.runOut q.tv
      let q := (q.fill true).drive n (.line q.pos u (.uniform n)) .manoeuvre true 0 u
      .ok (({ q with inRun := false, tv := 0 }).closeFrom k close, b2n clamped)
  else
    let h := (max mark (max loff 0)).toNat
    let q := q.holdFor h .hold true
    .ok (({ q with inRun := false, tv := 0 }).closeFrom k close, b2n clamped)

/-- The start of a run whose first slot is `B` = the cursor: the gate opens at B + LON (R133). A negative LON opens the
gate in the hold, fill and run-in slots before B, from span `k` on. -/
def Seq.runStart (q : Seq) (k : Nat) : Seq × Nat :=
  let lon : Int := q.delay 0
  let b := q.cursor
  if 0 ≤ lon then ({ q with openAt := b + lon.toNat, inRun := true }, 0)
  else
    let want := b - (-lon).toNat
    let pre := q.spans.drop k
    let ok (x : Span) : Bool := x.kind = .hold || x.kind = .fill || x.kind = .runIn
    -- the spans directly before B that hold, fill or run in
    let tail := (pre.reverse.takeWhile ok).length
    let j := q.spans.length - tail
    let first := ((q.spans.drop j).head?.map (·.start)).getD b
    let at_ := max want first
    let spans := q.spans.take j ++ (q.spans.drop j).map fun x => { x with fire := true, openAt := at_, closeAt := 2 ^ 80 }
    ({ q with spans := spans, openAt := at_, inRun := true }, b2n (decide (b < (-lon).toNat + first)))

/-- The corner inside a run before a vector, where skywriting does not apply: the polygon hold and fill slots, gates on
(R135). -/
def Seq.corner (q : Seq) (w : Vec) : Except Nat (Seq × Nat) :=
  if (q.tdx = 0 ∧ q.tdy = 0) ∨ (w.inX = 0 ∧ w.inY = 0) then .ok (q.fill true, 0)
  else
    let a := cornerAngle q.tdx q.tdy w.inX w.inY
    .ok ((q.holdFor (polyHold (q.delay 4).toNat a) .hold true).fill true, 0)

/-- The start of a run: the turn and run-in of skywriting, or fill slots (R133, R136). -/
def Seq.begin (q : Seq) (env : Env) (w : Vec) : Except Nat (Seq × Nat) :=
  if q.runInDone then
    let u := if q.shape.runIn = 0 then w.p0 else along w.p0 w.inX w.inY (-(q.shape.runIn : Int))
    if !env.bounds.has u then .error Pf.fieldRange
    else do
      let q : Seq := { (← q.jump env.prof u .manoeuvre).fill false with tv := w.v }
      let q := if q.shape.runIn = 0 then q
        else q.drive (ticksOf q.shape.runIn w.v) (.line u w.p0 (.uniform (ticksOf q.shape.runIn w.v))) .runIn false 0 w.p0
      .ok ({ q with runInDone := false }.runStart 0)
  else .ok ((q.fill false).runStart 0)

/-- Whether skywriting applies at the corner between the vector just run and the next (R136). -/
def Seq.skyCorner (q : Seq) (w : Vec) : Bool :=
  q.shape.skyOn && !(q.tdx = 0 && q.tdy = 0) && !(w.inX = 0 && w.inY = 0) &&
    decide (q.shape.skyLimit < cornerAngle q.tdx q.tdy w.inX w.inY)

def Ahead.isEnd : Ahead → Bool
  | .ends => true
  | _ => false

def Ahead.isFiring : Ahead → Bool
  | .fires _ => true
  | _ => false

/-- What follows a firing motion: 0 the run goes on, 1 it ends, 2 it ends at a skywritten corner. -/
def Seq.after (q : Seq) (a : Ahead) : Nat :=
  match a with
  | .ends => 1
  | .faults => 0
  | .fires none => 0
  | .fires (some w) => if q.skyCorner w then 2 else 0

/-- One firing vector: what precedes it, its ticks, and whether the run ends after it (R127 to R136), as
`what` tells. -/
def Seq.fireVec (q : Seq) (env : Env) (w : Vec) (what : Seq → Nat) : Except Nat (Seq × Nat) := do
  if w.len ≠ 0 ∧ w.v = 0 then .error Pf.speedZero
  else if w.len = 0 ∧ w.p0 = w.p1 then .ok (q, 0)
  else
    let k := q.spans.length
    let first := q.cursor
    let (q, c1) ← if q.inRun && !q.skyCorner w then q.corner w else q.begin env w
    let n := ticksOf w.len w.v
    let q := { q with tv := w.v }.drive n (w.path n) .motion true w.len w.p1
    let q := { q with tdx := w.outX, tdy := w.outY, tv := w.v }
    let e := what q
    if e = 0 then .ok (q, c1)
    else
      let (q, c2) ← q.runEnd env k first
      .ok ({ q with runInDone := decide (e = 2) }, c1 + c2)

def Seq.nextVidx (q : Seq) : Seq :=
  { q with arch := { q.arch with vidx := (q.arch.vidx + 1) % 2 ^ 32 } }

/-- The programmed point after a motion (R105, R138). -/
def Seq.setPoint (q : Seq) (p : Pt) : Seq := { q with arch := { q.arch with px := p.x, py := p.y, pz := p.z } }

/-- MRK, ARC and CUB (R104 to R107): the sequencer after the issue and the count of clamped delays. -/
def Seq.motionOp (q : Seq) (env : Env) (i : Iw) (w : Vec) : Except Nat (Seq × Nat) := do
  let q := q.nextVidx
  let q := if (i.op = 0x31 ∨ i.op = 0x32) ∧ i.md 12 then { q with arch := { q.arch with speed := w.v } } else q
  let after (x : Seq) : Seq := (x.setPoint w.p1).pcAdd i.len
  let (x, c) ← q.fireVec env w fun x => x.after ((after x).ahead env.mem env.has env.bounds false 4096 16384)
  .ok ({ after x with act := if x.cursor = q.cursor then .ready else .motion }, c)

/-- JMP (R104, R131, R137): at its programmed target, or at the run-in start of the firing motion that follows. -/
def Seq.jmpOp (q : Seq) (env : Env) (i : Iw) : Except Nat (Seq × Nat) := do
  let (t, v) ← q.target i q.arch.jspeed
  if !env.bounds.has t then .error Pf.fieldRange
  else do
    let zero : Bool := q.point = t
    if !zero ∧ v = 0 then .error Pf.speedZero
    else
      let q := q.nextVidx
      let q := if i.md 12 then { q with arch := { q.arch with jspeed := v } } else q
      let q := { q with inRun := false, tdx := 0, tdy := 0 }
      let x := (q.setPoint t).pcAdd i.len
      if zero then .ok (x, 0)
      else
        let used := if q.wordTick = q.issueTick then q.words else 0
        let look := if q.shape.skyOn then x.ahead env.mem env.has env.bounds true 64 (32 - used) else .ends
        let e : Option Pt := match look with
          | .fires (some w) => if x.shape.runIn = 0 then some w.p0 else some (along w.p0 w.inX w.inY (-(x.shape.runIn : Int)))
          | _ => none
        match e with
        | some p =>
          let y ← x.jump env.prof p .jump
          .ok ({ y with runInDone := true, act := if y.cursor = q.cursor then .ready else .motion }, 0)
        | none =>
          let y ← x.jump env.prof t .jump
          let h := (x.delay 2).toNat
          let lon : Int := x.delay 0
          -- a negative LON reaches back into the JUMP hold, which is produced before the firing motion issues
          let y := y.holdFor h .hold false
          let y := if lon < 0 && (y.ahead env.mem env.has env.bounds false 64 (32 - used)).isFiring then
              let k := y.spans.length - 1
              let want := boundary y.cursor - (-lon).toNat
              if h = 0 then y
              else { y with spans := y.spans.take k ++ (y.spans.drop k).map fun s =>
                { s with fire := true, openAt := max want s.start } }
            else y
          .ok ({ y with runInDone := false, act := if y.cursor = q.cursor then .ready else .motion }, 0)

/-- DWL (R108): COUNT slots from the cursor. -/
def Seq.dwlOp (q : Seq) (env : Env) (i : Iw) : Except Nat (Seq × Nat) :=
  let count := bits i.base 47 16
  if count = 0 then .ok (q.pcAdd 1, 0)
  else if i.md 10 then do
    let k := q.spans.length
    let first := q.cursor
    let (q, c1) := if q.inRun then (q, 0) else q.runStart 0
    let q := { q.holdFor count .dwell true with tdx := 0, tdy := 0 }
    let x := q.pcAdd 1
    let ends := (x.ahead env.mem env.has env.bounds false 4096 16384).isEnd
    if ends then
      let (x, c2) ← x.runEnd env k first
      .ok ({ x with act := .dwell }, c1 + c2)
    else .ok ({ x with act := .dwell }, c1)
  else
    let q := { q with inRun := false, tdx := 0, tdy := 0 }
    .ok ({ (q.holdFor count .dwell false).pcAdd 1 with act := .dwell }, 0)

/-- RMP with WAIT (R110): the head holds and fires until the ramp ends. -/
def Seq.rmpWaitOp (q : Seq) (env : Env) (i : Iw) : Except Nat (Seq × Nat) :=
  let time := bits i.base 55 32
  let q := q.rmpOp i
  if time = 0 then .ok (q, 0)
  else do
    let k := q.spans.length
    let first := q.cursor
    let (q, c1) := if q.inRun then (q, 0) else q.runStart 0
    let q := { q.holdFor time .dwell true with tdx := 0, tdy := 0 }
    let ends := (q.ahead env.mem env.has env.bounds false 4096 16384).isEnd
    if ends then
      let (q, c2) ← q.runEnd env k first
      .ok ({ q with act := .dwell }, c1 + c2)
    else .ok ({ q with act := .dwell }, c1)

/-! ## Brush passes (R113, R140 to R142) -/

/-- The feed before pass k + 1 (R113). -/
def Seq.feed (q : Seq) (i : Iw) (k : Nat) : Int :=
  if i.md 13 then (sget (fun _ => (0 : Word)) (bits i.base 27 20 + k - 1) q.arch.scratch).toInt else lo32 i.w2

/-- The sum of the first k feeds. -/
def Seq.feedSum (q : Seq) (i : Iw) : Nat → Int
  | 0 => 0
  | k + 1 => q.feedSum i k + q.feed i (k + 1)

/-- A point moved by `d` nm along the left normal of (dx, dy), rounded as R127. -/
def offsetLeft (p : Pt) (dx dy d : Int) : Pt := along p (-dy) dx d

/-- The vector of pass k (from 0) of a brush from p to e. -/
def brushVec (p e : Pt) (v : Nat) (serp : Bool) (s : Int) (k : Nat) : Vec :=
  let dx := e.x - p.x
  let dy := e.y - p.y
  let a := offsetLeft p dx dy s
  let b := offsetLeft e dx dy s
  let w := if serp && k % 2 = 1 then lineVec b a v else lineVec a b v
  { w with len := (lineVec p e v).len }

/-- The passes from k on. Every pass boundary is a run end and a run start (R141). -/
def Seq.passes (env : Env) (i : Iw) (p e : Pt) (v : Nat) (feeds : List Int) : Nat → Nat → Seq → Nat → Except Nat (Seq × Nat)
  | 0, _, q, c => .ok (q, c)
  | n + 1, k, q, c => do
    let w := brushVec p e v (i.md 11) (feeds.getD k 0) k
    let q := q.nextVidx
    let q ← if k = 0 then .ok q
      else if q.shape.skyOn then .ok { q with runInDone := true }
      else (q.jump env.prof w.p0 .manoeuvre).map fun x => x.holdFor (q.delay 2).toNat .hold false
    let (q, c') ← q.fireVec env w fun x =>
      if n = 0 then x.after (((x.setPoint w.p1).pcAdd i.len).ahead env.mem env.has env.bounds false 4096 16384)
      else 1
    Seq.passes env i p e v feeds n (k + 1) q (c + c')

/-- BRS (R113). -/
def Seq.brsOp (q : Seq) (env : Env) (i : Iw) : Except Nat (Seq × Nat) := do
  let n := bits i.base 19 16
  if n = 0 then .ok (q.pcAdd i.len, 0)
  else if i.md 13 ∧ 257 < bits i.base 27 20 + n then .error Pf.memRange
  else
    let (e, v) ← q.target i q.arch.speed
    let p := q.point
    let w := lineVec p e v
    if w.len ≠ 0 ∧ v = 0 then .error Pf.speedZero
    else
      let feeds := (List.range n).map fun k => q.feedSum i k
      let inside := (List.range n).all fun k =>
        let w := brushVec p e v (i.md 11) (feeds.getD k 0) k
        env.bounds.has w.p0 && env.bounds.has w.p1 && fits32 w.p0.x && fits32 w.p0.y && fits32 w.p1.x && fits32 w.p1.y
      if !inside then .error Pf.fieldRange
      else
        let q := if i.md 12 then { q with arch := { q.arch with speed := v } } else q
        let (q, c) ← Seq.passes env i p e v feeds n 0 q 0
        let z := brushVec p e v (i.md 11) (feeds.getD (n - 1) 0) (n - 1)
        .ok ({ (q.setPoint z.p1).pcAdd i.len with act := .motion }, c)

end Sys2Proof.Machine
end

