-- ==== Sys2Proof/Machine/Cairn.lean ====
section
/-! DEFINITION. Making Cairn records (R398 to R404), the quality-record ring (R414), and the SBC block decoder (R409
to R413): the operations that other blocks share. -/

namespace Sys2Proof.Machine

/-! ## Cairn records -/

/-- Records of P kinds that wait for a permanent slot. -/
def permWaiting (r : Rec) : Nat := (r.staging.filter fun c => c.perm && !c.permDone).length

/-- REC_WAIT and REC_STAT.FLUSHING follow the staging area (R404). -/
def State.recSync (s : State) : State :=
  let n := s.recd.staging.length
  (s.wr R.REC_WAIT (BitVec.ofNat 32 n)).setFld R.REC_STAT F.REC_STAT_FLUSHING (if n = 0 then 0 else 1)

/-- A record enters staging with the next SEQ (R400, R401, R404). -/
def State.stage (s : State) (src code : Nat) (p pfl : Bool) (time : Nat) (payload : List Byte) : State :=
  let r := s.recd
  let n := (s.rd R.REC_SEQ).toNat
  let perm := p && decide ((s.rd R.REC_PCOUNT).toNat + permWaiting r < 4096)
  let c : Cairn :=
    { perm := perm, lost := r.lostNext, pfl := pfl, src := src, code := code, seq := n, time := time,
      optime := (s.rd R.REC_OPTIME).toNat, pcyc := (s.rd R.REC_PCYC).toNat, payload := payload, permDone := false }
  let s := { s with recd := { r with staging := r.staging ++ [c], lostNext := false } }
  let s := if p && !perm then s.setFld R.REC_STAT F.REC_STAT_PFULL 1 else s
  (s.wr R.REC_SEQ (BitVec.ofNat 32 (n + 1))).recSync

/-- A record that cannot be kept still consumes its SEQ (R404). -/
def State.dropRecord (s : State) (p counted : Bool) : State :=
  let n := (s.rd R.REC_SEQ).toNat
  let s := s.wr R.REC_SEQ (BitVec.ofNat 32 (n + 1))
  if counted then
    let r := s.recd
    let s := { s with recd := { r with lostNext := true, dropC := r.dropC + b2n (!p), dropP := r.dropP + b2n p } }
    (s.inc (if p then R.REC_PDROP else R.REC_DROP) 1).setFld R.REC_STAT F.REC_STAT_LOST 1
  else s

/-- Whether staging has room for a record: 256 of its 3072 slots are kept for P kinds (R404). -/
def hasRoom (r : Rec) (p : Bool) : Bool := decide (r.staging.length < if p then 3072 else 2816)

/-- A Cairn record is made (R398, R404). `always` marks the two records of Table 15-3, which are kept after PFAIL_N. -/
def State.cairnAt (s : State) (src code : Nat) (p always : Bool) (time : Nat) (payload : List Byte) : State :=
  if s.recd.powerFail && !always then s.dropRecord p false
  else if hasRoom s.recd p then
    let lost := s.recd.lostNext
    let s := s.stage src code p s.recd.powerFail time payload
    if lost && hasRoom s.recd false then
      let dc := s.recd.dropC
      let dp := s.recd.dropP
      let s := { s with recd := { s.recd with dropC := 0, dropP := 0 } }
      s.stage 11 3 false s.recd.powerFail s.nowTs (leBytes dc 4 ++ leBytes dp 4)
    else s
  else s.dropRecord p true

/-- A Cairn record of the present device time. -/
def State.cairn (s : State) (src code : Nat) (p : Bool) (payload : List Byte) : State :=
  s.cairnAt src code p false s.nowTs payload

/-- LEN of a record with this payload: a multiple of 16 from 48 to 256 (R398). -/
def cairnLen (payload : List Byte) : Nat := clampN 48 256 (cdiv (32 + payload.length + 4) 16 * 16)

/-- The 256-byte slot image of a record (Table 15-1, R407). -/
def cairnImage (c : Cairn) : List Byte :=
  let len := cairnLen c.payload
  let flags := b2n c.perm + 2 * b2n c.lost + 4 * b2n c.pfl
  let head := leBytes len 2 ++ leBytes flags 1 ++ leBytes 0 1 ++ leBytes c.src 2 ++ leBytes c.code 2 ++ leBytes c.seq 4 ++
    leBytes c.time 12 ++ leBytes c.optime 4 ++ leBytes c.pcyc 4
  let body := head ++ (c.payload ++ List.replicate 220 0).take (len - 36)
  body ++ leBytes (crc32 body) 4 ++ List.replicate (256 - len) 0

/-! ## The quality-record ring (R414) -/

/-- First DRAM byte and size in bytes of the ring. -/
def State.ring (s : State) : Nat × Nat :=
  ((s.dramRegion 4).1 + s.fld R.REC_QS_AREA F.REC_QS_AREA_OFS * 2 ^ 20, s.fld R.REC_QS_AREA F.REC_QS_AREA_SIZE * 2 ^ 20)

/-- Whether `n` bytes written at WPTR would make WPTR reach RPTR. -/
def ringBlocked (size w r n : Nat) : Bool :=
  if w = r then decide (size ≤ n)
  else decide ((r + size - w) % size ≤ n)

/-- A stored SBC block of the given data (R409). Which tokens the compressor chooses is not fixed (R412); log entry 12. -/
def sbcStored (bs : List Byte) (last : Bool) : List Byte :=
  let head := leBytes bs.length 2 ++ leBytes bs.length 2 ++ leBytes 0 1 ++ leBytes (b2n last) 1 ++ leBytes 0 2 ++
    leBytes (crc32 bs) 4
  let blk := head ++ leBytes (crc32 (head ++ bs)) 4 ++ bs
  blk ++ List.replicate (cdiv blk.length 8 * 8 - blk.length) 0

/-- Records that cannot be kept count in the counters of their sources (R414). -/
def State.dropQuality (s : State) (rs : List (Nat × List Byte)) : State := rs.foldl (fun s r => s.inc r.1 1) s

/-- The collected quality records leave the buffer as one SBC block, or are dropped when the ring is full (R414). -/
def State.flushQuality (s : State) : State :=
  let rs := s.recd.qBuf
  if rs.isEmpty then s
  else
    let s := { s with recd := { s.recd with qBuf := [] } }
    let blk := sbcStored (rs.flatMap (·.2)) false
    let (base, size) := s.ring
    let w := (s.rd R.REC_QS_WPTR).toNat
    let r := (s.rd R.REC_QS_RPTR).toNat
    if w + blk.length ≤ size then
      if ringBlocked size w r blk.length then s.dropQuality rs
      else ((s.dramPut (base + w) blk).wr R.REC_QS_WPTR (BitVec.ofNat 32 ((w + blk.length) % size))).inc R.SBC_BLKOUT 1
    else if ringBlocked size w r (size - w + blk.length) then s.dropQuality rs
    else
      let s := s.dramPut (base + w) (List.replicate (size - w) 0)
      ((s.dramPut base blk).wr R.REC_QS_WPTR (BitVec.ofNat 32 blk.length)).inc R.SBC_BLKOUT 1

/-- A 32-byte quality record is appended to the stream, or dropped and counted in `drop` (R120, R414). -/
def State.quality (s : State) (drop : Nat) (record : List Byte) : State :=
  if s.fld R.REC_QS_CFG F.REC_QS_CFG_EN = 0 then s.inc drop 1
  else if s.fld R.REC_QS_CFG F.REC_QS_CFG_SBC = 1 then
    let r := s.recd
    let since := if r.qBuf.isEmpty then s.now else r.qBufSince
    let s := { s with recd := { r with qBuf := r.qBuf ++ [(drop, record)], qBufSince := since } }
    if s.recd.qBuf.length = 128 then s.flushQuality else s
  else
    let (base, size) := s.ring
    let w := (s.rd R.REC_QS_WPTR).toNat
    if ringBlocked size w (s.rd R.REC_QS_RPTR).toNat 32 then s.inc drop 1
    else (s.dramPut (base + w) record).wr R.REC_QS_WPTR (BitVec.ofNat 32 ((w + 32) % size))

/-! ## The SBC decoder (R409 to R413) -/

/-- `n` bytes copied one at a time from `off` bytes back; the output is held newest first. -/
def sbcCopy (off : Nat) : Nat → List Byte → List Byte
  | 0, out => out
  | n + 1, out => sbcCopy off n (out.getD (off - 1) 0 :: out)

/-- The tokens of a coded payload (R410); the output is held newest first. `none` where a match reaches before the block or a
token is cut short. -/
def sbcTokens : Nat → List Byte → List Byte → Option (List Byte)
  | 0, _, _ => none
  | _ + 1, [], out => some out
  | k + 1, c :: t, out =>
    if c.toNat < 128 then
      let n := c.toNat + 1
      if t.length < n then none else sbcTokens k (t.drop n) ((t.take n).reverse ++ out)
    else
      let nn := c.toNat / 16 % 8
      match t with
      | [] => none
      | b :: t' =>
        let off := c.toNat % 16 * 256 + b.toNat + 1
        if out.length < off then none
        else if nn < 7 then sbcTokens k t' (sbcCopy off (nn + 3) out)
        else match t' with
          | [] => none
          | e :: t'' => sbcTokens k t'' (sbcCopy off (e.toNat + 10) out)

/-- The expanded data of one block whose header and payload are given, or none where it is corrupt (R411). -/
def sbcBlock (head payload : List Byte) : Option (List Byte) :=
  let ulen := leNat ((head.drop 2).take 2)
  let mode := leNat ((head.drop 4).take 1)
  if leNat ((head.drop 12).take 4) ≠ crc32 (head.take 12 ++ payload) then none
  else if mode > 1 ∨ leNat ((head.drop 5).take 1) > 1 ∨ leNat ((head.drop 6).take 2) ≠ 0 ∨ ulen = 0 ∨ 4096 < ulen then none
  else
    let out := if mode = 0 then some payload else (sbcTokens (payload.length + 1) payload []).map List.reverse
    match out with
    | none => none
    | some bs => if bs.length = ulen ∧ crc32 bs = leNat ((head.drop 8).take 4) then some bs else none

/-- What the next block of an SBC stream is: corrupt (R411), cut short by the end of the data, or verified, with the offset of the next
block and its LAST flag. -/
inductive SbcStep where
  | corrupt
  | short
  | block (bs : List Byte) (next : Nat) (last : Bool)
  deriving DecidableEq, Repr

/-- The block at the start of `data` (R409). -/
def sbcStep (data : List Byte) : SbcStep :=
  let head := data.take 16
  let clen := leNat (head.take 2)
  if head.length < 16 ∨ data.length < 16 + clen then .short
  else match sbcBlock head ((data.drop 16).take clen) with
    | none => .corrupt
    | some bs => .block bs (cdiv (16 + clen) 8 * 8) (leNat ((head.drop 5).take 1) % 2 = 1)

end Sys2Proof.Machine
end

