-- ==== Sys2Proof/Machine/Journal.lean ====
section
/-! DEFINITION. Host commands: the descriptor's fields (R67), acceptance, the journal (R80, R81), the end of a command and its
completion entry (R64, R65), and the checks every opcode shares (R68, R418). -/

namespace Sys2Proof.Machine

/-! ## Status codes (Table 3-7) -/

namespace St
abbrev done : Nat := 0
abbrev wrongMode : Nat := 1
abbrev ilkActive : Nat := 2
abbrev notReady : Nat := 3
abbrev faultPending : Nat := 4
abbrev relay : Nat := 5
abbrev badParam : Nat := 6
abbrev empty : Nat := 7
abbrev commitReject : Nat := 8
abbrev targetReset : Nat := 9
abbrev badOpcode : Nat := 10
abbrev dupTag : Nat := 11
abbrev staleEpoch : Nat := 12
abbrev dmaError : Nat := 13
abbrev dataCorrupt : Nat := 14
abbrev tableInvalid : Nat := 15
abbrev authFail : Nat := 16
abbrev aborted : Nat := 17
end St

/-! ## Descriptor fields (Table 3-5) -/

def wordAt (ws : List Word) (i : Nat) : Nat := (ws.getD i 0).toNat

def Cmd.op (c : Cmd) : Nat := wordAt c.words 0 % 256
def Cmd.fence (c : Cmd) : Bool := bit (wordAt c.words 0) 8
def Cmd.barrier (c : Cmd) : Bool := bit (wordAt c.words 0) 9
def Cmd.noCq (c : Cmd) : Bool := bit (wordAt c.words 0) 10
def Cmd.irq (c : Cmd) : Bool := bit (wordAt c.words 0) 11
def Cmd.timed (c : Cmd) : Bool := bit (wordAt c.words 0) 12
def Cmd.epochChk (c : Cmd) : Bool := bit (wordAt c.words 0) 13
def Cmd.tag (c : Cmd) : Nat := wordAt c.words 0 / 65536
def Cmd.target (c : Cmd) : Nat := wordAt c.words 1 % 65536
def Cmd.expEpoch (c : Cmd) : Nat := wordAt c.words 1 / 65536 % 16
def Cmd.addr (c : Cmd) : Nat := wordAt c.words 2 + wordAt c.words 3 * 2 ^ 32
def Cmd.len (c : Cmd) : Nat := wordAt c.words 4
def Cmd.at64 (c : Cmd) : Nat := wordAt c.words 6 + wordAt c.words 7 * 2 ^ 32
def Cmd.arg (c : Cmd) (i : Nat) : Nat := wordAt c.words (8 + i)

/-- The opcodes of Table 3-6. -/
def knownOp (op : Nat) : Bool :=
  [0x00, 0x01, 0x02, 0x03, 0x04, 0x08, 0x09, 0x0A, 0x0B, 0x10, 0x11, 0x12, 0x18, 0x19, 0x20, 0x21, 0x22, 0x28, 0x30,
    0x31, 0x32, 0x38].contains op

/-- Whether an opcode uses ADDR and LEN (R68). -/
def dataOp (op : Nat) : Bool :=
  [0x03, 0x04, 0x08, 0x09, 0x0A, 0x10, 0x11, 0x20, 0x21, 0x32].contains op

/-- The bits of argument `i` that an opcode uses (Table 3-6); every other bit is reserved. -/
def argBits (op i : Nat) : Nat :=
  let full := 0xFFFFFFFF
  let upto (n : Nat) : Nat := if i < n then full else 0
  if op = 0x01 then (if i = 0 then 15 else 0)
  else if op = 0x38 then (if i = 0 then 15 else if i = 1 then 0xFFFF else 0)
  else if [0x02, 0x04, 0x08, 0x0A, 0x21, 0x22, 0x28].contains op then upto 2
  else if [0x09, 0x12, 0x18, 0x20].contains op then upto 3
  else if [0x0B, 0x10, 0x11, 0x19].contains op then upto 1
  else 0

/-- A bit that Table 3-5 reserves for every opcode is 1, or AT is no valid time (R14, R67). -/
def descBad (c : Cmd) : Bool :=
  wordAt c.words 0 / 2 ^ 14 % 4 ≠ 0 || wordAt c.words 1 / 2 ^ 20 ≠ 0 || wordAt c.words 5 ≠ 0 ||
  (!c.timed && c.at64 ≠ 0) || (c.timed && !tsValid c.at64)

/-- A bit that the command's own opcode reserves is 1, or an opcode without data carries ADDR or LEN (R67, R68). An ADDR that is
not a multiple of 4 is out of range (log entry 13). -/
def argsBad (c : Cmd) : Bool :=
  (!dataOp c.op && (c.addr ≠ 0 || c.len ≠ 0)) || c.addr % 4 ≠ 0 ||
  (List.range 8).any fun i => c.arg i &&& (0xFFFFFFFF - argBits c.op i) ≠ 0

/-! ## Units and epochs (R417) -/

/-- The register and field that hold the epoch of a unit of Table 16-2. -/
def epochPlace (t : Nat) : Option (Nat × Fld) :=
  if t = 0x0001 then some (R.FLT_EPOCH 3, ⟨8, 4⟩)
  else if t = 0x0002 then some (R.FLT_EPOCH 3, ⟨12, 4⟩)
  else if t = 0x0010 then some (R.TSC_STAT, F.TSC_STAT_EPOCH)
  else if t = 0x0011 then some (R.FLT_EPOCH 3, ⟨16, 4⟩)
  else if 0x0100 ≤ t ∧ t < 0x0100 + 26 then some (R.FLT_EPOCH ((t - 0x100) / 8), ⟨4 * ((t - 0x100) % 8), 4⟩)
  else if 0x0200 ≤ t ∧ t < 0x0200 + 24 then some (R.FLT_GSG (t - 0x200), F.FLT_GSG_EPOCH)
  else if 0x0300 ≤ t ∧ t < 0x0300 + 32 then some (R.LN_STAT (t - 0x300), F.LN_STAT_EPOCH)
  else if 0x0400 ≤ t ∧ t < 0x0400 + 12 then some (R.CEN_CE_STAT (t - 0x400), F.CEN_CE_STAT_EPOCH)
  else if 0x0500 ≤ t ∧ t < 0x0500 + 2 then some (R.MAP_STAT (t - 0x500), F.MAP_STAT_EPOCH)
  else if 0x0600 ≤ t ∧ t < 0x0600 + 4 then some (R.CAM_STAT (t - 0x600), F.CAM_STAT_EPOCH)
  else none

/-- The present epoch of a unit. -/
def State.unitEpoch (s : State) (t : Nat) : Option Nat :=
  if t = 0 then some (s.fld R.HQ_STAT F.HQ_STAT_EPOCH)
  else (epochPlace t).map fun p => s.fld p.1 p.2

/-- A unit goes away: its epoch increments modulo 16 (R417). -/
def State.bumpEpoch (s : State) (t : Nat) : State :=
  match epochPlace t with
  | some (r, f) => s.setFld r f (s.fld r f + 1)
  | none => s

/-- The unit whose epoch EPOCH_CHK compares for an opcode: a head or a node stands for its lane, an axis or a port for no unit (log
entry 13). -/
def epochTarget (c : Cmd) : Nat :=
  if c.op = 0x31 then 0x0300 + c.target
  else if c.op = 0x12 then 0x0300 + c.target / 16
  else if c.op = 0x10 ∨ c.op = 0x19 then 0
  else c.target

/-! ## Journal (R80, R81) -/

def State.lastSeq (s : State) : Nat := (s.rd R.HQ_JRN_SEQ_LO).toNat + (s.rd R.HQ_JRN_SEQ_HI).toNat * 2 ^ 32

def State.setLastSeq (s : State) (n : Nat) : State :=
  (s.wr R.HQ_JRN_SEQ_LO (BitVec.ofNat 32 n)).wr R.HQ_JRN_SEQ_HI (BitVec.ofNat 32 (n / 2 ^ 32))

/-- A journal entry (Table 3-9). -/
def journalEntry (c : Cmd) (state status tEnd result detail : Nat) : List Byte :=
  let body := leBytes c.seq 8 ++ leBytes c.tag 2 ++ leBytes (c.queue + 16 * c.path) 1 ++ leBytes c.op 1 ++
    leBytes (state + 4 * b2n c.late + 8 * b2n c.timed + 16 * c.epochAt) 1 ++ leBytes status 1 ++ leBytes c.slot 1 ++
    leBytes 0 1 ++ leBytes c.tAccept 12 ++ leBytes c.tStart 12 ++ leBytes tEnd 12 ++ leBytes result 4 ++ leBytes detail 4
  body ++ leBytes (crc32 body) 4

/-- The entry is written to the journal and, when mirroring is on, to the host mirror (R80, R81). -/
def State.journal (s : State) (c : Cmd) (state status tEnd result detail : Nat) : State :=
  let e := journalEntry c state status tEnd result detail
  let i := c.seq % 4096
  let s := s.sramPut (0x3400000 + 64 * i) e
  if s.fld R.HQ_JRN_CTRL F.HQ_JRN_CTRL_MIR_EN = 1 then
    s.hostPut ((s.rd R.HQ_JRN_MIR_LO).toNat + (s.rd R.HQ_JRN_MIR_HI).toNat * 2 ^ 32 + 64 * i) e
  else s

/-- The in-flight list, with HQ_STAT.INFLIGHT following it (R72). -/
def State.setCmds (s : State) (cs : List Cmd) : State :=
  { s with hq := { s.hq with cmds := cs } }.setFld R.HQ_STAT F.HQ_STAT_INFLIGHT cs.length

/-- The command in flight with sequence number `n`. -/
def State.cmd (s : State) (n : Nat) : Option Cmd := s.hq.cmds.find? fun c => c.seq == n

/-- The command with its record replaced. -/
def State.putCmd (s : State) (c : Cmd) : State :=
  { s with hq := { s.hq with cmds := s.hq.cmds.map fun d => if d.seq = c.seq then c else d } }

/-! ## The end of a command -/

/-- A completion entry (Table 3-4). -/
def completionEntry (c : Cmd) (size status result phase : Nat) : List Byte :=
  leBytes (c.tag + 2 ^ 16 * c.queue + 2 ^ 24 * status) 4 ++ leBytes result 4 ++ leBytes c.seq 4 ++
    leBytes ((c.slot + 1) % size + 2 ^ 16 * b2n c.late + 2 ^ 31 * phase) 4

/-- The completion entry of a command is written in ring order, or sent in a COMPLETE datagram (R65, R86). -/
def State.complete (s : State) (c : Cmd) (status result : Nat) : State :=
  let q := c.queue
  let size := max 1 (s.fld (R.HQ_CFG q) F.HQ_CFG_SIZE)
  let tail := s.fld (R.HQ_PTR q) F.HQ_PTR_CQ_TAIL
  let p := s.fld (R.HQ_PTR q) F.HQ_PTR_CQ_P
  let e := completionEntry c size status result p
  let s := s.setFld (R.HQ_PTR q) F.HQ_PTR_CQ_TAIL ((tail + 1) % size)
  let s := if tail + 1 = size then s.setFld (R.HQ_PTR q) F.HQ_PTR_CQ_P (1 - p) else s
  let Q := s.queue q
  let s := s.setQueue q { Q with cqUsed := Q.cqUsed + 1 }
  let s :=
    if c.path = 0 then
      s.hostPut ((s.rd (R.HQ_CQ_BASE_LO q)).toNat + (s.rd (R.HQ_CQ_BASE_HI q)).toNat * 2 ^ 32 + 16 * tail) e
    else
      let Q := s.queue q
      let d := Q.txSeq + 1
      let keep := if s.fld R.HQ_ETH_CFG F.HQ_ETH_CFG_RETRY = 0 then [] else [⟨d, 0, s.now, e⟩]
      (s.setQueue q { Q with txSeq := d, unacked := Q.unacked ++ keep }).ethSend (c.path - 1) (.datagram (c.path - 1) 3 q d Q.rxSeq 0 e)
  if s.fld (R.HQ_CFG q) F.HQ_CFG_IRQ_ALL = 1 || c.irq then s.msix (s.fld (R.HQ_CFG q) F.HQ_CFG_VEC) else s

/-- A command ends: the journal holds its outcome before the completion entry is written (R81), and it is no longer in flight.
`detail` is the failure detail of a failed command; a completed one keeps ARG0, or ARG1 for a JOURNAL_MARK (Table 3-9). -/
def State.endCmd (s : State) (c : Cmd) (status result detail : Nat) : State :=
  let ok := status = St.done || status = St.empty
  let d := if ok then (if c.op = 0x22 && status = St.done then c.arg 1 else c.arg 0) else detail
  let s := s.journal c (if ok then 2 else 3) status s.nowTs result d
  let s := s.setCmds (s.hq.cmds.filter fun x => x.seq ≠ c.seq)
  if c.journalOnly || (c.noCq && ok) then s else s.complete c status result

/-- A command ends, by its sequence number. -/
def State.endSeq (s : State) (n status result detail : Nat) : State :=
  match s.cmd n with
  | some c => s.endCmd c status result detail
  | none => s

/-! ## Acceptance (R64, R67, R72) -/

/-- What a fetched descriptor is refused with, if anything (R67). An unknown opcode has no arguments to check (log entry 13). -/
def refusal (s : State) (c : Cmd) : Option Nat :=
  if descBad c then some St.badParam
  else if !knownOp c.op then some St.badOpcode
  else if argsBad c then some St.badParam
  else if s.hq.cmds.any fun d => d.queue = c.queue && d.tag = c.tag then some St.dupTag
  else none

/-- A descriptor of queue `q` is numbered and journaled as accepted, or as failed when it is refused (R67, R80). -/
def State.accept (s : State) (q : Nat) (ws : List Word) : State :=
  let size := max 1 (s.fld (R.HQ_CFG q) F.HQ_CFG_SIZE)
  let slot := s.fld (R.HQ_PTR q) F.HQ_PTR_SQ_HEAD
  let n := s.lastSeq + 1
  let c : Cmd :=
    { seq := n, queue := q, path := s.fld (R.HQ_CFG q) F.HQ_CFG_PATH, slot := slot,
      epochAt := s.fld R.HQ_STAT F.HQ_STAT_EPOCH, words := ws, started := false, late := false, tAccept := s.nowTs,
      tStart := 0, wait := .run, journalOnly := false }
  let r := refusal s c
  let s := (s.setLastSeq n).setFld (R.HQ_PTR q) F.HQ_PTR_SQ_HEAD ((slot + 1) % size)
  let s := s.setCmds (s.hq.cmds ++ [c])
  match r with
  | some st => s.endCmd c st 0 0
  | none => s.journal c 0 0 0 0 (c.arg 0)

/-- A completion slot of queue `q` is free once those written and those reserved by commands in flight are counted (R64). -/
def State.slotFree (s : State) (q : Nat) : Bool :=
  decide ((s.queue q).cqUsed + (s.hq.cmds.filter fun c => c.queue = q && !c.journalOnly).length <
    s.fld (R.HQ_CFG q) F.HQ_CFG_SIZE)

/-- A place among the 256 in flight is free for queue `q`: sixteen are kept for queues of PRIO 3 (R72). -/
def State.placeFree (s : State) (q : Nat) : Bool :=
  let n := s.hq.cmds.length
  let low := (s.hq.cmds.filter fun c => s.fld (R.HQ_CFG c.queue) F.HQ_CFG_PRIO ≠ 3).length
  decide (n < 256) && (s.fld (R.HQ_CFG q) F.HQ_CFG_PRIO = 3 || decide (low < 240))

/-- The journal slot of the next sequence number holds a command still in flight (R72). -/
def State.journalBusy (s : State) : Bool :=
  s.hq.cmds.any fun c => c.seq % 4096 = (s.lastSeq + 1) % 4096

/-! ## Starting and running -/

/-- FENCE and BARRIER allow the command to start, and every earlier command of its queue has started (R74). -/
def State.mayStart (s : State) (c : Cmd) : Bool :=
  !c.started &&
  (s.hq.cmds.all fun d => !(d.queue = c.queue && decide (d.seq < c.seq)) || (d.started && !c.fence)) &&
  (!c.barrier || s.hq.cmds.all fun d => decide (c.seq ≤ d.seq))

/-- The command starts: the journal records it (R81). -/
def State.start (s : State) (c : Cmd) (late : Bool) : State :=
  let c := { c with started := true, late := late, tStart := s.nowTs }
  (s.putCmd c).journal c 1 0 0 0 (c.arg 0)

/-- The modes in which a command is permitted (Table 3-6). COMMIT judges its sets itself; LOAD_TABLE kinds 0x20 to 0x23, 0x30 to 0x32 and
0x40 fill shadow areas. -/
def opMode (c : Cmd) (m : Mode) : Bool :=
  let op := c.op
  let service := m = .idle || m = .service
  let layer (l : Nat) : Bool := if l = 0 then service else m ≠ .boot && m ≠ .safe
  if op = 0x0B then m = .idle || m = .armed || m = .hold
  else if op = 0x10 || op = 0x12 then m ≠ .boot && m ≠ .safe
  else if op = 0x11 then m = .armed || m = .expose || m = .hold || m = .degraded
  else if op = 0x28 then m = .service
  else if op = 0x31 || op = 0x32 then service
  else if op = 0x08 then layer (c.arg 1)
  else if op = 0x09 then layer (c.arg 2)
  else if op = 0x0A then
    (if [0x20, 0x21, 0x22, 0x23, 0x30, 0x31, 0x32, 0x40].contains (c.arg 0) then m ≠ .boot else service)
  else true

/-- The started command `n` of opcode `op` runs `k`, after the checks that every opcode shares: a healthy core pair (R423), the
mode (R68), the target's epoch (R417, R418). Where no such command waits to run, nothing happens (log entry 1). -/
def State.runCmd (s : State) (op n : Nat) (k : Cmd → State → State) : State :=
  match s.cmd n with
  | none => s
  | some c =>
    if !c.started || c.wait ≠ .run || c.op ≠ op then s
    else if s.flt.mcpHealthy = 0 && !(op = 0x30 && (c.target = 1 || c.target = 2)) then s.endCmd c St.notReady 0 0
    else if !opMode c s.mode then s.endCmd c St.wrongMode 0 0
    else if c.epochChk && (epochPlace (epochTarget c)).isNone then s.endCmd c St.badParam 0 0
    else if c.epochChk && s.unitEpoch (epochTarget c) ≠ some c.expEpoch then s.endCmd c St.staleEpoch 0 0
    else k c s

/-! ## The command's data (R85) -/

/-- The command's data: `n` bytes from offset `off`, in host memory, or in DRAM region 5 on an Ethernet queue. -/
def State.dataIn (s : State) (c : Cmd) (a n : Nat) : List Byte :=
  if c.path = 0 then s.hostBytes a n
  else s.dramBytes ((s.dramRegion 5).1 + a) n

/-- Bytes that a command copies outwards. -/
def State.dataOut (s : State) (c : Cmd) (a : Nat) (bs : List Byte) : State :=
  if c.path = 0 then s.hostPut a bs
  else s.dramPut ((s.dramRegion 5).1 + a) bs

/-- The range lies in DRAM region 5, as an Ethernet queue's data must (R85); host memory has no such bound. -/
def State.dataFits (s : State) (c : Cmd) (a n : Nat) : Bool :=
  c.path = 0 || decide (a + n ≤ (s.dramRegion 5).2)

end Sys2Proof.Machine
end

