-- ==== Sys2Proof/Machine/Tiles.lean ====
section
/-! DEFINITION. Mode changes, and the tile operations that every block shares: descriptors and status words (R160, R167), saved
contexts (R180), the end of a tile, interruption (R43), head removal and detours (R186, R191, R193). -/

namespace Sys2Proof.Machine

/-! ## Mode changes -/

/-- The mode registers show a transition to `m`, and GLB_IRQ_SRC.MODE sets (R45, R32). -/
def State.enterMode (s : State) (m : Mode) : State :=
  let old := s.mode
  let rose := s.fld R.GLB_IRQ_SRC F.GLB_IRQ_SRC_MODE = 0
  let s := (s.setFld R.GLB_MODE F.GLB_MODE_PREV old.code).setFld R.GLB_MODE F.GLB_MODE_MODE m.code
  let s := s.setFld R.GLB_IRQ_SRC F.GLB_IRQ_SRC_MODE 1
  if rose then s.irqSend 256 else s

/-- A degradation cause sets; in EXPOSE the mode becomes DEGRADED (R48, Table 2-4). -/
def State.degrade (s : State) (f : Fld) : State :=
  let s := s.degrBit f
  if s.mode = .expose then s.enterMode .degraded else s

/-! ## Tile descriptors (Table 6-1) -/

def tileAddr (i : Nat) : Nat := 0x2000000 + 64 * i
def statusAddr (i : Nat) : Nat := 0x3640000 + 4 * i
def ctxAddr (k : Nat) : Nat := 0x3620000 + 2048 * k

/-- A tile descriptor. -/
structure TileD where
  entry : Nat
  cal : Bool
  twin : Bool
  noexcl : Bool
  args : List Word
  b : Bounds
  elig : Nat
  prio : Nat
  depTile : Nat
  depEvt : Nat
  dt : Bool
  de : Bool
  pv : Bool
  postEvt : Nat
  axis : Nat
  wm : Nat
  plume : Nat
  wake : Nat
  deadline : Nat
  wofs : Int
  est : Nat
  reserved : Bool                    -- a reserved bit is 1
  deriving DecidableEq, Repr

/-- The descriptor that 64 bytes hold, as one little-endian number. -/
def tileOf (n : Nat) : TileD :=
  let w (byte bits : Nat) : Nat := n / 2 ^ (8 * byte) % 2 ^ bits
  let w0 := w 0 32
  let w36 := w 36 32
  let w40 := w 40 32
  let w44 := w 44 32
  let twin := bit w0 23
  { entry := w0 % 2 ^ 22, cal := bit w0 22, twin := twin, noexcl := bit w0 24,
    args := (List.range 4).map fun k => BitVec.ofNat 32 (w (4 + 4 * k) 32),
    b := ⟨sgn 32 (w 20 32), sgn 32 (w 24 32), sgn 32 (w 28 32), sgn 32 (w 32 32)⟩,
    elig := w36 % 2 ^ 24, prio := w36 / 2 ^ 24 % 16, depTile := w40 % 2 ^ 16, depEvt := w40 / 2 ^ 16 % 256,
    dt := bit w40 24, de := bit w40 25, pv := bit w40 26, postEvt := w44 % 256, axis := w44 / 256 % 8,
    wm := w44 / 4096 % 4096, plume := w 48 16, wake := w 50 16, deadline := if twin then 0 else w 52 64,
    wofs := sgn 32 (w 52 32), est := w 60 32,
    reserved := w0 / 2 ^ 25 ≠ 0 || w36 / 2 ^ 28 ≠ 0 || w40 / 2 ^ 27 ≠ 0 || bit w44 11 || w44 / 2 ^ 24 ≠ 0 ||
      (!twin && (w44 / 256 % 8 ≠ 0 || w44 / 4096 % 4096 ≠ 0)) || (twin && w 56 32 ≠ 0) }

/-- The live descriptor of tile `i`. -/
def State.tileD (s : State) (i : Nat) : TileD := tileOf (s.sramNat (tileAddr i) 64)

/-- Tiles in the live pool. -/
def State.ntiles (s : State) : Nat := s.fld R.TSC_NTILES F.TSC_NTILES_COUNT

/-! ## Status words (Tables 6-3 and 6-4) -/

namespace Ts
abbrev waiting : Nat := 0
abbrev ready : Nat := 1
abbrev yielded : Nat := 2
abbrev running : Nat := 3
abbrev interrupted : Nat := 4
abbrev detour : Nat := 5
abbrev parked : Nat := 6
abbrev complete : Nat := 7
abbrev faulted : Nat := 8
abbrev halted : Nat := 9
abbrev abandoned : Nat := 10
abbrev aborted : Nat := 11
abbrev notCoded : Nat := 12
abbrev template : Nat := 13
abbrev fState : Fld := ⟨0, 4⟩
abbrev fHead : Fld := ⟨4, 5⟩
abbrev fLate : Fld := ⟨9, 1⟩
abbrev fDetoured : Fld := ⟨10, 1⟩
abbrev fDepfail : Fld := ⟨11, 1⟩
abbrev fGuarded : Fld := ⟨12, 1⟩
abbrev fUncert : Fld := ⟨13, 1⟩
abbrev fCtx : Fld := ⟨16, 6⟩
abbrev fNdet : Fld := ⟨22, 4⟩
end Ts

/-- States 7 to 12 are final (R167). -/
def finalState (t : Nat) : Bool := decide (7 ≤ t) && decide (t ≤ 12)

def State.status (s : State) (i : Nat) : Word := BitVec.ofNat 32 (s.sramNat (statusAddr i) 4)
def State.setStatus (s : State) (i : Nat) (w : Word) : State := s.sramPut (statusAddr i) (leBytes w.toNat 4)
def State.tileState (s : State) (i : Nat) : Nat := fget (s.status i) Ts.fState
def State.tileFld (s : State) (i : Nat) (f : Fld) (v : Nat) : State := s.setStatus i (fput (s.status i) f v)

/-- The state of tile `i` becomes `t`; TSC_PARKCNT counts the PARKED tiles, and a park sets PARKED (R191). -/
def State.setTile (s : State) (i t : Nat) : State :=
  let old := s.tileState i
  let s := s.tileFld i Ts.fState t
  let n := (s.rd R.TSC_PARKCNT).toNat
  if t = Ts.parked ∧ old ≠ Ts.parked then
    (s.wr R.TSC_PARKCNT (BitVec.ofNat 32 (n + 1))).degrade F.GLB_DEGR_CAUSE_PARKED
  else if old = Ts.parked ∧ t ≠ Ts.parked then s.wr R.TSC_PARKCNT (BitVec.ofNat 32 (n - 1))
  else s

/-! ## Product records (Table 11-5) -/

def prodAddr (r : Nat) : Nat := 0x3280000 + 64 * r

def State.prodState (s : State) (r : Nat) : Nat := s.sramNat (prodAddr r + 38) 1 % 4
def State.prodFlags (s : State) (r : Nat) : Nat := s.sramNat (prodAddr r + 39) 1
def State.prodPd (s : State) (r : Nat) : Int := sgn 48 (s.sramNat (prodAddr r + 32) 6)

/-- A flag of a TRACKED record sets (R330). -/
def State.prodFlag (s : State) (r b : Nat) : State :=
  if s.prodState r = 2 then s.sramPut (prodAddr r + 39) (leBytes (setBit (s.prodFlags r) b true) 1) else s

/-! ## Saved contexts (R180, Table 6-6) and checkpoints (Table 16-3) -/

/-- The bytes 64 to 2047 of a checkpoint or of a saved context. The Progress field is device-internal: free bytes, named by
`free`. -/
def ckptBytes (q : Seq) (free : Nat) : List Byte :=
  let a := q.arch
  let st := a.stack.reverse
  let r := a.ramp
  let lim := leBytes (b2n q.shape.skyOn + 2 ^ 16 * q.shape.skyLimit) 4
  let scratch := (List.range 256).flatMap fun k => leBytes (sget (fun _ => (0 : Word)) k a.scratch).toNat 4
  let body :=
    leBytes (a.pc + 2 ^ 24 * st.length) 4 ++
    leBytes (a.flags + 2 ^ 8 * a.region + 2 ^ 16 * a.mask) 4 ++
    a.g.flatMap (fun w => leBytes w.toNat 4) ++
    leBytes a.speed 4 ++ leBytes a.jspeed 4 ++ leBytes q.level 4 ++ leBytes (q.issueTick - q.tick0) 4 ++
    leBytes a.vidx 4 ++ leBytes (wrap 32 a.px) 4 ++ leBytes (wrap 32 a.py) 4 ++ leBytes (wrap 32 a.pz) 4 ++ leBytes a.tile 2 ++
    leBytes 0 6 ++ (List.range 8).flatMap (fun k => leBytes (st.getD k 0) 4) ++
    (List.range 64).map (fun k => Config.freeByte free k) ++
    leBytes r.l0 2 ++ leBytes r.target 2 ++ leBytes r.time 4 ++ leBytes (r.steps q.cursor) 4 ++ leBytes (b2n r.running) 4 ++
    a.delays.flatMap (fun d => leBytes (wrap 32 d) 4) ++ lim ++ leBytes q.shape.runIn 4 ++ leBytes q.shape.runOut 4 ++
    leBytes q.shape.curves 4 ++
    leBytes (if q.shape.wmArmed then q.shape.wmAxis + 16 * q.shape.wmIndex + 2 ^ 31 else 0) 4 ++ scratch
  body ++ leBytes (crc32 body) 4 ++ List.replicate 692 0

/-- The resume header of a context. -/
def ctxHeader (c : Ctx) : List Byte :=
  leBytes c.tile 2 ++ leBytes c.fromHead 1 ++ leBytes c.cause 1 ++ leBytes c.vidx 4 ++ leBytes c.sigma 4 ++ leBytes c.pc 4 ++
  leBytes c.slot 2 ++ leBytes (min c.uncert 255) 1 ++ leBytes 0 1 ++ leBytes (wrap 32 c.pt.x) 4 ++ leBytes (wrap 32 c.pt.y) 4 ++
  leBytes (wrap 32 c.pt.z) 4 ++ leBytes c.tStop 12 ++ leBytes (c.nextCol.getD 0xFFFFFFFF) 4 ++ leBytes 0 16

def State.ctx (s : State) (k : Nat) : Option Ctx := sget (fun _ => none) k s.tsc.ctxs

def State.putCtx (s : State) (k : Nat) (c : Option Ctx) : State :=
  { s with tsc := { s.tsc with ctxs := sput (fun _ => none) k c s.tsc.ctxs } }

/-- A context is saved: the model's own record and the words in SRAM. -/
def State.saveCtx (s : State) (k : Nat) (c : Ctx) : State :=
  ((s.putCtx k (some c)).sramPut (ctxAddr k) (ctxHeader c ++ ckptBytes c.seq s.free)).draw

/-- The free shared contexts (R180). -/
def State.sharedFree (s : State) : List Nat :=
  ((List.range 40).map (· + 24)).filter fun k => (s.ctx k).isNone

/-- Contexts of all 64 that are free (R179). -/
def State.ctxFree (s : State) : Nat := ((List.range 64).filter fun k => (s.ctx k).isNone).length

/-- The contexts of a tile or of a job are freed. -/
def State.freeCtxOf (s : State) (tile : Nat) (job : Option Nat) : State :=
  (List.range 64).foldl (fun s k =>
    match s.ctx k with
    | some c => if c.tile = tile ∧ c.job = job then s.putCtx k none else s
    | none => s) s

/-! ## Column area copies (R205, R206) -/

def State.caActive (s : State) (a : Nat) : Nat := s.fld (R.BLD_CA_STAT a) F.BLD_CA_STAT_ACTIVE
def caReadyFld (c : Nat) : Fld := if c = 0 then F.BLD_CA_STAT_READY_A else F.BLD_CA_STAT_READY_B
def State.caReady (s : State) (a c : Nat) : Bool := s.fld (R.BLD_CA_STAT a) (caReadyFld c) = 1

/-- A COL in progress, on a sequencer or in a saved context, still reads the inactive copy of area `a` (R206). -/
def State.caLocked (s : State) (a : Nat) : Bool :=
  let reads (c : ColRun) : Bool := c.active && !c.starved && c.area = a && c.copy ≠ s.caActive a
  (List.range 26).any (fun n => (s.seq n).running && reads (s.seq n).colRun) ||
    (List.range 64).any (fun k => match s.ctx k with
      | some c => reads c.seq.colRun
      | none => false) ||
    s.tsc.joining.any fun p => match p.2 with
      | some c => reads c.seq.colRun
      | none => false

/-- A COL ends: with ONESHOT the active copy of its area is no longer ready (R205). -/
def State.colEnds (s : State) (c : ColRun) : State :=
  if c.active && !c.starved && s.fld (R.BLD_CA_CFG c.area) F.BLD_CA_CFG_ONESHOT = 1 then
    s.setFld (R.BLD_CA_STAT c.area) (caReadyFld (s.caActive c.area)) 0
  else s

/-! ## Resume points (R43, R130, R186, R189) -/

/-- The span that holds slot `x`, with its place in the plan. -/
def Seq.spanAt (q : Seq) (x : Nat) : Option (Nat × Span) :=
  ((List.range q.spans.length).zip q.spans).find? fun p => decide (p.2.start ≤ x) && decide (x < p.2.start + p.2.len)

/-- The set-point of a span at the end of its tick `i` (from 1); a hold has one point. -/
def Span.point (sp : Span) (i : Nat) : Pt := sp.path.at (sp.tick0 + i)

/-- The set-point at the end of tick `k` of the stream (R126). -/
def Seq.pointAt (q : Seq) (k : Nat) : Pt :=
  let e := 1250 * (k + 1)
  match q.spans.reverse.find? fun sp => decide (sp.start < e) with
  | some sp => sp.point (min (cdiv (e - sp.start) 1250) (cdiv sp.len 1250))
  | none => q.pos

/-- The plan stands between two vectors at the tick boundary `b`: the passes of a brush are vectors of their own (R91, R142). -/
def Seq.between (q : Seq) (b : Nat) : Bool :=
  match q.spans.reverse.find? (fun sp => sp.kind ≠ .fill && decide (sp.start < b)), q.spans.find? (fun sp => decide (b ≤ sp.start)) with
  | some m, some f => decide (m.start + m.len ≤ b) && decide (m.vidx ≠ f.vidx)
  | _, _ => false

/-- A ramp as it stands at slot `x`, continuing from there. -/
def Ramp.from (r : Ramp) (x : Nat) : Ramp := if r.running then { r with done := r.steps x, since := max x r.since } else r

/-- The attribute record in force at slot `x`. -/
def Seq.attrAt (q : Seq) (x : Nat) : Attr :=
  match q.attrs.find? fun a => decide (a.since ≤ x) with
  | some a => a
  | none => ⟨0, q.arch.level, q.arch.mask, q.arch.region, q.shape.curves, q.arch.ramp⟩

/-- The plan from slot `x` on. A cut motion restarts with its own tick, gates zero before the cut. -/
def Seq.restAt (q : Seq) (x : Nat) : List Span :=
  match q.spanAt x with
  | none => q.spans.filter fun sp => decide (x ≤ sp.start)
  | some (k, sp) =>
    let tail := q.spans.drop (k + 1)
    if sp.kind = .motion then
      let d := (x - sp.start) / 1250
      { sp with start := sp.start + 1250 * d, len := sp.len - 1250 * d, tick0 := sp.tick0 + d, openAt := max sp.openAt x } :: tail
    else { sp with start := x, len := sp.start + sp.len - x, tick0 := sp.tick0 + (x - sp.start) / 1250 } :: tail

/-- The TS96 value of the start of slot `x`. -/
def slotTs (x : Nat) : Nat := ts96 (x * 2 / 5) + x * 2 % 5 * 65536 / 5

/-- The resume record of a sequencer cut at slot `x` (R43, R130, R156, R186). A Switchback leaves the activity `swbWait` in it. -/
def Seq.ctxAt (q : Seq) (x0 cause uncert head : Nat) : Ctx :=
  let x := max x0 q.firstSlot
  let next := q.colRun.next - (q.colRun.starts.filter fun y => decide (x ≤ y)).length
  let nextCol := if q.act = .column then
      some ((if q.colRun.down then (q.colRun.col0 : Int) - next else q.colRun.col0 + next).toNat % 2 ^ 32)
    else none
  let rest := q.restAt x
  let a := q.attrAt x
  let saved : Seq :=
    { q with spans := rest, attrs := q.attrs.filter (fun b => decide (x < b.since)) ++ [{ a with since := x, ramp := a.ramp.from x }],
             colRun := { q.colRun with next := next, starts := [] }, dots := [], joinAt := 0 }
  let base : Ctx :=
    { tile := q.arch.tile, job := q.job, fromHead := head, cause := cause, vidx := q.arch.vidx, sigma := 0, pc := q.arch.pc,
      slot := 0, uncert := uncert, pt := q.pos, tStop := slotTs x, nextCol := nextCol,
      seq := saved }
  if q.act = .swbStop ∨ q.act = .swbWait ∨ q.act = .swbBack ∨ q.act = .swbApproach then
    { base with pt := q.swb.ps, vidx := (q.arch.vidx + 1) % 2 ^ 32, seq := { saved with spans := [], act := .swbWait, swb := Swb.none } }
  else match q.spanAt x with
    | none => base
    | some (_, sp) =>
      let d := (x - sp.start) / 1250
      let slot := (x - sp.start) % 1250
      if sp.kind = .motion then
        let i := sp.tick0 + d
        let p := sp.path.at i
        let p' := sp.path.at (i + 1)
        let go (u v : Int) : Int := rdivAway (u * 1250 + (v - u) * slot) 1250
        { base with vidx := sp.vidx, pc := sp.pc, slot := slot, pt := ⟨go p.x p'.x, go p.y p'.y, go p.z p'.z⟩,
                    sigma := if sp.vticks = 0 then 0 else sp.vlen * (1250 * i + slot) / (1250 * sp.vticks) }
      else { base with vidx := sp.vidx, pc := sp.pc, pt := sp.point d }

/-- The sequencer is in a guard stop or a checker stop, with the tile's resume record kept beside it. -/
def Seq.guarded (q : Seq) : Bool := q.act = .guardStop || q.act = .guardWait || q.act = .checkerStop

/-- The stream ends at slot `x`: gates are zero from there, and from the first tick not yet computed the last computed set-point is
held (R43). -/
def Seq.stopAt (q : Seq) (x : Nat) : Seq :=
  let e := 1250 * q.nextTick
  let keep := (q.spans.filter fun sp => decide (sp.start < e)).map fun sp =>
    { sp with len := min sp.len (e - sp.start), closeAt := min sp.closeAt x }
  { q with running := false, spans := keep, pos := q.pointAt (q.nextTick - 1), act := .ready, colRun := ColRun.none, job := none,
           dots := (q.dots.filter fun d => decide (d.first < x)).map fun d => { d with last := min d.last x },
           inRun := false, runInDone := false, swb := Swb.none, tv := 0,
           shape := { q.shape with wmArmed := false } }

/-! ## Slots at a head -/

/-- DLY_DN + DEC_LAT of head `h`, in ps (R227, R237). -/
def State.lagPs (s : State) (h : Nat) : Nat :=
  (s.rd (R.LN_DLY_DN h)).toNat + 10 * ((s.rd (R.LN_CAP h 2)).toNat / 65536)

/-- The first gate slot that has not left the chip for head `h`: force-zero acts from it on (R37, R43; log entry 16). -/
def State.firstUnsent (s : State) (h : Nat) : Nat := cdiv (s.now * 1000 + s.lagPs h) 400

/-- The first slot of the first tick whose frame has not been launched (R186). -/
def State.firstUnlaunched (s : State) (h : Nat) : Nat := 1250 * cdiv (s.now * 1000 + s.lagPs h) 500000

/-! ## Ending a tile on a head -/

/-- Head `h` holds no tile any more. A closed tile lingers in the active set (R172). -/
def State.freeHead (s : State) (h : Nat) (linger : Bool) : State :=
  let k := s.fld R.TSC_CFG F.TSC_CFG_LINGER
  let act := if linger && k ≠ 0 then
      s.tsc.active.map fun a => if a.head = h ∧ a.until_ = none then { a with until_ := some (s.tick + k) } else a
    else s.tsc.active.filter fun a => !(a.head = h && a.until_ = none)
  let s := { s with tsc := { s.tsc with active := act, holds := sput (fun _ => none) h none s.tsc.holds,
                                        jobs := sput (fun _ => none) h none s.tsc.jobs,
                                        joining := sput (fun _ => none) h none s.tsc.joining,
                                        barriers := s.tsc.barriers.filter fun b => b.2.1 ≠ h } }
  (s.setFld (R.TSC_H_STAT h) F.TSC_H_STAT_RUN 0).setFld (R.BSQ_SWB (s.seqOf h)) F.BSQ_SWB_PHASE 0

/-- The product record that head `h`'s job codes, if any. -/
def State.headJob (s : State) (h : Nat) : Option Nat := sget (fun _ => none) h s.tsc.jobs

/-- The tile that head `h` holds has rejoined: its context is free, and a detour is recorded (R180, R193). -/
def State.joined (s : State) (h : Nat) : State :=
  match sget (fun _ => none) h s.tsc.joining with
  | none => s
  | some c =>
    let s := s.freeCtxOf c.tile c.job
    let s := { s with tsc := { s.tsc with joining := sput (fun _ => none) h none s.tsc.joining } }
    if c.cause = 1 ∨ c.cause = 2 then
      s.cairn 3 1 false (leBytes c.tile 2 ++ leBytes c.fromHead 1 ++ leBytes h 1 ++ ctxHeader c ++ leBytes (slotTs (s.seq (s.seqOf h)).joinAt) 12)
    else s

/-- The tile that head `h` holds ends in state `t`; a coding job ends, and its record is NOT_CODED unless it is COMPLETE (R330).
The sequencer produces no further slot of it. -/
def State.closeTile (s : State) (h t : Nat) : State :=
  match s.held h with
  | none => s
  | some i =>
    let d := s.tileD i
    let job := s.headJob h
    let q := s.seq (s.seqOf h)
    let s := if q.guarded ∨ q.cursor < q.joinAt then s else s.joined h
    let s := s.freeCtxOf i job
    let s := match job with
      | some r => if t = Ts.complete then s else s.prodFlag r 1
      | none =>
        let s := s.setTile i t
        if t = Ts.complete ∧ d.deadline ≠ 0 ∧ extendTs d.deadline s.now < (s.now : Int) * 65536 then s.inc R.TSC_DLMISS 1 else s
    let n := s.seqOf h
    let q := s.seq n
    let s := s.colEnds q.colRun
    let s := s.setSeq n { q with running := false, act := if t = Ts.halted then .faulted else .ready, job := none,
                                 inRun := false, runInDone := false, colRun := ColRun.none, swb := Swb.none }
    s.freeHead h (t ≠ Ts.aborted)

/-! ## Interruption, detour, parking -/

/-- The resume record of head `h` cut at slot `x`. Before its join, a rejoining tile keeps its recorded point (R193); so does a tile in a
guard stop or a checker stop. -/
def State.cutHead (s : State) (h x cause uncert : Nat) : Ctx :=
  let q := s.seq (s.seqOf h)
  match sget (fun _ => none) h s.tsc.joining with
  | some c => if x < q.joinAt ∨ q.guarded then { c with fromHead := h, cause := cause } else q.ctxAt x cause uncert h
  | none => q.ctxAt x cause uncert h

/-- Whether a job that head `h` runs has fired a column. -/
def State.colFired (s : State) (h : Nat) : Bool :=
  let q := s.seq (s.seqOf h)
  q.act = .column && q.colRun.axisMode && decide (0 < q.colRun.next)

/-- The context that takes a tile leaving head `h`: its reserved one, or a shared one while that is in use (R180; log entry 22). -/
def State.ctxSlot (s : State) (h : Nat) : Nat := if (s.ctx h).isNone then h else s.sharedFree.head?.getD h

/-- Force-zero, or the stop of a head, cuts the tile that head `h` runs at slot `x`: it is INTERRUPTED and bound to the same head
(R43). A tile with columns of an axis-mode COL fired is abandoned (R189). A coding job so cut ends, and its record is NOT_CODED; `fz` tells whether force-zero cut it (R44, R49). -/
def State.interrupt (s : State) (fz : Bool) (h x : Nat) : State :=
  match s.held h with
  | none => s
  | some i =>
    let n := s.seqOf h
    match s.headJob h with
    | some r =>
      let s := (((if fz then s.prodFlag r 4 else s).prodFlag r 1).freeCtxOf i (some r)).colEnds (s.seq n).colRun
      (s.setSeq n ((s.seq n).stopAt x)).freeHead h false
    | none =>
      if s.colFired h then ((s.colEnds (s.seq n).colRun).setSeq n ((s.seq n).stopAt x)).closeTile h Ts.abandoned
      else
        let c := s.cutHead h x 5 0
        let s := s.freeCtxOf i none
        let k := s.ctxSlot h
        let s := ((s.saveCtx k c).tileFld i Ts.fCtx k).setTile i Ts.interrupted
        (s.setSeq n ((s.seq n).stopAt x)).freeHead h false

/-- Force-zero interrupts every head's tile at its first zeroed slot (R43). -/
def State.interruptAll (s : State) : State :=
  (List.range 24).foldl (fun s h => s.interrupt true h (s.firstUnsent h)) s

/-- The tile of head `h` leaves it at slot `x` as DETOUR in context h; `cause` is 1 head lost or 2 guard timeout (R185, R186, R189).
A job with columns fired is handed over to a head with a greater STATION; an axis-mode COL outside a job is abandoned. -/
def State.detourTile (s : State) (h x cause uncert : Nat) : State :=
  match s.held h with
  | none => s
  | some i =>
    let n := s.seqOf h
    let c := s.cutHead h x cause uncert
    let fired := s.colFired h
    match s.headJob h with
    | some r =>
      let st : Int := intOf (s.rd (R.TSC_H_STATION h))
      let s := s.freeCtxOf i (some r)
      let k := s.ctxSlot h
      let s := if fired then (s.saveCtx k c).prodFlag r 6 else s
      let s := (s.setSeq n ((s.seq n).stopAt x)).freeHead h false
      let j : Job := ⟨r, i, if fired then some st else none, if fired then some k else none⟩
      { s with tsc := { s.tsc with jobList := s.tsc.jobList ++ [j] } }
    | none =>
      if fired then ((s.colEnds (s.seq n).colRun).setSeq n ((s.seq n).stopAt x)).closeTile h Ts.abandoned
      else
        let s := s.freeCtxOf i none
        let k := s.ctxSlot h
        let s := s.saveCtx k c
        let w := s.status i
        let w := fput (fput w Ts.fCtx k) Ts.fNdet (min 15 (fget w Ts.fNdet + 1))
        let s := s.setStatus i (if uncert = 0 then w else fput w Ts.fUncert 1)
        let s := s.setTile i Ts.detour
        (s.setSeq n ((s.seq n).stopAt x)).freeHead h false

/-- An INTERRUPTED tile bound to head `h` becomes DETOUR with the same context (R178, R186). -/
def State.unbind (s : State) (h : Nat) : State :=
  (List.range 64).foldl (fun s k =>
    match s.ctx k with
    | none => s
    | some c =>
      if c.fromHead = h ∧ s.tileState c.tile = Ts.interrupted ∧ c.job = none then
        let w := s.status c.tile
        ((s.setStatus c.tile (fput w Ts.fNdet (min 15 (fget w Ts.fNdet + 1)))).putCtx k (some { c with cause := 1 })).setTile c.tile Ts.detour
      else s) s

/-- The field of head `h` that a live set 4 + h declares (R162, R185). -/
def State.field (s : State) (h : Nat) : Bounds :=
  ⟨intOf (s.lv (R.TSC_H_FXMIN h)), intOf (s.lv (R.TSC_H_FYMIN h)), intOf (s.lv (R.TSC_H_FXMAX h)), intOf (s.lv (R.TSC_H_FYMAX h))⟩

/-- The tangent of a span at the start of its present tick. -/
def Span.tangent (sp : Span) : Int × Int :=
  match sp.path with
  | .line a b _ => (b.x - a.x, b.y - a.y)
  | .run _ dx dy _ => (dx, dy)
  | .hold _ => (0, 0)
  | .arc a cx cy sweep _ n =>
    let (vx, vy) := turned (a.x - cx) (a.y - cy) sweep sp.tick0 (max n 1)
    let sg : Int := if sweep < 0 then -1 else 1
    (rdiv (-vy * sg) (2 ^ 30), rdiv (vx * sg) (2 ^ 30))
  | .cubic a b c d n =>
    if sp.tick0 = 0 then firstDir [(b.x - a.x, b.y - a.y), (c.x - a.x, c.y - a.y), (d.x - a.x, d.y - a.y)]
    else
      -- the derivative at the parameter of the tick, scaled
      let t : Int := bezParam a b c d (bezLenFine a b c d * sp.tick0 / max n 1) 64 0
      let u : Int := 2 ^ 40 - t
      let go (p0 p1 p2 p3 : Int) : Int :=
        (u * u * (p1 - p0) + 2 * u * t * (p2 - p1) + t * t * (p3 - p2)) / 2 ^ 60
      (go a.x b.x c.x d.x, go a.y b.y c.y d.y)

/-- The firing motion at which a saved plan rejoins: its first motion span, if any. -/
def rejoinSpan (spans : List Span) : Option Span := spans.find? fun sp => sp.kind = .motion

/-- P_i and P_a of R187 for a saved plan whose next motion is `sp`: the approach ends at P_i and starts at P_a. -/
def approachPoints (sp : Span) (acc : Nat) : Pt × Pt :=
  let p := sp.path.at sp.tick0
  let ta := rampTicks sp.speed acc
  let u := sp.tangent
  (p, alongFrac p u.1 u.2 (-((sp.speed * ta : Nat) : Int)) 4000)

/-- The approach of R187 for a context lies within head `h`'s field. -/
def State.approachFits (s : State) (c : Ctx) (h : Nat) : Bool :=
  match rejoinSpan c.seq.spans with
  | none => true
  | some sp =>
    let (p, a) := approachPoints sp (s.fld R.TSC_JOIN_ACC F.TSC_JOIN_ACC_ACC)
    (s.field h).has p && (s.field h).has a

/-- A DETOUR tile with no candidate head becomes PARKED (R191). -/
def State.parkTiles (s : State) : State :=
  (List.range 64).foldl (fun s k =>
    match s.ctx k with
    | none => s
    | some c =>
      if s.tileState c.tile = Ts.detour ∧ c.job = none ∧
          !((List.range 24).any fun h => s.liveHead h && bit (s.tileD c.tile).elig h && s.approachFits c h) then
        s.setTile c.tile Ts.parked
      else s) s

/-- Head `h` leaves the eligible set with `cause` (R186, Table 6-7). `x` is the resume slot of the tile it holds and `uncert` its
uncertain ticks. A head that is not in the set keeps its state. -/
def State.removeHeadAt (s : State) (h cause x uncert : Nat) : State :=
  if !s.liveHead h then s
  else
    let live := s.fld R.TSC_HEADS F.TSC_HEADS_LIVE
    let s := s.setFld R.TSC_HEADS F.TSC_HEADS_LIVE (setBit live h false)
    let s := (s.setFld (R.TSC_H_STAT h) F.TSC_H_STAT_LIVE 0).setFld (R.TSC_H_STAT h) F.TSC_H_STAT_CAUSE cause
    let s := (s.degrade F.GLB_DEGR_CAUSE_DETOUR).traceTrigger 1
    let s := { s with tsc := { s.tsc with removedAt := sput (fun _ => 0) h (s.tick + 1) s.tsc.removedAt } }
    let s := if (s.held h).isSome then (s.detourTile h x 1 uncert).inc R.TSC_DETOURS 1 else s.unbind h
    s.parkTiles

/-- The removal of a head that is still in contact: its gates are zero from the first tick not yet launched (R186). -/
def State.removeHead (s : State) (h cause : Nat) : State := s.removeHeadAt h cause (s.firstUnlaunched h) 0

/-- A 32-byte quality record (Table 4-17). -/
def qrec (time tile head kind vidx value px py level mask : Nat) : List Byte :=
  leBytes time 8 ++ leBytes tile 2 ++ leBytes head 1 ++ leBytes kind 1 ++ leBytes vidx 4 ++ leBytes value 4 ++ leBytes px 4 ++
  leBytes py 4 ++ leBytes level 2 ++ leBytes mask 1 ++ leBytes 0 1

/-- The state code of lane `n` (Table 8-9). -/
def State.laneState (s : State) (n : Nat) : Nat := s.fld (R.LN_STAT n) F.LN_STAT_STATE

/-- Lane `n` is in service (R244). -/
def State.inService (s : State) (n : Nat) : Bool := s.laneState n = 5

/-- Force-zero is in effect (R37, R41, R42). -/
def State.forceZero (s : State) : Bool :=
  s.glb.latched || (s.glb.force &&& fget s.glb.ilkCfg F.GLB_ILK_CFG_USE) ≠ 0

/-- The life-cycle state permits emission in SERVICE (TESTED, FIELD) or in the other modes (FIELD) (R435). -/
def State.lcEmits (s : State) : Bool := s.lc = 2 || (s.lc = 1 && s.mode = .service)

/-- Source pulses are permitted (R298, R435). -/
def State.pulsesPermitted (s : State) : Bool :=
  s.lcEmits && (s.runMode || (s.mode = .service && s.fld R.GLB_SVC_CTRL F.GLB_SVC_CTRL_EMIT_PERMIT = 1))

end Sys2Proof.Machine
end

