-- ==== Sys2Proof/Machine/Triggers.lean ====
section
/-! DEFINITION. What several blocks trigger in others: mirror-array ports (R303), camera pipelines (R341), the trace (R282), and
the posting of an event (R169), which can trigger all three. -/

namespace Sys2Proof.Machine

/-! ## Mirror-array ports -/

def State.map (s : State) (p : Nat) : MapP := sget (fun _ => MapP.reset) p s.maps
def State.setMap (s : State) (p : Nat) (m : MapP) : State :=
  { s with maps := sput (fun _ => MapP.reset) p m s.maps }

/-- A trigger of kind `k` (1 start, 2 event, 3 capture) of value `v` reaches the ports that wait for it (R303). -/
def State.mapTrigger (s : State) (k v : Nat) : State :=
  (List.range 2).foldl (fun s p =>
    let m := s.map p
    let want := if k = 2 then fget m.ctl F.MAP_CTL_TEVT else if k = 3 then fget m.ctl F.MAP_CTL_SYNC else v
    if m.waiting ∧ m.trigAt = none ∧ fget m.ctl F.MAP_CTL_TRIG = k ∧ want = v then s.setMap p { m with trigAt := some s.now }
    else s) s

/-! ## Camera pipelines -/

def State.cam (s : State) (c : Nat) : Cam := sget (fun _ => Cam.reset) c s.cams
def State.setCam (s : State) (c : Nat) (m : Cam) : State := { s with cams := sput (fun _ => Cam.reset) c m s.cams }

/-- The slot boundary at or after an instant in units of 2⁻¹⁶ ns. -/
def slotAfter (t : Nat) : Nat := cdiv (t * 5) 131072

/-- The instant of a slot's start, in units of 2⁻¹⁶ ns, rounded up. -/
def slotFine (x : Nat) : Nat := cdiv (x * 131072) 5

/-- A trigger of pipeline `c` is decided for slot `x`; it is dropped under R342 when it comes too soon after the one before, or when four
already await frames. Two triggers of one slot count as one. -/
def State.camDecide (s : State) (c src ref x : Nat) : State :=
  let m := s.cam c
  let minper := s.lfld (R.CAM_EXP c) F.CAM_EXP_MINPER * 2500
  let soon := match m.lastAt with
    | some y => minper ≠ 0 && decide (x < y + minper)
    | none => false
  if m.due.any fun d => d.at_ = x then s
  else if soon || decide (4 ≤ m.due.length + m.await.length) then s.inc (R.CAM_TRGDROP c) 1
  else
    let t : CamTrig := ⟨x, src, ref, m.tag, []⟩
    s.setCam c { m with due := m.due ++ [t], lastAt := some x, tag := (m.tag + 1) % 256 }

/-- An instant `t` (2⁻¹⁶ ns) of trigger source `src` with value `v` reaches every enabled pipeline whose live set selects it: waymark
(2, axis × 4096 + index), SYNCI (3), event (4). -/
def State.camSource (s : State) (src v t : Nat) : State :=
  (List.range 4).foldl (fun s c =>
    let axis := s.lfld (R.CAM_TRIG c) F.CAM_TRIG_AXIS
    let sel := s.lfld (R.CAM_TRIG c) F.CAM_TRIG_SEL
    let want := if src = 2 then axis * 4096 + sel else if src = 3 then axis else sel
    if s.fld (R.CAM_CFG c) F.CAM_CFG_EN = 1 ∧ s.lfld (R.CAM_TRIG c) F.CAM_TRIG_SRC = src ∧ want = v then
      s.camDecide c src (if src = 2 ∨ src = 4 then sel else 0) (slotAfter t + s.lfld (R.CAM_TDLY c) F.CAM_TDLY_TDLY)
    else s) s

/-! ## Camera frames (R343 to R350) -/

/-- The registers of set 30 + c: ESET, TRIG, PER, TDLY, EXP, GEOM, CORR, THR, the four ROI, GRID. -/
def camSetRegs (c : Nat) : List Nat :=
  [R.CAM_ESET c, R.CAM_TRIG c, R.CAM_PER c, R.CAM_TDLY c, R.CAM_EXP c, R.CAM_GEOM c, R.CAM_CORR c, R.CAM_THR c,
    R.CAM_ROI_X c 0, R.CAM_ROI_Y c 0, R.CAM_ROI_X c 1, R.CAM_ROI_Y c 1, R.CAM_ROI_X c 2, R.CAM_ROI_Y c 2,
    R.CAM_ROI_X c 3, R.CAM_ROI_Y c 3, R.CAM_GRID c]

/-- Field `f` of word `i` of a frame's exposure set, in the order of `camSetRegs`. -/
def CamFrame.fld (m : CamFrame) (i : Nat) (f : Fld) : Nat := fget (m.set.getD i 0) f

def CamFrame.width (m : CamFrame) : Nat := m.fld 5 F.CAM_GEOM_WIDTH
def CamFrame.height (m : CamFrame) : Nat := m.fld 5 F.CAM_GEOM_HEIGHT

-- FLAGS of Table 12-6.
namespace Cf
abbrev short : Nat := 0
abbrev long : Nat := 1
abbrev incomplete : Nat := 2
abbrev untrig : Nat := 3
abbrev lineErr : Nat := 4
abbrev tapInc : Nat := 5
abbrev drop : Nat := 6
abbrev timeout : Nat := 7
end Cf

def CamFrame.flag (m : CamFrame) (b : Nat) : CamFrame := { m with flags := setBit m.flags b true }

/-- The CAMc_STAT bit of a shape case (Table 12-4). -/
def camStatFld (b : Nat) : Option Fld :=
  if b = Cf.short then some F.CAM_STAT_SHORT
  else if b = Cf.long then some F.CAM_STAT_LONG
  else if b = Cf.lineErr then some F.CAM_STAT_LINEERR
  else if b = Cf.tapInc then some F.CAM_STAT_TAPINC
  else if b = Cf.drop then some F.CAM_STAT_DROP
  else if b = Cf.timeout then some F.CAM_STAT_TIMEOUT
  else none

/-- The frame in progress gets flag `b`, and CAMc_STAT its bit. -/
def State.camMark (s : State) (c b : Nat) : State :=
  match (s.cam c).frame with
  | none => s
  | some f =>
    let s := s.setCam c { s.cam c with frame := some (f.flag b) }
    match camStatFld b with
    | some x => s.setFld (R.CAM_STAT c) x 1
    | none => s

/-- The pixels received of line `y`. -/
def CamFrame.got (m : CamFrame) (y : Nat) : Nat :=
  (m.segs.filter fun g => g.1 = y).foldl (fun n g => n + g.2.2.length) 0

/-- A line of the frame in progress has ended with `n` pixels within WIDTH: too few make a line error (Table 12-4). -/
def State.camJudge (s : State) (c n : Nat) : State :=
  match (s.cam c).frame with
  | none => s
  | some f => if n < f.width then ((s.camMark c Cf.lineErr).camMark c Cf.incomplete).inc (R.CAM_LINEERR c) 1 else s

/-- The correction of R348. -/
def CamFrame.correct (m : CamFrame) (p : Nat) : Nat :=
  (clampI 0 65535 (fdiv (((p : Int) - m.fld 6 F.CAM_CORR_OFS) * m.fld 6 F.CAM_CORR_GAIN + 2048) 4096)).toNat

/-- The record header of Table 12-6, which is the tap header too. -/
def camHeader (f : CamFrame) (head : Bool) : List Byte :=
  let trig := f.trig.getD ⟨0, 0, 0, 0, []⟩
  let kind := f.fld 0 F.CAM_ESET_KIND + 4 * f.fld 0 F.CAM_ESET_CODE
  leBytes f.num 4 ++ leBytes (f.fld 0 F.CAM_ESET_ESID) 2 ++ leBytes kind 1 ++ leBytes f.flags 1 ++
    leBytes (if f.trig.isSome then ts96 (trig.at_ * 2 / 5) + trig.at_ * 2 % 5 * 65536 / 5 else 0) 12 ++ leBytes f.closeTs 12 ++
    leBytes f.lines 2 ++ leBytes (if f.trig.isSome then trig.src else f.fld 1 F.CAM_TRIG_SRC) 1 ++
    leBytes (if head then trig.tag else 0) 1 ++ leBytes trig.ref 4 ++ List.replicate 20 0 ++ leBytes f.num 4

/-- The pages of a frame slot of the tap area (R349). -/
def tapPages (w h : Nat) : Nat := cdiv (64 + 2 * w * h) 4096

/-- The pixels of one line of the tapped stage, absent ones as 0. -/
def CamFrame.tapLine (m : CamFrame) (corr : Bool) (y : Nat) : List Byte :=
  let px := (m.segs.filter fun g => g.1 = y).foldl (fun l g =>
    l.take g.2.1 ++ g.2.2.map (fun p => if corr then m.correct p else p) ++ l.drop (g.2.1 + g.2.2.length))
    (List.replicate m.width 0)
  (px.take m.width).flatMap fun p => leBytes p 2

/-- The tap of a frame that closes: header and lines, less the lines that could not be written in time (R349, R350). -/
def State.camTapWrite (s : State) (c : Nat) (f : CamFrame) : State :=
  let mode := s.fld (R.CAM_CFG c) F.CAM_CFG_TAPMODE
  match f.tap with
  | none => s
  | some page =>
    if mode ≠ 1 ∧ mode ≠ 2 then s
    else
      let a := (s.dramRegion 2).1 + s.fld (R.CAM_TAPCFG c) F.CAM_TAPCFG_OFS * 2 ^ 20 + 4096 * page
      let s := s.dramPut a (camHeader f (s.fld (R.CAM_CFG c) F.CAM_CFG_SRC = 1))
      (List.range f.height).foldl (fun s y =>
        if f.tapLost.contains y then s else s.dramPut (a + 64 + 2 * f.width * y) (f.tapLine (decide (mode = 2)) y)) s

/-- The frame in progress of pipeline `c` closes; `cut` tells that something other than its own end closes it (R346, Table 12-4). -/
def State.camClose (s : State) (c : Nat) (cut : Bool) : State :=
  let s := match (s.cam c).frame with
    | some f => match f.openLine with
      | some y => s.camJudge c (f.got y)
      | none => s
    | none => s
  match (s.cam c).frame with
  | none => s
  | some f =>
    let s := if cut || decide (f.lines < f.height) then
        ((s.camMark c Cf.short).camMark c Cf.incomplete).inc (R.CAM_SHORTCNT c) 1
      else s
    match (s.cam c).frame with
    | none => s
    | some f =>
      let f := { f with closeTs := s.nowTs, openLine := none }
      let s := s.camTapWrite c f
      s.setCam c { s.cam c with frame := none, closed := (s.cam c).closed ++ [f] }

/-- A trigger that its head refused as late is withdrawn (R340). -/
def State.camLate (s : State) (c tag : Nat) : State :=
  let m := s.cam c
  if m.await.any fun t => t.tag = tag then
    (s.setCam c { m with await := m.await.filter fun t => t.tag ≠ tag }).inc (R.CAM_TRGLATE c) 1
  else s

/-- The lane of head `n` leaves service: the frame in progress of its pipeline closes as SHORT (Table 12-4). -/
def State.camLaneStop (s : State) (n : Nat) : State :=
  (List.range 4).foldl (fun s c =>
    if s.fld (R.CAM_CFG c) F.CAM_CFG_SRC = 1 ∧ s.fld (R.CAM_CFG c) F.CAM_CFG_HEAD = n then s.camClose c true else s) s

/-! ## Events (R169) -/

def State.posted (s : State) (e : Nat) : Bool := bit (s.rd (R.TSC_EVT (e / 32))).toNat (e % 32)

/-- Event `e` is posted, and stays posted until the next commit of set 1. -/
def State.postEvent (s : State) (e : Nat) : State :=
  let s := s.wr (R.TSC_EVT (e / 32)) (s.rd (R.TSC_EVT (e / 32)) ||| BitVec.ofNat 32 (2 ^ (e % 32)))
  let s := (s.mapTrigger 2 e).camSource 4 e ((s.tick + 1) * 500 * 65536)
  if s.fld R.CEN_TRC_CFG F.CEN_TRC_CFG_TEVT = e then s.traceTrigger 4 else s

end Sys2Proof.Machine
end

