-- ==== Sys2Proof/Machine/Area.lean ====
section
/-! DEFINITION. The mirror-array ports MAP0 and MAP1 and Saffron (chapter 10, R284 to R311). -/

namespace Sys2Proof.Machine

def State.tiled (s : State) : Bool := s.fld R.MAP_CFG F.MAP_CFG_TILED = 1

/-- The ports that an operation of port `p` drives: both in tiled mode (R285). -/
def State.mapPorts (s : State) (p : Nat) : List Nat := if s.tiled then [0, 1] else [p]

/-- The slot that device time has reached. -/
def State.nowSlot (s : State) : Nat := s.now * 5 / 2

/-- The live values of set 28 + p; in tiled mode set 28 governs both ports (R285, R295). -/
def State.mapSet (s : State) (p : Nat) : MapSet :=
  let p := if s.tiled then 0 else p
  let f (o : Nat) (x : Fld) : Nat := s.lfld o x
  let ks := List.range 16
  { height := f (R.MAP_GEOM p) F.MAP_GEOM_HEIGHT, width := f (R.MAP_GEOM p) F.MAP_GEOM_WIDTH,
    npl := f (R.MAP_FRAME p) F.MAP_FRAME_NPL, vb := f (R.MAP_FRAME p) F.MAP_FRAME_VB,
    fsize := f (R.MAP_FRAME p) F.MAP_FRAME_FSIZE, tset := f (R.MAP_TIMING p) F.MAP_TIMING_TSET,
    trst := f (R.MAP_TIMING p) F.MAP_TIMING_TRST, guard := f (R.MAP_GUARD p) F.MAP_GUARD_GUARD,
    plane := ks.map fun k => f (R.MAP_SEQ_A p k) F.MAP_SEQ_A_PLANE,
    wave := ks.map fun k => f (R.MAP_SEQ_A p k) F.MAP_SEQ_A_WAVE,
    cmask := ks.map fun k => f (R.MAP_SEQ_A p k) F.MAP_SEQ_A_CMASK,
    wt := ks.map fun k => f (R.MAP_SEQ_A p k) F.MAP_SEQ_A_WT,
    plen := ks.map fun k => f (R.MAP_SEQ_B p k) F.MAP_SEQ_B_PLEN }

/-- The slots of entries 0 to k − 1. -/
def MapSet.before (m : MapSet) (k : Nat) : Nat := (m.plen.take k).foldl (· + ·) 0

/-- The slots of a whole frame. -/
def MapSet.total (m : MapSet) : Nat := m.before m.npl

/-- NL (R293). -/
def MapSet.nl (m : MapSet) : Nat := m.height / 4

/-- The slot of R_k (R292). -/
def Frame.rk (f : Frame) (k : Nat) : Nat := f.r0 + f.set.before k

/-- The tick of V_n (R295). -/
def Frame.vTick (f : Frame) : Nat := (f.rk (f.set.npl - 1) - f.set.vb * 1250) / 1250

/-! ## Frame buffers (R287 to R291) -/

def State.bufState (s : State) (p b : Nat) : Nat := (s.rd (R.MAP_BUFST p (b / 8))).toNat / 2 ^ (4 * (b % 8)) % 16

def State.setBuf (s : State) (p b v : Nat) : State := s.setFld (R.MAP_BUFST p (b / 8)) ⟨4 * (b % 8), 4⟩ v

/-- NBUF of port p, from the live FSIZE (R287). -/
def State.nbuf (s : State) (p : Nat) : Nat :=
  let z := (s.mapSet p).fsize
  if z = 0 then 0 else min 64 ((s.dramRegion p).2 / (z * 2 ^ 20))

/-- A buffer is released by scan-out: DONE, or FREE when its FREE is pending (R288, R290). -/
def State.releaseBuf (s : State) (p b : Nat) : State := s.setBuf p b (if 8 ≤ s.bufState p b then 0 else 4)

/-- A buffer changes between QUEUED, SHOWING and KEPT, with its pending FREE kept. -/
def State.moveBuf (s : State) (p b v : Nat) : State := s.setBuf p b (s.bufState p b / 8 * 8 + v)

def State.syncDepth (s : State) (p : Nat) : State :=
  s.setFld (R.MAP_QDEPTH p) F.MAP_QDEPTH_QDEPTH (s.map p).queue.length

/-- A SUBMIT or FREE of port p is refused (R289). -/
def State.mapRefuse (s : State) (p cause : Nat) : State :=
  (((s.setFld (R.MAP_STAT p) F.MAP_STAT_SUBREJ 1).setFld (R.MAP_STAT p) F.MAP_STAT_SUBCAUSE cause).inc (R.MAP_SUBREJ p) 1)

/-- A write of MAPp_SUBMIT (R289). -/
def State.mapSubmit (s : State) (p b : Nat) : State :=
  if p = 1 && s.tiled then s.mapRefuse p 4
  else if s.nbuf p ≤ b then s.mapRefuse p 1
  else if s.bufState p b ≠ 0 ∧ s.bufState p b ≠ 4 then s.mapRefuse p 2
  else if 16 ≤ (s.map p).queue.length then s.mapRefuse p 3
  else (s.mapPorts p).foldl (fun s p =>
    ((s.setMap p { s.map p with queue := (s.map p).queue ++ [b] }).setBuf p b 1).syncDepth p) s

/-- A write of MAPp_FREE (R290). -/
def State.mapFree (s : State) (p b : Nat) : State :=
  if p = 1 && s.tiled then s.mapRefuse p 4
  else
    let st := s.bufState p b
    if st = 0 then s
    else if st = 4 then (s.mapPorts p).foldl (fun s p => s.setBuf p b 0) s
    else
      let s := (s.mapPorts p).foldl (fun s p => s.setBuf p b (st % 8 + 8)) s
      (s.setFld (R.MAP_STAT p) F.MAP_STAT_DEFERRED_FREE 1).inc (R.MAP_DEFERFREE p) 1

/-! ## Frames -/

/-- Class c is in use and driven by port p (R286). -/
def State.classOf (s : State) (p c : Nat) : Bool :=
  bit (s.fld R.MAP_CFG F.MAP_CFG_SRC_EN) c && (s.tiled || s.fld R.MAP_CFG F.MAP_CFG_SRC_PORT / 2 ^ c % 2 = p)

/-- The Saffron update of one class from its target and energy: the new scale and whether the clamp acted (R300). -/
def saffronStep (sc d e gain smin smax : Nat) : Nat × Bool :=
  let q := tdivN (((d : Int) - e) * 65536) e
  let delta := fdiv ((sc : Int) * q) 65536
  let raw := (sc : Int) + fdiv (delta * gain) 65536
  let v := min (max raw smin) smax
  (v.toNat, decide (v ≠ raw))

/-- Saffron at a latch of port p (R300); in tiled mode both ports latch together, and it runs once (log entry 32). -/
def State.saffron (s : State) (p : Nat) : State :=
  let ref := s.fld R.MAP_SAF_CFG F.MAP_SAF_CFG_REF
  if s.fld R.MAP_SAF_CFG F.MAP_SAF_CFG_EN = 0 || !s.classOf p ref || (s.tiled && p = 1) then s
  else match (s.map p).last with
    | none => s
    | some (ended, ok, e) =>
      if !ok || decide (s.nowSlot < ended + 2500) then s
      else
        let abs := s.fld R.MAP_SAF_CFG F.MAP_SAF_CFG_ABS = 1
        (List.range 4).foldl (fun s c =>
          if !s.classOf p c || (c = ref && !abs) then s
          else
            let ec := e.getD c 0
            if ec = 0 ∨ ec = 0xFFFFFFFF then s.inc R.MAP_SAF_NOSIG 1
            else
              let d := if c = ref then (s.rd R.MAP_SAF_TGT).toNat
                else ((s.rd (R.MAP_SAF_RATIO c)).toNat * e.getD ref 0 + 0x8000) / 65536
              let (v, lim) := saffronStep (s.rd (R.MAP_SAF_S c)).toNat d ec (s.fld R.MAP_SAF_CFG F.MAP_SAF_CFG_GAIN)
                (s.rd (R.MAP_SAF_SMIN c)).toNat (s.rd (R.MAP_SAF_SMAX c)).toNat
              let s := s.wr (R.MAP_SAF_S c) (BitVec.ofNat 32 v)
              if lim then s.setFld R.MAP_SAF_STAT F.MAP_SAF_STAT_LIMIT (setBit (s.fld R.MAP_SAF_STAT F.MAP_SAF_STAT_LIMIT) c true)
              else s) s

/-- The AFD block of a frame on every lane of a port (R309). -/
def State.emitAfd (s : State) (p : Nat) (f : Frame) : State :=
  let waves := ((List.range f.set.npl).map fun k => f.set.wave.getD k 0 * 2 ^ (2 * k)).foldl (· + ·) 0
  (List.range 4).foldl (fun s l =>
    s.emit (.frame (24 + 4 * p + l) (f.r0 / 1250) [0x53, f.set.npl - 1, b2n f.rep, b2n f.dark, f.num, waves])) s

/-- The latch of the frame of port p that starts at slot `r0` (R295, R304). -/
def State.latchFrame (s : State) (p r0 : Nat) (prev : Option Frame) : State :=
  let s := s.saffron p
  let m := s.map p
  let permitted := s.pulsesPermitted
  let num := (match prev with
    | some f => f.num + 1
    | none => (s.rd (R.MAP_FNUM p)).toNat + 1) % 2 ^ 32
  let old : Option Nat := match prev with
    | some f => f.buf
    | none => m.kept
  let mk (b : Option Nat) (popped rep dark : Bool) : Frame :=
    { num := num, buf := b, popped := popped, rep := rep, dark := dark, r0 := r0, set := s.mapSet p,
      scales := (List.range 4).map fun c => (s.rd (R.MAP_SAF_S c)).toNat, k := 0, fired := 0, part := false, late := false,
      cap := false, lateCommit := decide (m.served = 2), rowBad := false, e := [0, 0, 0, 0], eOk := true }
  let holdLast := fget m.ctl F.MAP_CTL_HOLDLAST = 1
  let (f, s) :=
    if !permitted then (mk old false false true, s)
    else match m.queue with
      | [] =>
        (mk old false true false,
          if holdLast then s else (s.inc (R.MAP_UNDERRUN p) 1).setFld (R.MAP_STAT p) F.MAP_STAT_UNDERRUN 1)
      | b :: t =>
        (mk (some b) true false false, ((s.setMap p { s.map p with queue := t }).moveBuf p b 2).syncDepth p)
  let m := s.map p
  let s := s.setMap p { m with next := m.next ++ [f], unlatched := m.unlatched && decide (m.served = 0), served := 0,
                               lines := if prev.isNone then 0 else m.lines, loading := if prev.isNone then true else m.loading,
                               waiting := false }
  s.emitAfd p f

/-- RUN clears: the latched buffers return to the queue's head, the KEPT buffer is released, the done event is posted and the stop is
recorded (R306). -/
def State.clearRun (s : State) (p cause : Nat) : State :=
  let m := s.map p
  let back := m.next.filterMap fun f => if f.popped then f.buf else none
  let s := back.foldl (fun s b => s.moveBuf p b 1) s
  let s := match m.kept with
    | some b => if back.contains b ∨ m.queue.contains b then s else s.releaseBuf p b
    | none => s
  let s := s.setMap p { m with waiting := false, trigAt := none, queue := back ++ m.queue, kept := none, cur := none, next := [],
                               lines := 0, loading := false, skip := false, pulses := [], stopping := false }
  let s := (s.syncDepth p).setFld (R.MAP_STAT p) F.MAP_STAT_RUN 0
  let s := if fget m.ctl F.MAP_CTL_DONE_EN = 1 then s.postEvent (fget m.ctl F.MAP_CTL_DEVT) else s
  s.cairn 6 1 false (leBytes p 1 ++ leBytes cause 1 ++ leBytes (s.rd (R.MAP_FNUM p)).toNat 4)

/-- A frame of port p ends: buffers, energies, the count and the quality record (R299, R305, R307). -/
def State.endFrame (s : State) (p : Nat) (f : Frame) (cut : Bool) : State :=
  let f := if cut then { f with part := true } else f
  let unshown := f.fired = 0
  let m := s.map p
  let back := unshown && f.popped && !cut
  let s :=
    match f.buf with
    | none => s
    | some b =>
      if back then
        ((s.setMap p { m with queue := b :: m.queue }).moveBuf p b 1).syncDepth p
      else
        let s := match m.kept with
          | some k => if k = b then s else s.releaseBuf p k
          | none => s
        (s.setMap p { s.map p with kept := some b }).moveBuf p b 3
  let s := (List.range 4).foldl (fun s c => if s.classOf p c then s.wr (R.MAP_SAF_E c) (BitVec.ofNat 32 (f.e.getD c 0)) else s) s
  let s := if f.eOk || (s.tiled && p = 1) then s else s.inc R.MAP_SAF_NOSIG 1
  let m := s.map p
  let s := s.setMap p { m with count := if back || f.dark then m.count else m.count + 1, cur := none, pulses := [],
                               last := some (s.nowSlot, !f.part && !unshown && f.eOk, f.e) }
  if fget m.ctl F.MAP_CTL_QREC = 1 then
    let v := f.buf.getD 0 + 2 ^ 8 * b2n f.rep + 2 ^ 9 * b2n f.dark + 2 ^ 10 * b2n f.part + 2 ^ 11 * b2n unshown +
      2 ^ 12 * b2n f.late + 2 ^ 13 * b2n f.cap + 2 ^ 14 * b2n f.lateCommit + 2 ^ 15 * b2n f.rowBad
    let t := ts96 (f.r0 * 2 / 5) % 2 ^ 64
    s.quality (R.MAP_QDROP p) (qrec t 0xFFFF (24 + p) 0xFF f.num v (f.e.getD 0 0) (f.e.getD 1 0) 0 f.fired)
  else s

/-- The port stops at once, with the frame in progress closed as PARTIAL (R306). -/
def State.mapStopNow (s : State) (p cause : Nat) : State :=
  if s.fld (R.MAP_STAT p) F.MAP_STAT_RUN = 0 then s
  else
    let s := match (s.map p).cur with
      | some f => s.endFrame p f true
      | none => s
    s.clearRun p cause

/-- The port of a lane that is lost, or whose driver reports a fault, stops with the port it is tiled with (R306). -/
def State.mapLaneStop (s : State) (p cause : Nat) : State :=
  (s.mapPorts p).foldl (fun s q =>
    if s.fld (R.MAP_STAT q) F.MAP_STAT_RUN = 0 then s
    else (if cause = 2 then s.setFld (R.MAP_STAT q) F.MAP_STAT_LANELOSS 1 else s).mapStopNow q cause) s

/-- The pulses that entry k of a frame is due to fire: class, first slot, width, and whether PWMAX capped it (R297). -/
def Frame.pulsesOf (f : Frame) (k base0 : Nat) (base pdly : Nat → Nat) (use : Nat → Bool) : List (Nat × Nat × Nat × Bool) :=
  (List.range 4).filterMap fun c =>
    if !(bit (f.set.cmask.getD k 0) c && use c) then none
    else
      let n := (base c * f.set.wt.getD k 0 + 0x4000) / 32768
      let raw := (n * f.scales.getD c 0 + 0x8000) / 65536
      let cap := f.set.plen.getD k 0 - f.set.tset - pdly c - f.set.guard
      some (c, base0 + f.set.tset + pdly c, min cap raw, decide (cap < raw))

/-- The source pulses of port p before slot `x` that have not been judged: fired where pulses are permitted now, suppressed otherwise
(R298). -/
def State.pulseJudge (s : State) (p x : Nat) : State :=
  let m := s.map p
  match m.cur with
  | none => s
  | some f =>
    let due := m.pulses.filter fun d => decide (d.2.1 < x)
    let left := (m.pulses.map fun d => (d.1, max d.2.1 x, d.2.2)).filter fun d => decide (d.2.1 < d.2.2)
    let f :=
      if due.isEmpty then f
      else if s.pulsesPermitted && !s.forceZero then { f with fired := due.foldl (fun v d => setBit v d.1 true) f.fired }
      else { f with part := true }
    s.setMap p { m with cur := some f, pulses := left }

/-- The reset of the next entry of port p, or the start of its next frame (R292, R297, R305). -/
def State.planeReset (s : State) (p : Nat) : State :=
  let go (s : State) (f : Frame) : State :=
    let k := f.k
    let rk := f.rk k
    let m := s.map p
    let loaded := decide (f.set.nl ≤ m.lines) && !m.skip
    let due := if loaded && !f.dark then
        f.pulsesOf k rk (fun c => s.fld (R.MAP_SAF_BASE c) F.MAP_SAF_BASE_BASE) (fun c => s.fld (R.MAP_SAF_PDLY c) F.MAP_SAF_PDLY_PDLY)
          (fun c => s.classOf p c)
      else []
    let capped := due.filter fun d => d.2.2.2
    let s := if capped.isEmpty then s else (s.inc (R.MAP_PCAP p) capped.length).setFld (R.MAP_STAT p) F.MAP_STAT_PCAP 1
    let lit := due.filter fun d => d.2.2.1 ≠ 0
    let ok := s.pulsesPermitted && !s.forceZero
    let s := if loaded then s.emit (.reset p f.num k rk) else s
    let s := if ok then lit.foldl (fun s d => s.emit (.pulse p d.1 d.2.1 d.2.2.1)) s else s
    let f := { f with k := k + 1, cap := f.cap || !capped.isEmpty, late := f.late || !loaded }
    let s := s.setMap p { s.map p with cur := some f, lines := 0, loading := decide (f.k < f.set.npl) || !m.next.isEmpty, skip := false,
                                       pulses := lit.map fun d => (d.1, d.2.1, d.2.1 + d.2.2.1) }
    s.pulseJudge p (1250 * (s.tick + 1))
  let m := s.map p
  let start (s : State) : State :=
    match (s.map p).next with
    | [] => s.clearRun p 0
    | f :: t =>
      let s := s.setMap p { s.map p with next := t }
      let ts := ts96 (f.r0 * 2 / 5)
      let s := ((s.wr (R.MAP_FNUM p) (BitVec.ofNat 32 f.num)).wr (R.MAP_FBUF p)
        (BitVec.ofNat 32 (f.buf.getD 0 + 2 ^ 8 * b2n f.rep + 2 ^ 9 * b2n f.dark)))
      let s := (List.range 3).foldl (fun s i => s.wr (R.MAP_FLIP p i) (BitVec.ofNat 32 (ts / 2 ^ (32 * i)))) s
      go s f
  match m.cur with
  | none => match m.next with
    | f :: _ => if f.r0 ≤ s.nowSlot then start s else s
    | [] => s
  | some f =>
    if s.nowSlot < f.rk f.k then s
    else
      let s := s.pulseJudge p (f.rk f.k)
      match (s.map p).cur with
      | none => s
      | some f =>
        if f.k < f.set.npl then go s f
        else
          let s := s.endFrame p f false
          let m := s.map p
          if (fget m.ctl F.MAP_CTL_CONT = 0 ∧ m.nfr ≤ m.count) ∨ m.stopping then s.clearRun p 0 else start s

/-- The pulse fields of the tick that begins are judged (R298). -/
def State.mapTick (s : State) (p : Nat) : State := s.pulseJudge p (1250 * (s.tick + 1))

/-- The frame and entry whose lines port p is loading, if lines may leave (R293, R295). -/
def MapP.target (m : MapP) : Option (Frame × Nat) :=
  match m.cur with
  | some f => if f.k < f.set.npl then some (f, f.k) else m.next.head?.map fun g => (g, 0)
  | none => m.next.head?.map fun g => (g, 0)

/-- The next line of four rows leaves, one row on each lane (R293, R310); a row whose data is poisoned is sent as zeros (Table 16-4). -/
def State.lineSend (s : State) (p : Nat) : State :=
  let m := s.map p
  match m.target with
  | none => s
  | some (f, k) =>
    if m.skip ∨ f.set.nl ≤ m.lines then s
    else
      let w := f.set.width / 8
      let (s, bad) := (List.range 4).foldl (fun (s, bad) l =>
        let y := 4 * m.lines + l
        let a := (s.dramRegion p).1 + f.buf.getD 0 * f.set.fsize * 2 ^ 20 + f.set.plane.getD k 0 * f.set.height * w + y * w
        let poisoned := s.dramPoisoned a w
        let bs := if poisoned then List.replicate w (0 : Byte) else s.dramBytes a w
        (s.emit (.row (24 + 4 * p + l) f.num k y bs), bad || poisoned)) (s, false)
      let m := { m with lines := m.lines + 1 }
      let mark (g : Frame) : Frame := if g.num = f.num then { g with rowBad := g.rowBad || bad } else g
      s.setMap p { m with cur := m.cur.map mark, next := m.next.map mark }

/-- An entry that is not loaded by R_k − VB × 500 ns gets no reset and no pulse (R294). -/
def State.planeLate (s : State) (p : Nat) : State :=
  let m := s.map p
  match m.target with
  | none => s
  | some (f, k) =>
    if m.skip ∨ f.set.nl ≤ m.lines ∨ s.nowSlot + f.set.vb * 1250 < f.rk k then s
    else
      ((s.setMap p { m with skip := true }).inc (R.MAP_PLANELATE p) 1).setFld (R.MAP_STAT p) F.MAP_STAT_PLANELATE 1

/-- GO written to MAPp_CTL (R303). -/
def State.mapGo (s : State) (p : Nat) : State :=
  if p = 1 && s.tiled then s.setFld (R.MAP_STAT p) F.MAP_STAT_RES St.badParam
  else
    let m := s.mode
    let modeOk := m = .armed || m = .expose || m = .hold || m = .degraded || m = .service
    let ports := s.mapPorts p
    let z := (s.mapSet p).fsize * 2 ^ 20
    let res :=
      if !modeOk then St.wrongMode
      else if ports.any fun q => decide ((s.dramRegion q).2 < z) then St.badParam
      else if (ports.any fun q => (List.range 4).any fun l => !s.inService (24 + 4 * q + l)) ||
          (s.map p).queue.isEmpty || s.fld (R.MAP_STAT p) F.MAP_STAT_RUN = 1 then St.notReady
      else if s.fld (R.MAP_CTL p) F.MAP_CTL_CONT = 0 && s.rd (R.MAP_NFR p) = 0 then St.empty
      else St.done
    let s := s.setFld (R.MAP_STAT p) F.MAP_STAT_RES res
    if res ≠ St.done then s
    else
      let ctl := s.rd (R.MAP_CTL p)
      let n := (s.rd (R.MAP_NFR p)).toNat
      ports.foldl (fun s q =>
        (s.setMap q { s.map q with waiting := true, trigAt := if fget ctl F.MAP_CTL_TRIG = 0 then some s.now else none,
                                   ctl := ctl, nfr := n, count := 0, stopping := false }).setFld
          (R.MAP_STAT q) F.MAP_STAT_RUN 1) s

/-- STOP written to MAPp_CTL (R306): the port stops after the frame in progress, or at once when no frame has started. -/
def State.mapStop (s : State) (p : Nat) : State :=
  if s.fld (R.MAP_STAT p) F.MAP_STAT_RUN = 0 then s
  else (s.mapPorts p).foldl (fun s q =>
    if (s.map q).cur.isNone then s.clearRun q 0 else s.setMap q { s.map q with stopping := true }) s

/-! ## The commands -/

/-- A write of MAPp_CTL: its fields, then GO, then STOP (R303, R306). -/
def State.mapCtlWrite (s : State) (p : Nat) (v : Word) : State :=
  let keep := fmask F.MAP_CTL_GO ||| fmask F.MAP_CTL_STOP ||| BitVec.ofNat 32 0x3F0000
  let s := s.wr (R.MAP_CTL p) (v &&& ~~~keep)
  let s := if fget v F.MAP_CTL_GO = 1 then s.mapGo p else s
  if fget v F.MAP_CTL_STOP = 1 then s.mapStop p else s

/-- MAP_GO: a write of MAPp_CTL with GO = 1 (R303). -/
def execMapGo (p : Nat) (v : Word) (s : State) : Res State :=
  hostOp s fun s => if 2 ≤ p ∨ fget v F.MAP_CTL_GO = 0 then s else s.mapCtlWrite p v

/-- MAP_STOP: a write of MAPp_CTL with STOP = 1 (R306). -/
def execMapStop (p : Nat) (v : Word) (s : State) : Res State :=
  hostOp s fun s => if 2 ≤ p ∨ fget v F.MAP_CTL_STOP = 0 then s else s.mapCtlWrite p v

/-- MAP_SUBMIT (R289): A write to MAPp_SUBMIT queues a frame buffer, or is refused. -/
def execMapSubmit (p : Nat) (v : Word) (s : State) : Res State :=
  if s.mode = .boot ∨ 2 ≤ p then done s else done (s.mapSubmit p (v.toNat % 64))

/-- MAP_FREE (R290): A write to MAPp_FREE frees a buffer at once, or marks it FREE_PENDING. -/
def execMapFree (p : Nat) (v : Word) (s : State) : Res State :=
  if s.mode = .boot ∨ 2 ≤ p then done s else done (s.mapFree p (v.toNat % 64))

/-- MAP_START_TRIGGER (R296): the first frame is latched at the trigger instant T and starts at the first tick boundary at or after T +
1100 ns + TRST × 400 ps + NL × 100 ns + VB × 500 ns. -/
def execMapStartTrigger (p : Nat) (s : State) : Res State :=
  let m := s.map p
  match m.waiting, m.trigAt with
  | true, some t =>
    let x := s.mapSet p
    let ps := t * 1000 + 1100000 + x.trst * 400 + x.nl * 100000 + x.vb * 500000
    done ((s.mapPorts p).foldl (fun s q => s.latchFrame q (cdiv ps 500000 * 1250) none) s)
  | _, _ => done s

/-- The next frame of port `p` is latched at its latch point, on every port that runs together with it (R304). -/
def State.frameLatch (s : State) (p : Nat) : State :=
  let m := s.map p
  let newest : Option Frame := match m.next.getLast? with
    | some f => some f
    | none => m.cur
  match newest with
  | none => s
  | some f =>
    if s.tick < f.vTick ∨ m.stopping then s
    else ((s.mapPorts p).foldl (fun s q =>
      let m := s.map q
      s.latchFrame q (f.r0 + f.set.total) (match m.next.getLast? with
        | some g => some g
        | none => m.cur)) s)

/-- FRAME_LATCH (R295): at V_n of the newest frame the next one is latched. -/
def execFrameLatch (p : Nat) (s : State) : Res State := done (s.frameLatch p)

/-- PLANE_RESET (R292): At R_k the array driver resets its mirrors to the loaded plane and pulses follow. -/
def execPlaneReset (p ns : Nat) (s : State) : Res State :=
  let s := s.arrive ns
  done ((s.mapPorts p).foldl (fun s q => s.planeReset q) s)

/-- LINE_SEND (R293): A line of four rows leaves in its 100 ns line slot. -/
def execLineSend (p : Nat) (s : State) : Res State :=
  done ((s.mapPorts p).foldl (fun s q => s.lineSend q) s)

/-- PLANE_LATE (R294): An entry not loaded by R_k - VB x 500 ns is skipped with no reset and no pulse. -/
def execPlaneLate (p ns : Nat) (s : State) : Res State := done ((s.arrive ns).planeLate p)

end Sys2Proof.Machine
end

