-- ==== Sys2Proof/Machine/Modes.lean ====
section
/-! DEFINITION. Operating modes (chapter 02): mode changes, SAFE, HOLD, the interlock and relay events, the mode operations, and
the fault report of FLT (R431 to R433). -/

namespace Sys2Proof.Machine

/-! ## Mode changes -/

/-- The commands that wait for a PAUSE end with the mode that the device has reached (R49). -/
def State.endPauseWaits (s : State) : State :=
  (s.hq.cmds.filter fun c => c.wait = .pause).foldl (fun s c => s.endCmd c St.done s.mode.code 0) s

/-- A registration or trim run ends: the command ends with the heads that passed, and the pipeline's binding is restored (R386,
R389). -/
def State.calEnd (s : State) (status : Nat) : State :=
  if s.cal.kind = 0 then s
  else
    let c := s.cal
    let cam := s.fld R.CAL_CFG F.CAL_CFG_CAM
    let s := if c.kind = 1 then s.setFld (R.CAM_CFG cam) F.CAM_CFG_HEAD c.binding else s
    let s := s.setFld R.CAL_RUN F.CAL_RUN_BUSY 0
    let s := if c.kind = 1 then s.setFld R.CAL_PASS F.CAL_PASS_PASS c.passed else s
    let s := { s with cal := { c with kind := 0, heads := [], todo := [], trig := none, found := [], extremes := [] } }
    s.endSeq c.seq status c.passed 0

/-- A mode transition with what follows from it: EMIT_PERMIT clears on leaving SERVICE, a PAUSE in progress ends when tiles no longer
run (R49), a transition to SAFE ends a registration run (R389), diagnosis begins to run (R209), HOLD and SAFE trigger the trace
(R282), and the mirror-array ports stop on entry to IDLE, SAFE or BOOT
(R306). -/
def State.setMode (s : State) (m : Mode) : State :=
  let old := s.mode
  let s := s.enterMode m
  let s := if old = .service then
      { s.setFld R.GLB_SVC_CTRL F.GLB_SVC_CTRL_EMIT_PERMIT 0 with tsc := { s.tsc with svcGo := false } }
    else s
  let s := if m = .safe ∧ s.cal.kind = 1 then s.calEnd St.done else s
  let s := if m = .hold ∨ m = .safe then s.traceTrigger 2 else s
  let diag (x : Mode) : Bool := x = .armed || x = .expose || x = .hold || x = .degraded
  let s := if diag m && !diag old then { s with bld := { s.bld with diagSince := s.tick } } else s
  let s := if m = .idle ∨ m = .safe ∨ m = .boot then (s.mapStopNow 0 1).mapStopNow 1 1 else s
  let s := if old = .armed ∧ m = .expose then s.mapTrigger 1 0 else s
  if m = .expose ∨ m = .degraded then s
  else (s.setFld R.GLB_MODE F.GLB_MODE_PENDING 0).endPauseWaits

/-- EXPOSE, or DEGRADED while a degradation cause is recorded (Table 2-4). -/
def State.enterRun (s : State) : State :=
  s.setMode (if s.rd R.GLB_DEGR_CAUSE = 0 then .expose else .degraded)

/-! ## SAFE -/

/-- Whether an event of rank 2 moves the device to SAFE from the present mode (Table 2-4). -/
def safeFrom (m : Mode) : Bool := m = .armed || m = .expose || m = .hold || m = .degraded || m = .service

/-- Entry to SAFE with the causes `mask` of GLB_SAFE_CAUSE (R41, R51). In SAFE the causes are recorded; `from` tells whether the event
acts in the present mode. -/
def State.enterSafeIf (s : State) (from_ : Bool) (mask : Nat) : State :=
  if s.mode = .safe then s.wr R.GLB_SAFE_CAUSE (s.rd R.GLB_SAFE_CAUSE ||| BitVec.ofNat 32 mask)
  else if !from_ then s
  else
    let s := s.wr R.GLB_SAFE_CAUSE (s.rd R.GLB_SAFE_CAUSE ||| BitVec.ofNat 32 mask)
    let since := if s.forceZero then s.glb.forceSince else s.nowTs
    let s := s.interruptAll
    let s := { s with glb := { s.glb with latched := true, forceSince := since } }
    let s := s.setMode .safe
    s.cairn 1 1 true (leBytes (s.rd R.GLB_SAFE_CAUSE).toNat 4 ++ leBytes since 12)

def State.enterSafe (s : State) (mask : Nat) : State := s.enterSafeIf (safeFrom s.mode) mask

/-! ## The interlock view -/

/-- Every in-use input reads healthy. -/
def State.ilkHealthy (s : State) : Bool :=
  let use := fget s.glb.ilkCfg F.GLB_ILK_CFG_USE
  (use &&& s.fld R.GLB_ILK_STAT F.GLB_ILK_STAT_LEVEL) = use

def State.fbEnabled (s : State) : Bool := fget s.glb.ilkCfg F.GLB_ILK_CFG_FB_EN = 1

/-- The modes and the life-cycle state permit emission (R39, R435, Table 2-3). -/
def State.emitMode (s : State) : Bool :=
  s.lcEmits && (s.mode = .armed || s.mode = .expose || s.mode = .hold || s.mode = .degraded ||
    (s.mode = .service && s.fld R.GLB_SVC_CTRL F.GLB_SVC_CTRL_EMIT_PERMIT = 1))

/-- EMIT_EN_N is driven low (R39). -/
def State.emitEn (s : State) : Bool := s.emitMode && !s.forceZero && !(s.fbEnabled && s.glb.mismatch)

/-- GLB_ILK_STAT as it reads: EMIT_EN and GATE follow the device's state. -/
def State.ilkStat (s : State) : Word :=
  fput (fput (fput (s.rd R.GLB_ILK_STAT) F.GLB_ILK_STAT_EMIT_EN (b2n s.emitEn)) F.GLB_ILK_STAT_GATE
    (b2n (s.forceZero || !s.emitMode))) F.GLB_ILK_STAT_FB_OPEN (b2n (!s.glb.fbLow))

/-! ## Mode operations (Table 2-4, R47) -/

/-- GLB_ILK_CFG and GLB_ILK_CFG2 are latched (R36). -/
def State.latchIlk (s : State) : State :=
  { s with glb := { s.glb with ilkCfg := s.rd R.GLB_ILK_CFG, ilkCfg2 := s.rd R.GLB_ILK_CFG2 } }

/-- The device's area registers overlap or reach beyond 2 MiB (R215). -/
def State.areaBad (s : State) (a : Nat) : Bool :=
  let lo (a : Nat) : Nat := s.fld (R.BLD_CA_CFG a) F.BLD_CA_CFG_BASE
  let z (a : Nat) : Nat := s.fld (R.BLD_CA_CFG a) F.BLD_CA_CFG_SIZE
  z a ≠ 0 && (decide (512 < lo a + z a) ||
    (List.range 8).any fun b => b ≠ a && z b ≠ 0 && decide (lo a < lo b + z b) && decide (lo b < lo a + z a))

/-- The class of beamlet b of head h. -/
def State.classOfBeamlet (s : State) (h b : Nat) : Nat := (s.rd (R.BLD_H_BCLASS h)).toNat / 2 ^ (3 * b) % 8

/-- Head h fails the arming check of R215. -/
def State.headCfgBad (s : State) (h : Nat) : Bool :=
  let sh := s.rd (R.BLD_H_SHARE h)
  let grp (b : Nat) : Nat := fget sh F.BLD_H_SHARE_GRP / 2 ^ (2 * b) % 4
  let w := fget sh F.BLD_H_SHARE_W
  ((List.range 8).any fun b =>
    (grp b ≠ 0 && (w = 0 || decide (w < s.fld (R.BLD_CLASS_TIME (s.classOfBeamlet h b)) F.BLD_CLASS_TIME_TON_MIN))) ||
    decide (2500 < s.fld (R.BLD_CLASS_TIME (s.classOfBeamlet h b)) F.BLD_CLASS_TIME_T_MEAS)) ||
  s.areaBad (s.fld (R.BLD_H_BCFG h) F.BLD_H_BCFG_AREA)

/-- The lowest failing head of R215; a class or area that fails and that no head names reports 31. -/
def State.cfgFail (s : State) : Option Nat :=
  match (List.range 24).find? s.headCfgBad with
  | some h => some h
  | none =>
    if ((List.range 8).any fun c => decide (2500 < s.fld (R.BLD_CLASS_TIME c) F.BLD_CLASS_TIME_T_MEAS)) ||
        (List.range 8).any s.areaBad then some 31
    else none

/-- A head lane is configured (Table 2-4). -/
def State.headConfigured (s : State) (h : Nat) : Bool :=
  s.fld (R.LN_CFG h) F.LN_CFG_EN = 1 && s.fld (R.LN_CFG h) F.LN_CFG_ROLE = 0

/-- A channel in the EXPWIN condition forbids ARM and START (Table 14-4). -/
def State.expwin (s : State) : Bool :=
  (List.range 12).any fun c => s.fld (R.THM_CH_COND c) F.THM_CH_COND_EXPOUT = 1

/-- The arming checks of the class, head and area registers, with BLD_STAT.CFG_ERR (R215). -/
def State.armCheck (s : State) : Bool × State :=
  match s.cfgFail with
  | none => (true, s)
  | some h => (false, (s.setFld R.BLD_STAT F.BLD_STAT_CFG_ERR 1).setFld R.BLD_STAT F.BLD_STAT_REJ_HEAD h)

/-- ARM: the heads with lanes in service enter the eligible set. -/
def State.opArm (s : State) : Nat × State :=
  if s.mode ≠ .idle ∨ s.lc ≠ 2 then (St.wrongMode, s)
  else
    let s := s.latchIlk
    if !s.ilkHealthy then (St.ilkActive, s)
    else if s.rd R.FLT_FATAL ≠ 0 then (St.faultPending, s)
    else if ((List.range 24).any fun h => s.headConfigured h && !s.inService h) || s.expwin then (St.notReady, s)
    else
      let (ok, s) := s.armCheck
      if !ok then (St.notReady, s)
      else
        let live := (List.range 24).filter fun h => s.headConfigured h && s.inService h
        let s := s.setFld R.TSC_HEADS F.TSC_HEADS_LIVE (live.foldl (fun v h => v + 2 ^ h) 0)
        let s := (List.range 24).foldl (fun s h => s.setFld (R.TSC_H_STAT h) F.TSC_H_STAT_LIVE (b2n (live.contains h))) s
        (St.done, s.setMode .armed)

def State.opDisarm (s : State) : Nat × State :=
  if s.mode ≠ .armed then (St.wrongMode, s) else (St.done, s.setMode .idle)

/-- At each START and RESUME, an INTERRUPTED tile whose head has left the eligible set becomes DETOUR (R178). -/
def State.unbindLost (s : State) : State :=
  ((List.range 24).foldl (fun s h => if s.liveHead h then s else s.unbind h) s).parkTiles

/-- START (R46, R166). -/
def State.opStart (s : State) : Nat × State :=
  if s.mode ≠ .armed then (St.wrongMode, s)
  else if !s.ilkHealthy then (St.ilkActive, s)
  else if !s.tsc.committed || (s.ntiles ≠ 0 && (s.tileD 0).cal) || s.expwin then (St.notReady, s)
  else (St.done, ({ s with tsc := { s.tsc with startAt := some s.now } }).unbindLost.enterRun)

def State.opPause (s : State) : Nat × State :=
  if !s.runMode then (St.wrongMode, s)
  else
    let t := if s.fld R.GLB_MODE F.GLB_MODE_PENDING = 1 then s.glb.pauseAt else s.now
    (St.done, { s.setFld R.GLB_MODE F.GLB_MODE_PENDING 1 with glb := { s.glb with pauseAt := t } })

/-- HOLD ends: the run goes on. -/
def State.leaveHold (s : State) : State :=
  ({ s with glb := { s.glb with holdTrips := 0, holdPaused := false } }).unbindLost.enterRun

def State.opResume (s : State) : Nat × State :=
  if s.mode ≠ .hold then (St.wrongMode, s)
  else if s.forceZero then (St.ilkActive, s)
  else (St.done, s.leaveHold)

/-- Every tile of the live pool that is not in a final state closes as aborted (Table 2-4). -/
def State.abortTiles (s : State) : State :=
  let s := (List.range 24).foldl (fun s h => s.closeTile h Ts.aborted) s
  let s := s.tsc.jobList.foldl (fun s j => s.prodFlag j.rcd 1) s
  let s := { s with tsc := { s.tsc with jobList := [], ctxs := [] } }
  (List.range s.ntiles).foldl (fun s i => if finalState (s.tileState i) then s else s.setTile i Ts.aborted) s

def State.opAbort (s : State) : Nat × State :=
  if s.runMode ∨ s.mode = .hold then (St.done, s.abortTiles.setMode .armed)
  else if s.mode = .idle ∨ s.mode = .armed then (St.done, s.abortTiles)
  else (St.wrongMode, s)

def State.opEnterService (s : State) : Nat × State :=
  if s.mode ≠ .idle then (St.wrongMode, s)
  else
    let s := s.latchIlk
    let (ok, s) := s.armCheck
    if ok then (St.done, s.setMode .service) else (St.notReady, s)

def State.opLeaveService (s : State) : Nat × State :=
  if s.mode ≠ .service then (St.wrongMode, s)
  else if ((List.range 24).any fun h => (s.held h).isSome) || s.cal.kind = 1 then (St.notReady, s)
  else (St.done, s.setMode .idle)

def State.opEnterSafe (s : State) : Nat × State :=
  if s.mode = .boot ∨ s.mode = .safe then (St.wrongMode, s) else (St.done, s.enterSafeIf true 2)

/-- CLEAR_SAFE (R52). -/
def State.opClearSafe (s : State) : Nat × State :=
  if s.mode ≠ .safe then (St.wrongMode, s)
  else if !s.ilkHealthy then (St.ilkActive, s)
  else if s.rd R.FLT_FATAL ≠ 0 then (St.faultPending, s)
  else if s.fbEnabled && s.glb.fbLow then (St.relay, s)
  else (St.done, ({ s with glb := { s.glb with latched := false } }).setMode .idle)

/-- Mode operation `op` of GLB_MODE_REQ (Table 2-4). -/
def State.modeOp (s : State) (op : Nat) : Nat × State :=
  match op with
  | 1 => s.opArm
  | 2 => s.opDisarm
  | 3 => s.opStart
  | 4 => s.opPause
  | 5 => s.opResume
  | 6 => s.opAbort
  | 7 => s.opEnterService
  | 8 => s.opLeaveService
  | 9 => s.opEnterSafe
  | 10 => s.opClearSafe
  | _ => (St.badParam, s)

/-- A write of GLB_MODE_REQ.OP: the operation, with its result in GLB_MODE_RES (R46, R47). OP = 0 has no effect. -/
def State.modeReq (s : State) (op : Nat) : State :=
  if op = 0 then s
  else
    let (code, s) := s.modeOp op
    s.wr R.GLB_MODE_RES (BitVec.ofNat 32 (op + 256 * code))

/-- A PAUSE that the device itself performs; refused where Table 2-4 does not permit it. -/
def State.selfPause (s : State) : State := s.opPause.2

/-! ## Fault reports (R431 to R433) -/

/-- The severity of Table 16-5. -/
def faultSev (code : Nat) : Nat :=
  if [0x03, 0x12, 0x21, 0x48, 0x50, 0x58, 0x59].contains code then 3
  else if [0x01, 0x02, 0x04, 0x10, 0x11, 0x1A].contains code then 2
  else if [0x18, 0x19, 0x20, 0x24].contains code then 1
  else 0

/-- The FLT_ESC field of a note fault (R432). -/
def faultEsc (code : Nat) : Option Fld :=
  if code = 0x28 then some F.FLT_ESC_LATE_FRAME
  else if code = 0x30 then some F.FLT_ESC_AXIS_AMP
  else if code = 0x38 then some F.FLT_ESC_REF_LOST
  else if code = 0x40 then some F.FLT_ESC_FLASH_WRITE
  else if code = 0x22 then some F.FLT_ESC_SRAM_UE
  else if code = 0x25 then some F.FLT_ESC_DRAM_UE
  else none

/-- The FLT_FATAL bit of a fatal fault. -/
def fatalBit (code : Nat) : Fld :=
  if code = 0x03 then F.FLT_FATAL_MCP_NONE
  else if code = 0x12 then F.FLT_FATAL_BSQ_EXC
  else if code = 0x21 then F.FLT_FATAL_SRAM
  else if code = 0x48 then F.FLT_FATAL_EMITTER
  else if code = 0x50 then F.FLT_FATAL_THERMAL
  else if code = 0x58 then F.FLT_FATAL_SUPPLY
  else if code = 0x59 then F.FLT_FATAL_CLOCK
  else F.FLT_FATAL_ESCALATED

/-- FLT records a fault, reports it and applies its severity (R431, R432, Table 16-6). -/
def State.report (s : State) (code unit detail detail2 tick : Nat) : State :=
  let esc := match faultEsc code with
    | some f => s.fld R.FLT_ESC f
    | none => 0
  let sev := if esc = 0 then faultSev code else if esc = 1 then 2 else 3
  let epoch := if unit = 0xFFFF then 0 else (s.unitEpoch unit).getD 0
  let payload := leBytes unit 2 ++ leBytes sev 1 ++ leBytes epoch 1 ++ leBytes detail 4 ++ leBytes detail2 4 ++ leBytes tick 4 ++
    List.replicate 12 (0 : Byte)
  let s := s.cairn 12 code (sev = 3) payload
  let s := s.wr R.FLT_LAST (BitVec.ofNat 32 (code + 2 ^ 8 * sev + 2 ^ 16 * unit))
  let s := s.setFld R.FLT_STAT ⟨sev, 1⟩ 1
  let s := s.msix (s.fld R.FLT_CFG F.FLT_CFG_VEC)
  if sev = 3 then (s.setFld R.FLT_FATAL (if esc = 0 then fatalBit code else F.FLT_FATAL_ESCALATED) 1).enterSafe 4
  else if esc = 1 then s.selfPause
  else s

/-! ## The commands: interlocks and relay -/

/-- ILK_INPUT_EDGE (R35): input `i` takes a level. The filter then judges it by ILK_TRIP_CONFIRMED or ILK_HEALTHY_CONFIRMED. -/
def execIlkInputEdge (i : Nat) (high : Bool) (ns : Nat) (s : State) : Res State :=
  let s := s.arrive ns
  done (if 8 ≤ i then s else { s with glb := { s.glb with pins := setBit s.glb.pins i high } })

/-- ILK_TRIP_CONFIRMED (R37, R41, R42): input `i`, low, has been low for longer than its filter time. -/
def execIlkTripConfirmed (i ns : Nat) (s : State) : Res State :=
  let s := s.arrive ns
  if 8 ≤ i ∨ bit s.glb.pins i then done s
  else
    let s := s.setFld R.GLB_ILK_STAT F.GLB_ILK_STAT_LEVEL (setBit (s.fld R.GLB_ILK_STAT F.GLB_ILK_STAT_LEVEL) i false)
    if !bit (fget s.glb.ilkCfg F.GLB_ILK_CFG_USE) i ∨ bit s.glb.tripping i then done s
    else
      let since := if s.forceZero then s.glb.forceSince else s.nowTs
      let g := s.glb
      let safety : Bool := bit (fget g.ilkCfg F.GLB_ILK_CFG_CLASS) i
      -- a class S trip is latched by SAFE, but unlatched where emission is impossible (R41)
      let unlatched : Bool := !safety || s.mode = Mode.boot || s.mode = Mode.idle
      let inSafe : Bool := s.mode = Mode.safe
      let force := if unlatched then setBit g.force i true else g.force
      let latched := g.latched || (safety && inSafe)
      let s : State :=
        { s with glb := { g with tripping := setBit g.tripping i true, force := force, latched := latched, forceSince := since } }
      let s := (s.setFld R.GLB_ILK_STAT F.GLB_ILK_STAT_TRIPPED
        (setBit (s.fld R.GLB_ILK_STAT F.GLB_ILK_STAT_TRIPPED) i true)).inc (R.GLB_ILK_TRIPCNT i) 1
      if safety then done (s.enterSafe (1 + 2 ^ (8 + i)))
      else if s.runMode then
        done (({ s.interruptAll with glb := { s.glb with holdTrips := 2 ^ i, holdPaused := false } }).setMode .hold)
      else if s.mode = .hold then done { s with glb := { s.glb with holdTrips := setBit s.glb.holdTrips i true } }
      else done s.interruptAll

/-- ILK_HEALTHY_CONFIRMED (R37): input `i`, high, has been high for longer than its filter time. -/
def execIlkHealthyConfirmed (i ns : Nat) (s : State) : Res State :=
  let s := s.arrive ns
  if 8 ≤ i ∨ !bit s.glb.pins i then done s
  else
    let s := s.setFld R.GLB_ILK_STAT F.GLB_ILK_STAT_LEVEL (setBit (s.fld R.GLB_ILK_STAT F.GLB_ILK_STAT_LEVEL) i true)
    done { s with glb := { s.glb with tripping := setBit s.glb.tripping i false } }

/-- ILK_REARM_EXPIRY (R41, R42): input `i` has been healthy for (REARM + 1) µs. -/
def execIlkRearmExpiry (i ns : Nat) (s : State) : Res State :=
  let s := s.arrive ns
  if 8 ≤ i ∨ !bit (s.fld R.GLB_ILK_STAT F.GLB_ILK_STAT_LEVEL) i ∨ !bit s.glb.force i then done s
  else
    let s := { s with glb := { s.glb with force := setBit s.glb.force i false } }
    let g := s.glb
    let pauto := fget g.ilkCfg2 F.GLB_ILK_CFG2_PAUTO
    if s.mode = .hold ∧ !s.forceZero ∧ !g.holdPaused ∧ g.holdTrips ≠ 0 ∧ (g.holdTrips &&& pauto) = g.holdTrips then done s.leaveHold
    else done s

/-- RELAY_FEEDBACK_EDGE (R40): EMIT_FB_N takes a level; agreement with EMIT_EN_N ends a mismatch. -/
def execRelayFeedbackEdge (high : Bool) (ns : Nat) (s : State) : Res State :=
  let s := s.arrive ns
  let s := { s with glb := { s.glb with fbLow := !high } }
  let s := s.setFld R.GLB_ILK_STAT F.GLB_ILK_STAT_FB_OPEN (b2n high)
  done (if s.glb.fbLow = s.emitEn then { s with glb := { s.glb with mismatch := false } } else s)

/-- RELAY_MISMATCH (R40): a disagreement has lasted longer than (FB_TMO + 1) ms. -/
def execRelayMismatch (ns : Nat) (s : State) : Res State :=
  let s := s.arrive ns
  if !s.fbEnabled ∨ s.glb.fbLow = s.emitEn then done s
  else done (({ s with glb := { s.glb with mismatch := true } }).enterSafe 8)

/-! ## The commands: mode operations -/

/-- ARM (R46): The ARM operation latches the interlock configuration, checks its conditions and moves IDLE to ARMED. -/
def execArm (s : State) : Res State := hostOp s fun s => s.modeReq 1
/-- DISARM (R46): The DISARM operation moves ARMED to IDLE. -/
def execDisarm (s : State) : Res State := hostOp s fun s => s.modeReq 2
/-- START (R46): The START operation checks the pool and interlocks and moves ARMED to EXPOSE or DEGRADED. -/
def execStart (s : State) : Res State := hostOp s fun s => s.modeReq 3
/-- PAUSE (R49): The PAUSE operation stops each head at the end of its vector and leads to HOLD. -/
def execPause (s : State) : Res State := hostOp s fun s => s.modeReq 4
/-- RESUME (R46): The RESUME operation moves HOLD to EXPOSE or DEGRADED when no force-zero remains. -/
def execResume (s : State) : Res State := hostOp s fun s => s.modeReq 5
/-- ABORT (R46): The ABORT operation closes unfinished tiles as aborted and returns the run to ARMED. -/
def execAbort (s : State) : Res State := hostOp s fun s => s.modeReq 6
/-- ENTER_SERVICE (R46): The ENTER_SERVICE operation moves IDLE to SERVICE. -/
def execEnterService (s : State) : Res State := hostOp s fun s => s.modeReq 7
/-- LEAVE_SERVICE (R46): The LEAVE_SERVICE operation moves SERVICE to IDLE when no calibration tile runs. -/
def execLeaveService (s : State) : Res State := hostOp s fun s => s.modeReq 8
/-- ENTER_SAFE (R46): The ENTER_SAFE operation moves the device to SAFE from any mode except BOOT and SAFE. -/
def execEnterSafe (s : State) : Res State := hostOp s fun s => s.modeReq 9
/-- CLEAR_SAFE (R52): The CLEAR_SAFE operation moves SAFE to IDLE when inputs are healthy, no fatal fault is pending and the relay is open. -/
def execClearSafe (s : State) : Res State := hostOp s fun s => s.modeReq 10

/-- MODE_REQ_INVALID_OP (R47): a write of OP = 11 to 15. -/
def execModeReqInvalidOp (op : Nat) (s : State) : Res State :=
  hostOp s fun s => if 11 ≤ op ∧ op ≤ 15 then s.modeReq op else s

/-- A head is still inside a vector (R49, R91). -/
def State.inVector (s : State) (h : Nat) : Bool :=
  (s.held h).isSome &&
    match (s.seq (s.seqOf h)).act with
    | .motion => !(s.seq (s.seqOf h)).between (1250 * (s.seq (s.seqOf h)).nextTick)
    | .dwell | .column | .swbStop | .swbBack | .swbApproach | .guardStop | .checkerStop => true
    | _ => false

/-- The device enters HOLD at the end of a PAUSE (R49). -/
def State.pauseHold (s : State) : State :=
  ({ s with glb := { s.glb with holdTrips := 0, holdPaused := true } }).setMode .hold

/-- PAUSE_COMPLETE (R49): the last head has stopped. -/
def execPauseComplete (s : State) : Res State :=
  if s.fld R.GLB_MODE F.GLB_MODE_PENDING = 0 ∨ !s.runMode ∨ (List.range 24).any s.inVector then done s
  else done s.pauseHold

/-- PAUSE_TIMEOUT (R49): each head still inside a vector stops at the first slot of the first tick not yet computed. -/
def execPauseTimeout (ns : Nat) (s : State) : Res State :=
  let s := s.arrive ns
  let tmo := (s.fld R.GLB_PAUSE_CFG F.GLB_PAUSE_CFG_PAUSE_TMO + 1) * 1000
  if s.fld R.GLB_MODE F.GLB_MODE_PENDING = 0 ∨ !s.runMode ∨ s.now < s.glb.pauseAt + tmo then done s
  else
    let s := (List.range 24).foldl (fun s h =>
      if s.inVector h then s.interrupt false h (1250 * (s.seq (s.seqOf h)).nextTick) else s) s
    done s.pauseHold

/-- RUN_COMPLETE (R168): every tile is final and no head holds one. -/
def execRunComplete (s : State) : Res State :=
  if s.runMode ∧ (List.range s.ntiles).all (fun i => finalState (s.tileState i)) ∧
      (List.range 24).all (fun h => (s.held h).isNone) then done (s.setMode .armed)
  else done s

end Sys2Proof.Machine
end

