-- ==== Sys2Proof/Machine/Lane.lean ====
section
/-! DEFINITION. The Rolfin lanes (chapter 08): node messages (R239, R240), the lane states and their changes (R243 to R247), loss
(R248, R249), the authentication exchange (R443), and the commands that concern one lane's bring-up, messages and test. -/

namespace Sys2Proof.Machine

def State.lane (s : State) (n : Nat) : Lane := sget (fun _ => Lane.reset) n s.lnk.lanes

def State.setLane (s : State) (n : Nat) (l : Lane) : State :=
  { s with lnk := { s.lnk with lanes := sput (fun _ => Lane.reset) n l s.lnk.lanes } }

/-! ## Lane facts -/

namespace Ln
abbrev disabled : Nat := 0
abbrev acquire : Nat := 1
abbrev linked : Nat := 2
abbrev delay : Nat := 3
abbrev auth : Nat := 4
abbrev service : Nat := 5
abbrev failed : Nat := 6
abbrev test : Nat := 7
end Ln

/-- ROLE of lane `n`: 0 HEAD, 1 ARRAY, 2 CHAIN. -/
def State.role (s : State) (n : Nat) : Nat := s.fld (R.LN_CFG n) F.LN_CFG_ROLE

/-- The roles that R246 allows on lane `n`. -/
def roleOk (n role : Nat) : Bool := if n < 24 then role = 0 || role = 2 else role = 1 || role = 2

/-- A state in which messages are sent (R240). -/
def talks (st : Nat) : Bool := decide (2 ≤ st) && decide (st ≤ 5)

/-- A state in which tick frames are sent (R226). -/
def framing (st : Nat) : Bool := decide (3 ≤ st) && decide (st ≤ 5)

/-- DEC_LAT of lane `n`, in ps. -/
def State.decLat (s : State) (n : Nat) : Nat := 10 * ((s.rd (R.LN_CAP n 2)).toNat / 65536)

/-- The delays of R237 from L and ASYM, rounded to the nearest ps. -/
def State.setDelays (s : State) (n : Nat) : State :=
  let l := (s.lane n).loop
  let a : Int := (s.rd (R.LN_ASYM n)).toInt * 65536
  (s.wr (R.LN_DLY_DN n) (wordOf (rdivAway (l + a) 131072))).wr (R.LN_DLY_UP n) (wordOf (rdivAway (l - a) 131072))

/-- DLY_DN and DLY_UP are at most 250,000 ps (R20). -/
def State.delaysFit (s : State) (n : Nat) : Bool :=
  decide ((s.rd (R.LN_DLY_DN n)).toInt ≤ 250000) && decide ((s.rd (R.LN_DLY_UP n)).toInt ≤ 250000)

/-! ## Abandonment (R155) -/

/-- The tile of head `h` is abandoned: its gates are zero from slot `x`. -/
def State.abandonAt (s : State) (h x : Nat) : State :=
  let n := s.seqOf h
  let s := s.setFld (R.BSQ_SWB n) F.BSQ_SWB_ABANDONED 1
  ((s.colEnds (s.seq n).colRun).setSeq n ((s.seq n).stopAt x)).closeTile h Ts.abandoned

/-! ## The web Switchback fails (R334) -/

def State.md (s : State) (m : Nat) : Md := sget (fun _ => Md.reset) m s.axf.md

def State.setMd (s : State) (m : Nat) (d : Md) : State :=
  { s with axf := { s.axf with md := sput (fun _ => Md.reset) m d s.axf.md } }

/-- The manoeuvre of channel `m` ends. -/
def State.webEnd (s : State) (m : Nat) : State :=
  ((s.setFld (R.AXF_MD_STAT m) F.AXF_MD_STAT_ACTIVE 0).setFld (R.AXF_MD_STAT m) F.AXF_MD_STAT_PHASE 0).setMd m Md.reset

/-- A device command met NO_REPLY or a nonzero STATUS: FAIL sets, and each waiting sequencer abandons its tile. -/
def State.webFail (s : State) (m status : Nat) : State :=
  let ph := s.fld (R.AXF_MD_STAT m) F.AXF_MD_STAT_PHASE
  let s := s.setFld (R.AXF_MD_STAT m) F.AXF_MD_STAT_FAIL 1
  let s := s.cairn 7 2 false (leBytes m 1 ++ leBytes ph 1 ++ leBytes status 2)
  let s := (s.md m).waiting.foldl (fun s n =>
    let q := s.seq n
    (s.setFld (R.BSQ_SWB n) F.BSQ_SWB_PHASE 0).abandonAt q.head q.cursor) s
  s.webEnd m

/-! ## Sending messages -/

-- KIND codes of Table 8-8.
namespace Mk
abbrev rd : Nat := 1
abbrev wr : Nat := 2
abbrev evt : Nat := 4
abbrev cmd : Nat := 5
abbrev time : Nat := 6
end Mk

/-- The message leaves the device: KIND and N share one number of the output, N in bits [5:4]. -/
def State.emitMsg (s : State) (n : Nat) (m : Msg) : State :=
  s.emit (.message n m.pos (m.kind + 16 * (m.words - 1)) m.seq (s.fld (R.LN_STAT n) F.LN_STAT_EPOCH) m.addr m.data)

/-- A message that expects a reply is sent, or waits while eight are outstanding (R240). -/
def State.sendMsg (s : State) (n pos kind addr words : Nat) (data : List Word) (who : MsgFor) : State :=
  let l := s.lane n
  let m : Msg := ⟨l.seq, pos, kind, addr, words, data, 0, s.now, who⟩
  let l := { l with seq := (l.seq + 1) % 256 }
  if l.out.length < 8 then (s.setLane n { l with out := l.out ++ [m] }).emitMsg n m
  else s.setLane n { l with wait := l.wait ++ [m] }

/-- A message without reply (R240). -/
def State.sendQuiet (s : State) (n pos kind : Nat) (data : List Word) : State :=
  let l := s.lane n
  (s.setLane n { l with seq := (l.seq + 1) % 256 }).emitMsg n ⟨l.seq, pos, kind, 0, 1, data, 0, s.now, .nothing⟩

/-- A message has ended: the next that waits is sent. -/
def State.msgGone (s : State) (n seq : Nat) : State :=
  let l := s.lane n
  let l := { l with out := l.out.filter fun m => m.seq ≠ seq }
  match l.wait with
  | [] => s.setLane n l
  | m :: t =>
    let m := { m with sentAt := s.now }
    if l.out.length < 8 then (s.setLane n { l with out := l.out ++ [m], wait := t }).emitMsg n m else s.setLane n l

/-! ## Authentication (R443) -/

/-- Four data words that hold up to sixteen bytes. -/
def dataWords (bs : List Byte) : List Word :=
  (List.range 4).map fun i => BitVec.ofNat 32 (leNat ((bs.drop (4 * i)).take 4))

/-- The message of the present step of the exchange (Table 17-5). -/
def State.authSend (s : State) (n : Nat) : State :=
  match (s.lane n).auth with
  | none => s
  | some a =>
    if a.failed ∨ 18 ≤ a.step then s
    else
      let (addr, bs) : Nat × List Byte :=
        if a.step = 0 then (0x30, [])
        else if a.step ≤ 12 then (0x31, leBytes (16 * (a.step - 1)) 4)
        else if a.step = 13 then (0x32, a.nonce)
        else (0x33, leBytes (16 * (a.step - 14)) 4)
      s.sendMsg n 0 Mk.cmd addr 1 (dataWords bs) .auth

/-- An exchange begins with a fresh NONCE. -/
def State.authStart (s : State) (n : Nat) (seq : Option Nat) : State :=
  let nonce := Config.freshNonce s.free
  (s.draw.setLane n { s.lane n with auth := some ⟨0, nonce, [], [], false, seq, s.now, false⟩ }).authSend n

/-- The challenge is repeated on a head in service (R444). -/
def State.authAgain (s : State) (n : Nat) : State :=
  let nonce := Config.freshNonce s.free
  let l := s.lane n
  (s.draw.setLane n { l with auth := some ⟨13, nonce, l.cert, [], false, none, s.now, true⟩ }).authSend n

/-- A reply of the exchange. -/
def State.authReply (s : State) (n status : Nat) (data : List Word) : State :=
  match (s.lane n).auth with
  | none => s
  | some a =>
    let bs := data.flatMap fun w => leBytes w.toNat 4
    if status = 3 ∧ 14 ≤ a.step then s.authSend n
    else if status ≠ 0 ∨ (a.step = 0 ∧ wordAt data 0 ≠ 192) then s.setLane n { s.lane n with auth := some { a with failed := true } }
    else
      let a := { a with
        step := a.step + 1,
        cert := if 1 ≤ a.step ∧ a.step ≤ 12 then a.cert ++ bs else a.cert,
        sig := if 14 ≤ a.step then a.sig ++ bs else a.sig }
      (s.setLane n { s.lane n with auth := some a }).authSend n

/-- What an exchange fails on: 1 certificate, 2 identity, 3 signature; 0 where it proves the head of lane `n` (R443, R444, Table 17-6). -/
def State.authFault (s : State) (n : Nat) (a : Auth) : Nat :=
  let f (o z : Nat) : Nat := leNat ((a.cert.drop o).take z)
  let cap2 := (s.rd (R.LN_CAP n 2)).toNat
  let serial := f 12 4
  let msg := a.nonce ++ leBytes (s.rd R.LCS_SERIAL).toNat 4 ++ leBytes n 1 ++ leBytes serial 4
  let signed := match s.lcs.anchors.find? fun x => x.purpose = 1 && x.id = f 4 4 with
    | some x => Config.ecdsaVerifies 256 x.key (a.cert.take 128) ((a.cert.drop 128).take 64)
    | none => false
  let certOk := decide (13 ≤ a.step) && decide (f 0 4 = 1) && signed && decide (bit (f 16 4) 1 = bit cap2 12) &&
    decide (bit (f 16 4) 2 = bit cap2 13)
  let idOk := decide (f 8 4 = (s.rd (R.LN_CAP n 0)).toNat) && decide (serial = (s.rd (R.LN_CAP n 1)).toNat)
  let sigOk := !a.failed && decide (18 ≤ a.step) && Config.ecdsaVerifies 256 ((a.cert.drop 48).take 64) msg a.sig
  if !a.again && !certOk then 1 else if !a.again && !idOk then 2 else if !sigOk then 3 else 0

/-! ## The chain read (R245) -/

/-- The read of the four capability registers of a position. -/
def State.capsRead (s : State) (n pos : Nat) : State := s.sendMsg n pos Mk.rd 0 4 [0, 0, 0, 0] (.caps pos)

/-- PHASE_c for the pair of channels that slot j serves, in slots from the start of the tick (R257). -/
def phaseOf (j : Nat) : Nat :=
  -- t_s = 62.5 × j − 600 ns from the round start, rounded down to the slot grid of 0.4 ns
  let d : Int := fdiv (625 * (j : Int) - 6000) 4
  (d % 1250).toNat

/-- The chain read has ended; a head's PHASE registers are written (R245, R257). -/
def State.capsEnd (s : State) (n : Nat) : State :=
  let s := s.setLane n { s.lane n with capsDone := true }
  if s.role n ≠ 0 then s
  else (List.range 4).foldl (fun s i =>
    s.sendMsg n 0 Mk.wr (0x10 + 4 * i) 4 ((List.range 4).map fun k => BitVec.ofNat 32 (phaseOf ((4 * i + k) / 2))) .nothing) s

/-- The reply to the read of a position, or its absence. -/
def State.capsReply (s : State) (n pos status : Nat) (data : List Word) : State :=
  if status ≠ 0 then s.capsEnd n
  else
    let s := if pos = 0 then (List.range 4).foldl (fun s i => s.wr (R.LN_CAP n i) (data.getD i 0)) s else s
    let s := s.setFld (R.LN_CHAIN n) F.LN_CHAIN_PRESENT (setBit (s.fld (R.LN_CHAIN n) F.LN_CHAIN_PRESENT) pos true)
    if bit (wordAt data 3) 4 ∧ pos < 15 then s.capsRead n (pos + 1) else s.capsEnd n

/-! ## How a message ends -/

/-- The end of a message. -/
inductive MsgEnd where
  | reply (status : Nat) (data : List Word)
  | noReply
  | targetReset
  deriving DecidableEq, Repr

/-- What the originator of a message does at its end (R240, R243, R245, R333, R334, R443). -/
def State.msgDone (s : State) (n : Nat) (m : Msg) (e : MsgEnd) : State :=
  match m.who with
  | .nothing => s
  | .medium seq => match e with
    | .reply st _ => s.endSeq seq St.done st 0
    | .noReply => s.endSeq seq St.notReady 0xFFFFFFFF 0
    | .targetReset => s.endSeq seq St.targetReset 0 0
  | .web k => match e with
    | .reply 0 _ => s.setMd k { s.md k with moving := true }
    | .reply st _ => s.webFail k st
    | _ => s.webFail k 0xFFFF
  | .caps pos => match e with
    | .reply st d => s.capsReply n pos st d
    | .noReply => s.capsReply n pos 1 []
    | .targetReset => s
  | .auth => match e with
    | .reply st d => s.authReply n st d
    | _ => match (s.lane n).auth with
      | some a => s.setLane n { s.lane n with auth := some { a with failed := true } }
      | none => s
  | .camera c tag => match e with
    | .reply 2 _ => s.camLate c tag
    | _ => s

/-! ## Lane states (Table 8-9) -/

/-- Every message outstanding on the lane ends with TARGET_RESET (R243). -/
def State.dropMsgs (s : State) (n : Nat) : State :=
  let l := s.lane n
  let s := s.setLane n { l with out := [], wait := [] }
  (l.out ++ l.wait).foldl (fun s m => s.msgDone n m .targetReset) s

/-- INJ_BUSY: injection is under way (R254). -/
def State.injSync (s : State) (n : Nat) : State :=
  let mode := s.fld (R.LN_PEP_INJ n) F.LN_PEP_INJ_MODE
  let pat := fget (s.lane n).pep F.LN_PEP_CTL_TXPAT
  let can := s.laneState n = Ln.test && decide (1 ≤ pat) && decide (pat ≤ 5) &&
    (mode = 1 || (mode = 2 && pat = 5 && s.fld (R.LN_PEP_INJ n) F.LN_PEP_INJ_NSYM ≠ 0))
  s.setFld (R.LN_PEP_STAT n) F.LN_PEP_STAT_INJ_BUSY (b2n (can && s.rd (R.LN_PEP_INJCNT n) ≠ 0))

/-- GSG state as a head's lane enters service (R199). -/
def State.gsgReset (s : State) (h : Nat) : State :=
  let bs := (List.range 8).foldl (fun m b =>
    let e := sget (fun _ => Emitter.reset) (8 * h + b) m
    sput (fun _ => Emitter.reset) (8 * h + b) { e with a := 0, o := false, n := 65535, run := false, probe := none, samples := [] } m)
    s.bld.emitters
  { s with bld := { s.bld with emitters := bs } }

/-- What ends as lane `n` goes down from state `old` (R243, R249): a waiting HEAD_AUTH, the head's place in the eligible set, the messages
outstanding, the array port or the camera that it carries. -/
def State.laneDown (s : State) (n old cause : Nat) : State :=
  let l := s.lane n
  let s := match l.auth.bind fun a => a.seq with
    | some q => s.endSeq q St.targetReset 0 0
    | none => s
  let s := if old = Ln.service ∧ n < 24 then
      (if cause = 1 then s.removeHeadAt n 1 (1250 * l.conf) (l.launched - l.conf) else s.removeHead n cause) else s
  let s := if talks old then
      (s.setFld (R.LN_STAT n) F.LN_STAT_EPOCH (s.fld (R.LN_STAT n) F.LN_STAT_EPOCH + 1)).dropMsgs n else s
  let s := if old = Ln.service ∧ 24 ≤ n ∧ s.role n = 1 then s.mapLaneStop ((n - 24) / 4) 2 else s
  let s := if old = Ln.service then s.camLaneStop n else s
  s.setLane n { s.lane n with sent := [], permit := false, missRun := 0, auth := none, capsDone := false }

/-- What lane `n` begins in state `st`, having left `old` (Table 8-9). -/
def State.laneBegin (s : State) (n st old : Nat) : State :=
  let l := { s.lane n with since := s.now }
  if st = Ln.acquire then
    let pre := s.fld (R.LN_CFG n) F.LN_CFG_PRE_DN + 2 * s.fld (R.LN_CFG n) F.LN_CFG_PRE_UP
    s.setLane n { l with mkGood := 0, mkBad := 0, lock := false, uncorr := 0, announced := 0, pre := pre }
  else if st = Ln.linked then ((s.setLane n { l with capsDone := false }).wr (R.LN_CHAIN n) 0).capsRead n 0
  else if st = Ln.delay then
    s.setLane n { l with meas := 0, sum := 0, far := 0, farSum := 0, launched := s.tick + 1, conf := s.tick + 1, upTick := s.tick + 1,
                         judged := s.tick + 1, missRun := 0, miss := 0 }
  else if st = Ln.auth then (s.setLane n l).authStart n none
  else if st = Ln.service ∧ s.role n = 0 then (s.setLane n l).gsgReset n
  else if st = Ln.test then
    ((s.setLane n { l with pep := s.rd (R.LN_PEP_CTL n) }).setFld (R.LN_PEP_STAT n) F.LN_PEP_STAT_LOCK 0).injSync n
  else if old = Ln.test then ((s.setLane n l).setFld (R.LN_PEP_STAT n) F.LN_PEP_STAT_LOCK 0).injSync n
  else s.setLane n l

/-- Lane `n` enters state `st` (Table 8-9). A head that was in service leaves the eligible set with `cause`. -/
def State.laneTo (s : State) (n st cause : Nat) : State :=
  let old := s.laneState n
  let down := st = Ln.disabled ∨ st = Ln.acquire ∨ st = Ln.failed ∨ st = Ln.test
  let s := if down then s.laneDown n old cause else s
  let s := (s.setFld (R.LN_STAT n) F.LN_STAT_STATE st).setFld (R.LN_STAT n) F.LN_STAT_INSERVICE (b2n (st = Ln.service))
  s.laneBegin n st old

/-- Bring-up starts: ACQUIRE, or FAILED with CAP_CAUSE 2 for a role that R246 refuses. -/
def State.laneUp (s : State) (n cause : Nat) : State :=
  if roleOk n (s.role n) then s.laneTo n Ln.acquire cause
  else (s.setFld (R.LN_STAT n) F.LN_STAT_CAP_CAUSE 2).laneTo n Ln.failed cause

/-- A loss (R249). In ACQUIRE the state, and its 20 ms, go on (log entry 17). -/
def State.laneLoss (s : State) (n cause : Nat) : State :=
  let st := s.laneState n
  let s := (s.setFld (R.LN_STAT n) F.LN_STAT_LOSS 1).setFld (R.LN_STAT n) F.LN_STAT_LOSS_CAUSE cause
  let s := s.inc (R.LN_LOSSCNT n) 1
  let auto := s.fld (R.LN_CFG n) F.LN_CFG_AUTO = 1
  let s := if st = Ln.acquire ∧ auto then s
    else if auto then s.laneUp n 1
    else s.laneTo n Ln.failed 1
  s.cairn 5 1 false (leBytes n 1 ++ leBytes cause 1 ++ leBytes (s.fld (R.LN_STAT n) F.LN_STAT_EPOCH) 1)

/-- A write of LNn_CFG, with the state changes that EN and TEST make (Table 8-9, R251). -/
def State.lnCfgWrite (s : State) (n : Nat) (v : Word) : State :=
  if !s.unlocked then s.lockviol
  else
    let keep := fmask F.LN_CFG_ROLE ||| fmask F.LN_CFG_TEST ||| fmask F.LN_CFG_PRE_UP ||| fmask F.LN_CFG_PRE_DN |||
      fmask F.LN_CFG_AUTO ||| fmask F.LN_CFG_EN
    let s := s.wr (R.LN_CFG n) (v &&& keep)
    let st := s.laneState n
    let en := fget v F.LN_CFG_EN = 1
    let test := fget v F.LN_CFG_TEST = 1
    if st = Ln.test then (if test then s else if en then s.laneUp n 4 else s.laneTo n Ln.disabled 4)
    else if !en then (if st = Ln.disabled then s else s.laneTo n Ln.disabled 4)
    else if test then s.laneTo n Ln.test 4
    else if st = Ln.disabled then s.laneUp n 4
    else s

/-- A write of LNn_PEP_CTL: CLR zeroes the counters and restarts lock; a pattern takes effect in TEST, or at the next entry to it (R252,
R253). -/
def State.pepCtlWrite (s : State) (n : Nat) (v : Word) : State :=
  let keep := fmask F.LN_PEP_CTL_SQN ||| fmask F.LN_PEP_CTL_RXPAT ||| fmask F.LN_PEP_CTL_TXPAT
  let s := s.wr (R.LN_PEP_CTL n) (v &&& keep)
  let s := if s.laneState n = Ln.test then (s.setLane n { s.lane n with pep := v &&& keep }).injSync n else s
  if fget v F.LN_PEP_CTL_CLR = 1 then
    (((s.wr (R.LN_PEP_BITERR n) 0).wr (R.LN_PEP_SYMERR n) 0).wr (R.LN_PEP_MBITS n) 0).setFld (R.LN_PEP_STAT n) F.LN_PEP_STAT_LOCK 0
  else s

/-- A write of LNn_ASYM applies from the next launch schedule (R237). -/
def State.asymWrite (s : State) (n : Nat) (v : Word) : State := (s.wr (R.LN_ASYM n) v).setDelays n

/-! ## Receiving -/

/-- LNK receives an RSP (R240). -/
def State.rspReceive (s : State) (n seq epoch status : Nat) (data : List Word) : State :=
  match (s.lane n).out.find? fun m => m.seq = seq with
  | some m =>
    if epoch ≠ s.fld (R.LN_STAT n) F.LN_STAT_EPOCH then s.inc (R.LN_STALE n) 1
    else (s.msgGone n seq).msgDone n m (.reply status data)
  | none => s.inc (R.LN_STALE n) 1

/-- The number of data blocks that an upstream control block announces, or none where its code is unknown or not defined upstream for the
lane's role (R225, R311, Table 8-2). -/
def announces (role code count : Nat) : Option Nat :=
  if code = 0x00 ∨ code = 0x4B ∨ code = 0xE1 then some 0
  else if role = 0 ∧ code = 0x2D then some 0
  else if role = 0 ∧ code = 0x33 then some 1
  else if role = 0 ∧ code = 0x3C then some (count + 1)
  else if role = 1 ∧ code = 0x59 then some 1
  else none

/-- One upstream block: a data block (none), or a control block with its code and COUNT. -/
def State.block (s : State) (n : Nat) (b : Option (Nat × Nat)) : State :=
  let l := s.lane n
  match b with
  | none =>
    if l.announced = 0 then s.inc (R.LN_BLKERR n) 1 else s.setLane n { l with announced := l.announced - 1 }
  | some (code, count) =>
    let s := if (announces (s.role n) code count).isNone then s.inc (R.LN_BLKERR n) 1 else s
    if code = 0x00 ∨ code = 0x4B ∨ code = 0xE1 then s
    else s.setLane n { s.lane n with announced := (announces (s.role n) code count).getD 0 }

/-! ## The commands -/

/-- LANE_ENABLE: a write of LNn_CFG with EN = 1 where EN was 0 (R244). -/
def execLaneEnable (n : Nat) (v : Word) (s : State) : Res State :=
  if s.mode = .boot ∨ 32 ≤ n ∨ fget v F.LN_CFG_EN = 0 ∨ s.fld (R.LN_CFG n) F.LN_CFG_EN = 1 then done s else done (s.lnCfgWrite n v)

/-- LANE_DISABLE: a write of LNn_CFG with EN = 0 where EN was 1 (R244). -/
def execLaneDisable (n : Nat) (v : Word) (s : State) : Res State :=
  if s.mode = .boot ∨ 32 ≤ n ∨ fget v F.LN_CFG_EN = 1 ∨ s.fld (R.LN_CFG n) F.LN_CFG_EN = 0 then done s else done (s.lnCfgWrite n v)

/-- LANE_TEST_ENTER: a write of LNn_CFG with TEST = 1 where TEST was 0 (R251). -/
def execLaneTestEnter (n : Nat) (v : Word) (s : State) : Res State :=
  if s.mode = .boot ∨ 32 ≤ n ∨ fget v F.LN_CFG_TEST = 0 ∨ s.fld (R.LN_CFG n) F.LN_CFG_TEST = 1 then done s else done (s.lnCfgWrite n v)

/-- LANE_TEST_LEAVE: a write of LNn_CFG with TEST = 0 where TEST was 1 (R244). -/
def execLaneTestLeave (n : Nat) (v : Word) (s : State) : Res State :=
  if s.mode = .boot ∨ 32 ≤ n ∨ fget v F.LN_CFG_TEST = 1 ∨ s.fld (R.LN_CFG n) F.LN_CFG_TEST = 0 then done s else done (s.lnCfgWrite n v)

/-- MK_BLOCK_RECEIVE (R223): at an expected MK position the block matches or does not; three in a row gain or lose lock. With lock and
RLOCK = 1, ACQUIRE ends in LINKED. -/
def execMkBlockReceive (n : Nat) (good rlock : Bool) (ns : Nat) (s : State) : Res State :=
  let s := s.arrive ns
  if 32 ≤ n ∨ s.laneState n = Ln.disabled ∨ s.laneState n = Ln.test then done s
  else
    let l := s.lane n
    let g := if good then min 3 (l.mkGood + 1) else 0
    let b := if good then 0 else min 3 (l.mkBad + 1)
    let lock := if g = 3 then true else if b = 3 then false else l.lock
    let s := s.setLane n { l with mkGood := g, mkBad := b, lock := lock }
    done (if s.laneState n = Ln.acquire ∧ lock ∧ good ∧ rlock then s.laneTo n Ln.linked 1 else s)

/-- ACQUIRE_TIMEOUT (Table 8-9): 20 ms in ACQUIRE. -/
def execAcquireTimeout (n ns : Nat) (s : State) : Res State :=
  let s := s.arrive ns
  done (if n < 32 ∧ s.laneState n = Ln.acquire ∧ (s.lane n).since + 20000000 ≤ s.now then s.laneTo n Ln.failed 1 else s)

/-- The CAP_CAUSE that the checks of Table 8-10 give position 0, the lowest first; 0 where they pass. -/
def State.capCause (s : State) (n : Nat) : Nat :=
  let c2 := (s.rd (R.LN_CAP n 2)).toNat
  let kind := (s.rd (R.LN_CAP n 3)).toNat % 16
  let role := s.role n
  let beamlets := c2 / 256 % 16
  let lat := c2 / 65536
  if c2 % 256 ≠ 1 then 1
  else if !(if role = 0 then kind = 0 else if role = 1 then kind = 1 else kind = 2 || kind = 3) then 2
  else if (kind = 0 ∨ kind = 1) ∧ (lat = 0 ∨ 15000 < lat) then 3
  else if kind = 0 ∧ (beamlets = 0 ∨ 8 < beamlets) then 4
  else 0

/-- CAPABILITY_READ_COMPLETE (R245): the checks of Table 8-10 decide the next state. -/
def execCapabilityReadComplete (n : Nat) (s : State) : Res State :=
  if 32 ≤ n ∨ s.laneState n ≠ Ln.linked ∨ !(s.lane n).capsDone then done s
  else
    let c := s.capCause n
    let s := s.setFld (R.LN_STAT n) F.LN_STAT_CAP_CAUSE c
    if c ≠ 0 then done ((s.setFld (R.LN_STAT n) F.LN_STAT_CAP_ERR 1).laneTo n Ln.failed 1)
    else
      let s := if n < 24 ∧ s.role n = 0 then
          s.setFld (R.BLD_H_BCFG n) F.BLD_H_BCFG_PROBE_CAP ((s.rd (R.LN_CAP n 2)).toNat / 4096 % 2) else s
      done (s.laneTo n (if s.role n = 2 then Ln.service else Ln.delay) 1)

/-- DELAY_MEASURE_COMPLETE (R238): L is the mean of the first 4096 valid measurements. -/
def execDelayMeasureComplete (n : Nat) (s : State) : Res State :=
  let l := s.lane n
  if 32 ≤ n ∨ s.laneState n ≠ Ln.delay ∨ l.meas < 4096 then done s
  else
    let s := (s.setLane n { l with loop := rdiv l.sum l.meas, far := 0, farSum := 0 }).setDelays n
    if s.delaysFit n then done (s.laneTo n (if s.role n = 0 then Ln.auth else Ln.service) 1)
    else done ((s.setFld (R.LN_STAT n) F.LN_STAT_DLY_RANGE 1).laneTo n Ln.failed 1)

/-- DELAY_TIMEOUT (Table 8-9): 8192 ticks in DELAY without 4096 valid measurements. -/
def execDelayTimeout (n ns : Nat) (s : State) : Res State :=
  let s := s.arrive ns
  let l := s.lane n
  done (if n < 32 ∧ s.laneState n = Ln.delay ∧ l.meas < 4096 ∧ l.since + 8192 * 500 ≤ s.now then s.laneTo n Ln.failed 1 else s)

/-- DELAY_STEP (R238): 64 consecutive measurements far from L. -/
def execDelayStep (n : Nat) (s : State) : Res State :=
  let l := s.lane n
  if 32 ≤ n ∨ !framing (s.laneState n) ∨ l.far < 64 then done s
  else
    let new := rdiv l.farSum l.far
    let s := (s.setLane n { l with loop := new, far := 0, farSum := 0 }).setDelays n
    let s := s.setFld (R.LN_STAT n) F.LN_STAT_DLY_STEP 1
    done (s.cairn 5 2 false (leBytes n 4 ++ leBytes (wrap 64 l.loop) 8 ++ leBytes (wrap 64 new) 8))

/-- FAILED_RETRY_TIMER (Table 8-9): 100 ms in FAILED with AUTO = 1. -/
def execFailedRetryTimer (n ns : Nat) (s : State) : Res State :=
  let s := s.arrive ns
  done (if n < 32 ∧ s.laneState n = Ln.failed ∧ s.fld (R.LN_CFG n) F.LN_CFG_AUTO = 1 ∧ (s.lane n).since + 100000000 ≤ s.now ∧
      roleOk n (s.role n) then s.laneTo n Ln.acquire 1 else s)

/-- LANE_LOSS (R248, R249) with a cause of Table 8-11; causes 2, 3 and 4 act where their condition stands. -/
def execLaneLoss (n cause ns : Nat) (s : State) : Res State :=
  let s := s.arrive ns
  let st := s.laneState n
  let l := s.lane n
  let holds :=
    if cause = 1 then true
    else if cause = 2 then framing st && decide (2 ≤ l.missRun)
    else if cause = 3 then decide (4 ≤ l.uncorr) || (decide (2 ≤ st) && !l.lock)
    else if cause = 4 then st = Ln.service && s.role n ≠ 2 && !s.delaysFit n
    else false
  done (if n < 32 ∧ 1 ≤ st ∧ st ≤ 5 ∧ holds then s.laneLoss n cause else s)

/-- MSG_RSP_RECEIVE (R240). -/
def execMsgRspReceive (n seq epoch status : Nat) (data : List Word) (ns : Nat) (s : State) : Res State :=
  let s := s.arrive ns
  done (if 32 ≤ n ∨ !talks (s.laneState n) then s else s.rspReceive n (seq % 256) (epoch % 16) (status % 65536) data)

/-- MSG_TIMEOUT (R240): (TMO + 1) µs without an RSP to the message `seq`. -/
def execMsgTimeout (n seq ns : Nat) (s : State) : Res State :=
  let s := s.arrive ns
  if 32 ≤ n then done s
  else
    match (s.lane n).out.find? fun m => m.seq = seq with
    | none => done s
    | some m =>
      if s.now < m.sentAt + (s.fld (R.LN_MSG_CFG n) F.LN_MSG_CFG_TMO + 1) * 1000 then done s
      else if m.tries < s.fld (R.LN_MSG_CFG n) F.LN_MSG_CFG_RETRY then
        let m := { m with tries := m.tries + 1, sentAt := s.now }
        let l := s.lane n
        let s := s.setLane n { l with out := l.out.map fun x => if x.seq = seq then m else x }
        done ((s.emitMsg n m).inc (R.LN_MSG_RETRY n) 1)
      else done ((s.msgGone n seq).msgDone n m .noReply)

/-- TIME_BROADCAST (R242): every 1 ms each lane is sent a broadcast TIME message; position 16 stands for the broadcast. -/
def execTimeBroadcast (ns : Nat) (s : State) : Res State :=
  let s := s.arrive ns
  if s.now / 1000000 ≤ s.lnk.timeAt then done s
  else
    let t := s.nowTs
    let s := { s with lnk := { s.lnk with timeAt := s.now / 1000000 } }
    done ((List.range 32).foldl (fun s n =>
      if talks (s.laneState n) then
        s.sendQuiet n 16 Mk.time [BitVec.ofNat 32 t, BitVec.ofNat 32 (t / 2 ^ 32), BitVec.ofNat 32 (t / 2 ^ 64), s.rd (R.LN_DLY_DN n)]
      else s) s)

/-- PEPPER_CLEAR: a write of LNn_PEP_CTL with CLR = 1 (R253). -/
def execPepperClear (n : Nat) (v : Word) (s : State) : Res State :=
  if s.mode = .boot ∨ 32 ≤ n ∨ fget v F.LN_PEP_CTL_CLR = 0 then done s else done (s.pepCtlWrite n v)

/-- PEPPER_INJECT_COUNT: a write of LNn_PEP_INJCNT (R254). -/
def execPepperInjectCount (n : Nat) (v : Word) (s : State) : Res State :=
  if s.mode = .boot ∨ 32 ≤ n then done s else done ((s.wr (R.LN_PEP_INJCNT n) v).injSync n)

/-- UPSTREAM_CODEWORD_RECEIVE (R224, R225): a codeword with `errs` symbol errors carries the given blocks, each a data block (none) or
a control block with its code and COUNT; more than 15 errors are uncorrectable. -/
def execUpstreamCodewordReceive (n errs : Nat) (blocks : List (Nat × Nat)) (s : State) : Res State :=
  let st := s.laneState n
  if 32 ≤ n ∨ st = Ln.disabled ∨ st = Ln.test then done s
  else
    let l := s.lane n
    if 15 < errs then done ((s.setLane n { l with uncorr := min 4 (l.uncorr + 1) }).inc (R.LN_CW_UNCORR n) 1)
    else
      let s := s.setLane n { l with uncorr := 0 }
      let s := if errs = 0 then s else (s.inc (R.LN_CW_CORR n) 1).inc (R.LN_SYM_CORR n) errs
      done (blocks.foldl (fun s b => s.block n (if 256 ≤ b.1 then none else some b)) s)

/-- The checker of lane `n` runs (R251 to R253). -/
def State.checkerOn (s : State) (n : Nat) : Bool :=
  let p := fget (s.lane n).pep F.LN_PEP_CTL_RXPAT
  decide (n < 32) && s.laneState n = Ln.test && decide (1 ≤ p) && decide (p ≤ 3)

/-- PEPPER_CHECKER_LOCK (R253). -/
def execPepperCheckerLock (n : Nat) (s : State) : Res State :=
  done (if s.checkerOn n then s.setFld (R.LN_PEP_STAT n) F.LN_PEP_STAT_LOCK 1 else s)

/-- PEPPER_CHECKER_LOST_LOCK (R253), with the symbols, bits and 2²⁰-bit units counted while the checker was locked. -/
def execPepperCheckerLostLock (n symErr bitErr mbits : Nat) (s : State) : Res State :=
  if !s.checkerOn n ∨ s.fld (R.LN_PEP_STAT n) F.LN_PEP_STAT_LOCK = 0 then done s
  else
    let s := ((s.inc (R.LN_PEP_SYMERR n) symErr).inc (R.LN_PEP_BITERR n) bitErr).inc (R.LN_PEP_MBITS n) mbits
    done ((s.setFld (R.LN_PEP_STAT n) F.LN_PEP_STAT_LOCK 0).setFld (R.LN_PEP_STAT n) F.LN_PEP_STAT_LOSTLOCK 1)

/-- PEPPER_INJECT_DONE (R254): the last error was injected. -/
def execPepperInjectDone (n : Nat) (s : State) : Res State :=
  if 32 ≤ n ∨ s.fld (R.LN_PEP_STAT n) F.LN_PEP_STAT_INJ_BUSY = 0 then done s
  else done ((s.wr (R.LN_PEP_INJCNT n) 0).injSync n)

end Sys2Proof.Machine
end

