-- ==== Sys2Proof/Machine/Axis.lean ====
section
/-! DEFINITION. Axis feedback (chapter 11): counting, waymarks, CMP outputs, product tracking, medium commands, the web Switchback
and node words (R312 to R335). -/

namespace Sys2Proof.Machine

def State.axis (s : State) (a : Nat) : Axis := sget (fun _ => Axis.reset) a s.axf.axes

def State.setAxis (s : State) (a : Nat) (x : Axis) : State :=
  { s with axf := { s.axf with axes := sput (fun _ => Axis.reset) a x s.axf.axes } }

/-- The instant `frac` units of 2⁻¹⁶ ns after the present ns. -/
def State.fine (s : State) (frac : Nat) : Nat := s.now * 65536 + frac % 65536

/-- Signed 48-bit difference of two counts (R324). -/
def diff48 (p w : Int) : Int := sgn 48 (wrap 48 (p - w))

/-- The count of axis `a`, signed 48 bits (R313). -/
def State.pos (s : State) (a : Nat) : Int :=
  sgn 48 ((s.rd (R.AXF_AX_POS_LO a)).toNat + (s.rd (R.AXF_AX_POS_HI a)).toNat * 2 ^ 32)

def State.setPos (s : State) (a : Nat) (p : Int) : State :=
  let v := wrap 48 p
  (s.wr (R.AXF_AX_POS_LO a) (BitVec.ofNat 32 v)).wr (R.AXF_AX_POS_HI a) (BitVec.ofNat 32 (v / 2 ^ 32))

def State.axType (s : State) (a : Nat) : Nat := s.lfld (R.AXF_AX_CFG a) F.AXF_AX_CFG_TYPE
def State.axOn (s : State) (a : Nat) : Bool := decide (a < 8) && s.lfld (R.AXF_AX_CFG a) F.AXF_AX_CFG_EN = 1
def State.axValid (s : State) (a : Nat) : Bool := s.fld (R.AXF_AX_STAT a) F.AXF_AX_STAT_VALID = 1
def State.wmLen (s : State) (a : Nat) : Nat := s.lfld (R.AXF_AX_CFG a) F.AXF_AX_CFG_WMLEN

/-- The fine position f(t) of an axis in 1/65,536 count (R321). -/
def State.finePos (s : State) (a t : Nat) : Int :=
  let x := s.axis a
  let p := s.pos a * 65536
  if s.axType a = 0 ∨ s.axType a = 3 then
    match x.gap with
    | none => p
    | some g =>
      let e : Int := min 65535 (if g = 0 then 65535 else (t - x.te) * 65536 / g)
      if x.up then p + e else p - e
  else p

/-- The fine position of an axis predicted for the emitter time of slot `x` from its latest position and speed, times 5000 (R144). -/
def State.axisAt (s : State) (a x : Nat) : Int :=
  let p := s.axis a
  p.pubF * 5000 + p.pubV * ((2 * x : Nat) - (5 * p.pubT : Nat) : Int)

/-- The first slot at or after the instant at which the axis is predicted to reach `target` (1/65,536 count) in the direction of travel;
none while it stands still or moves backwards (R144, R145). -/
def State.axisSlot (s : State) (a : Nat) (up : Bool) (target : Int) : Option Nat :=
  let p := s.axis a
  let v := if up then p.pubV else -p.pubV
  let d := if up then target - p.pubF else p.pubF - target
  if v ≤ 0 then none else some (-(-(5 * p.pubT * v + 5000 * d) / (2 * v))).toNat

/-- The columns whose count the axis, at `p` (1/65,536 count), has passed are missed (Table 5-3, R154). -/
def Seq.skipPassed (q : Seq) (p : Int) : Seq :=
  let c := q.colRun
  let d := if c.dirUp then p - c.a0 else c.a0 - p
  let k := if d < 0 ∨ c.period = 0 then 0 else d.toNat / (c.period * 65536) + 1
  { q with colRun := { c with next := max c.next (min k c.ncol) } }

/-! ## CMP outputs (R327, R331) -/

/-- A pulse of output `n` from the first slot boundary at or after `t` + 300 ns, `w` × 100 ns long. -/
def State.cmpPulse (s : State) (n t w : Nat) : State :=
  if w = 0 then s
  else
    let x := slotAfter (t + 300 * 65536)
    { s with axf := { s.axf with pulses := s.axf.pulses ++ [⟨n, slotFine x, slotFine (x + 250 * w)⟩] } }

/-- The reject pulse of a product-detect input at instant `t` (R331). -/
def State.rejectPulse (s : State) (d t : Nat) : State :=
  let r := s.lv (R.AXF_PDET_REJOUT d)
  if fget r F.AXF_PDET_REJOUT_OUTEN = 1 then
    s.cmpPulse (fget r F.AXF_PDET_REJOUT_OUT) t (fget r F.AXF_PDET_REJOUT_WIDTH)
  else s

/-! ## Waymarks (Table 11-4) -/

def wmAddr (a i : Nat) : Nat := 0x3200000 + 0x10000 * a + 16 * i

/-- A waymark entry. -/
structure Wm where
  w : Int
  en : Bool
  down : Bool
  rearm : Bool
  firePast : Bool
  out : Nat
  outEn : Bool
  width : Nat
  state : Nat                        -- 0 EMPTY, 1 PENDING, 2 FIRED, 3 PASSED
  deriving DecidableEq, Repr

def State.wm (s : State) (a i : Nat) : Wm :=
  let f := s.sramNat (wmAddr a i + 6) 1
  { w := sgn 48 (s.sramNat (wmAddr a i) 6), en := bit f 0, down := bit f 1, rearm := bit f 2, firePast := bit f 3, out := f / 16 % 8,
    outEn := bit f 7, width := s.sramNat (wmAddr a i + 8) 2, state := s.sramNat (wmAddr a i + 10) 1 % 4 }

def State.wmState (s : State) (a i st : Nat) : State := s.sramPut (wmAddr a i + 10) (leBytes st 2)

/-- The entry is reached at count `p` (R324). -/
def Wm.reached (m : Wm) (p : Int) : Bool := if m.down then decide (diff48 p m.w ≤ 0) else decide (0 ≤ diff48 p m.w)

/-- The count has travelled back beyond the hysteresis (R325). -/
def Wm.back (m : Wm) (p : Int) (h : Nat) : Bool :=
  if m.down then decide ((h : Int) ≤ diff48 p m.w) else decide (diff48 p m.w ≤ -(h : Int))

/-- A sequencer that waits on the waymark goes on at the first slot boundary at or after tw + 1500 ns, with W = 1 and Z = 0; one that only
armed it has W = 1 (R93, R115, R147). -/
def State.wmWake (s : State) (a i tw n : Nat) : State :=
  let q := s.seq n
  if !(q.running && q.shape.wmArmed && q.shape.wmAxis = a && q.shape.wmIndex = i) then s
  else
    let q := { q with arch := { q.arch with fw := true } }
    match q.act with
    | .waitWm _ _ _ _ =>
      let x := max q.cursor (slotAfter (tw + 1500 * 65536))
      let q := q.holdFor (x - q.cursor) .wait false
      s.setSeq n { q with arch := { q.arch with fz := false, pc := q.arch.pc + (if bits (progWord s.mem.sram q.arch.pc) 9 8 = 1 then 2 else 1) },
                          act := .ready }
    | _ => s.setSeq n q

/-- Entry `i` fires with fire time `tw` (R325 to R327). -/
def State.wmFire (s : State) (a i tw : Nat) (m : Wm) : State :=
  let s := (s.wmState a i 2).inc (R.AXF_AX_WMFIRED a) 1
  let s := if m.outEn then s.cmpPulse m.out tw m.width else s
  let s := (List.range 26).foldl (fun s n => s.wmWake a i tw n) s
  s.camSource 2 (a * 4096 + i) (tw + 300 * 65536)

/-- An entry that has just become PENDING is judged at instant `t` (R324); while the axis is not valid nothing fires or passes (R318;
log entry 18). -/
def State.wmJudge (s : State) (a i t : Nat) : State :=
  let m := s.wm a i
  if m.state ≠ 1 ∨ !s.axValid a ∨ !m.reached (s.pos a) then s
  else if m.firePast then s.wmFire a i t m
  else (s.wmState a i 3).inc (R.AXF_AX_WMPASSED a) 1

/-- A write of the 16 bytes `bs` to an entry: with EN = 1 it is PENDING and judged (R323). -/
def State.wmWrite (s : State) (a i t : Nat) (bs : List Byte) : State :=
  let en := bit (leNat (bs.drop 6) % 256) 0
  let s := (s.sramPut (wmAddr a i) (bs.take 16)).wmState a i (b2n en)
  if en then s.wmJudge a i t else s

/-- A WAYMARK_LOAD record `p` is written: bytes 0 and 1 are the index, where Table 11-4 has POS[15:0]; those bits of the entry are a free
value (R323; log entry 5). -/
def State.wmLoad (s : State) (a : Nat) (p : List Byte) : State :=
  s.draw.wmWrite a (leNat (p.take 2)) (s.fine 0) (leBytes (Config.freeWord s.free).toNat 2 ++ p.drop 2)

/-- The write of TSC at a coding grant: count, EN and direction of travel, the other fields kept (R182). An index beyond the list is not
written (R323). -/
def State.wmTsc (s : State) (a i : Nat) (w : Int) : State :=
  if s.wmLen a ≤ i then s
  else
    let f := s.sramNat (wmAddr a i + 6) 1
    let f := setBit (setBit f 0 true) 1 false
    (((s.sramPut (wmAddr a i) (leBytes (wrap 48 w) 6)).sramPut (wmAddr a i + 6) (leBytes f 1)).wmState a i 1).wmJudge a i (s.fine 0)

/-! ## A change of the count -/

/-- The instant at which a straight move from `p0` at t0 to `p1` at t1 crosses `w` (R326). -/
def crossAt (p0 p1 w : Int) (t0 t1 : Nat) : Nat :=
  let d := diff48 p1 p0
  if d = 0 then t1 else t0 + ((diff48 w p0 * ((t1 - t0 : Nat) : Int)) / d).toNat

/-- Every entry of the axis is judged against the new count; TYPE 1 interpolates the crossing from the sample before at `t0` (R324 to
R326). The number that fired is reported by CORRFIRE when `corr`. -/
def State.wmAll (s : State) (a : Nat) (p0 : Int) (t0 t1 : Nat) (corr : Bool) : State :=
  let p := s.pos a
  let h := s.lfld (R.AXF_AX_HYST a) F.AXF_AX_HYST_HYST
  (List.range (s.wmLen a)).foldl (fun s i =>
    let m := s.wm a i
    if !m.en then s
    else if m.state = 1 then
      if m.reached p then
        let tw := if s.axType a = 1 && !corr then crossAt p0 p m.w t0 t1 else t1
        let s := s.wmFire a i tw m
        if corr then s.setFld (R.AXF_AX_STAT a) F.AXF_AX_STAT_CORRFIRE 1 else s
      else s
    else if (m.state = 2 ∨ m.state = 3) ∧ m.rearm ∧ m.back p h then s.wmState a i 1
    else s) s

/-- Rejects of edges without a record (R329) and product compares of the camera pipelines (R341) at a new count. -/
def State.lineMarks (s : State) (a t : Nat) : State :=
  let p := s.pos a
  let hit (d : Nat) (x : Int) : Bool := s.lfld (R.AXF_PDET_CFG d) F.AXF_PDET_CFG_AXIS = a && decide (0 ≤ diff48 p x)
  let due := s.axf.rejects.filter fun r => hit r.1 r.2
  let s := { s with axf := { s.axf with rejects := s.axf.rejects.filter fun r => !hit r.1 r.2 } }
  let s := due.foldl (fun s r => s.rejectPulse r.1 t) s
  (List.range 4).foldl (fun s c =>
    let m := s.cam c
    let hit (x : Nat × Int × Nat) : Bool := x.1 = a && decide (0 ≤ diff48 p x.2.1)
    let due := m.compares.filter hit
    if due.isEmpty then s
    else
      let s := s.setCam c { m with compares := m.compares.filter fun x => !hit x }
      due.foldl (fun s x =>
        s.camDecide c 5 x.2.2 (slotAfter (t + 300 * 65536) + s.lfld (R.CAM_TDLY c) F.CAM_TDLY_TDLY)) s) s

/-- A sample taken at `t` moves the count of axis `a` by `d` (before DIRINV). A correction that waits is applied first, as motion
(R320). While the axis is not valid the counter holds (R318). -/
def State.axMove (s : State) (a : Nat) (d : Int) (t0 t : Nat) : State :=
  if !s.axValid a then s
  else
    let x := s.axis a
    let s := match x.corr with
      | some c =>
        let s := s.setAxis a { x with corr := none }
        let p0 := s.pos a
        ((s.setPos a (p0 + c)).wmAll a p0 t t true).lineMarks a t
      | none => s
    let d := if s.lfld (R.AXF_AX_CFG a) F.AXF_AX_CFG_DIRINV = 1 then -d else d
    let p0 := s.pos a
    let s := s.setPos a (p0 + d)
    let s := if (s.axis a).judge then
        (List.range (s.wmLen a)).foldl (fun s i => s.wmJudge a i t) (s.setAxis a { s.axis a with judge := false })
      else s
    (s.wmAll a p0 t0 t false).lineMarks a t

/-- One counted step of a TYPE 0 or TYPE 3 axis: the edge's time, direction and interval are kept (R321). -/
def State.axEdge (s : State) (a : Nat) (fwd : Bool) (t : Nat) : State :=
  if !s.axValid a then s
  else
    let inv := s.lfld (R.AXF_AX_CFG a) F.AXF_AX_CFG_DIRINV = 1
    let up := if inv then !fwd else fwd
    let s := s.axMove a (if fwd then 1 else -1) t t
    let x := s.axis a
    s.setAxis a { x with te := t, up := up, gap := if x.te ≠ 0 ∧ x.up = up then some (t - x.te) else none }

def State.axErr (s : State) (a : Nat) (f : Fld) : State :=
  (s.setFld (R.AXF_AX_STAT a) f 1).inc (R.AXF_AX_ERRCNT a) 1

/-- A sample was good or bad (R318). -/
def State.axGood (s : State) (a : Nat) (ok : Bool) : State :=
  let x := s.axis a
  s.setAxis a { x with good := if ok then min 64 (x.good + 1) else 0 }

/-! ## Commands: inputs -/

/-- The place of a quadrature state (A in bit 0, B in bit 1) in the order of counting up: A leads B (log entry 18). -/
def quadPlace (ab : Nat) : Nat := if ab % 4 = 0 then 0 else if ab % 4 = 1 then 1 else if ab % 4 = 3 then 2 else 3

/-- AXIS_QUAD_EDGE (R314): the accepted levels of A (bit 0) and B (bit 1) of a TYPE 0 axis become `ab`. -/
def execAxisQuadEdge (a ab ns frac : Nat) (s : State) : Res State :=
  let s := s.arrive ns
  if !s.axOn a ∨ s.axType a ≠ 0 ∨ s.mode = .boot then done s
  else
    let x := s.axis a
    let d := (quadPlace ab + 4 - quadPlace x.ab) % 4
    let s := s.setAxis a { x with ab := ab % 4 }
    if d = 0 then done s
    else if d = 2 then done (s.axErr a F.AXF_AX_STAT_QERR)
    else done (s.axEdge a (decide (d = 1)) (s.fine frac))

/-- The place of a Hall code UVW in the forward order, 6 where the code is invalid (R315). -/
def hallPlace (c : Nat) : Nat :=
  if c = 1 then 0 else if c = 3 then 1 else if c = 2 then 2 else if c = 6 then 3 else if c = 4 then 4 else if c = 5 then 5 else 6

/-- AXIS_HALL_CHANGE (R315): the Hall code of a TYPE 3 axis becomes `code`. -/
def execAxisHallChange (a code ns frac : Nat) (s : State) : Res State :=
  let s := s.arrive ns
  if !s.axOn a ∨ s.axType a ≠ 3 ∨ s.mode = .boot then done s
  else if hallPlace code = 6 then done (s.axErr a F.AXF_AX_STAT_HALLERR)
  else
    let x := s.axis a
    let s := s.setAxis a { x with hall := code }
    if hallPlace x.hall = 6 then done s
    else
      let d := (hallPlace code + 6 - hallPlace x.hall) % 6
      if d = 0 then done s
      else if d = 1 then done (s.axEdge a true (s.fine frac))
      else if d = 5 then done (s.axEdge a false (s.fine frac))
      else done (s.inc (R.AXF_AX_ERRCNT a) 1)

/-- Binary search for the phase ⌊angle × 4096 ÷ turn⌋ within a quadrant, from bit `b` downwards; (c, v) lies in the first quadrant. -/
def phaseGo (c v : Int) : Nat → Nat → Nat
  | 0, k => k
  | b + 1, k =>
    let j := k + 2 ^ b
    let (x, y) := cosSin (j : Int) 4096
    if j < 1024 ∧ 0 ≤ v * x - c * y then phaseGo c v b j else phaseGo c v b k

/-- The phase of a trimmed pair in 1/4096 period (R316; log entry 18). -/
def sinCosPhase (v c : Int) : Nat :=
  if 0 < c ∧ 0 ≤ v then phaseGo c v 10 0
  else if c ≤ 0 ∧ 0 < v then 1024 + phaseGo v (-c) 10 0
  else if c < 0 ∧ v ≤ 0 then 2048 + phaseGo (-c) (-v) 10 0
  else if 0 ≤ c ∧ v < 0 then 3072 + phaseGo (-v) c 10 0
  else 0

/-- A trim run records the extremes of an axis and the counts it covered (R393). -/
def State.trimRecord (s : State) (a : Nat) (v c : Int) (travel : Nat) : State :=
  if s.cal.kind ≠ 2 then s
  else match sget (fun _ => none) a s.cal.extremes with
    | none => s
    | some e =>
      let e := { e with sMin := min e.sMin v, sMax := max e.sMax v, cMin := min e.cMin c, cMax := max e.cMax c,
                        travel := e.travel + travel, valid := e.valid && s.axValid a }
      { s with cal := { s.cal with extremes := sput (fun _ => none) a (some e) s.cal.extremes } }

/-- AXIS_SINCOS_SAMPLE (R316, R393): an ADC pair of a TYPE 1 axis. -/
def execAxisSincosSample (a : Nat) (sv cv : Int) (ns frac : Nat) (s : State) : Res State :=
  let s := s.arrive ns
  if !s.axOn a ∨ s.axType a ≠ 1 ∨ s.mode = .boot then done s
  else
    let t := s.fine frac
    let sv := satI 16 sv
    let cv := satI 16 cv
    let t0 := s.rd (R.CAL_AX_TRIM0 a)
    let v := satI 16 (sv - sgn 16 (fget t0 F.CAL_AX_TRIM0_SOFS))
    let c := satI 16 (fdiv ((cv - sgn 16 (fget t0 F.CAL_AX_TRIM0_COFS)) * s.fld (R.CAL_AX_TRIM1 a) F.CAL_AX_TRIM1_CGAIN + 8192) 16384)
    let x := s.axis a
    let ph := sinCosPhase v c
    let d : Int := match x.phase with
      | some p => sgn 12 (wrap 12 ((ph : Int) - p))
      | none => 0
    let fast := decide (1024 < d) || decide (d < -1024)
    let r := fdiv (v * v + c * c) 32768
    let cfg := s.lv (R.AXF_AX_CFG2 a)
    let amp := decide (r < fget cfg F.AXF_AX_CFG2_LOW) || decide ((fget cfg F.AXF_AX_CFG2_HIGH : Int) < r)
    let bad := if !amp then 0 else if x.ampBad = 5 then 5 else min 4 (x.ampBad + 1)
    let s := s.setAxis a { x with phase := some ph, ampBad := bad, frameAt := t }
    let s := if fast then s.setFld (R.AXF_AX_STAT a) F.AXF_AX_STAT_OVSP 1 else s
    let s := s.axMove a d (if x.phase.isSome then x.frameAt else t) t
    done ((s.axGood a (!fast && !amp)).trimRecord a sv cv d.natAbs)

/-- AMPLITUDE_FAULT (R316): four consecutive samples lay outside the amplitude window; `sv` and `cv` are the last pair. -/
def execAmplitudeFault (a : Nat) (sv cv : Int) (ns : Nat) (s : State) : Res State :=
  let s := s.arrive ns
  let x := s.axis a
  if 8 ≤ a ∨ x.ampBad ≠ 4 then done s
  else
    let s := (s.setAxis a { x with ampBad := 5 }).setFld (R.AXF_AX_STAT a) F.AXF_AX_STAT_AMPFLT 1
    let s := s.cairn 7 1 false (leBytes a 4 ++ leBytes (wrap 16 sv) 2 ++ leBytes (wrap 16 cv) 2)
    done (s.report 0x30 0xFFFF a 0 0)

/-- The binary value of an n-bit Gray code. -/
def grayToBin (v : Nat) : Nat → Nat
  | 0 => 0
  | n + 1 => grayToBin v n ^^^ (v / 2 ^ n)

/-- AXIS_SSI_FRAME (R317): a frame of a TYPE 2 axis, time-tagged at its first clock edge. -/
def execAxisSsiFrame (a raw ns frac : Nat) (s : State) : Res State :=
  let s := s.arrive ns
  if !s.axOn a ∨ s.axType a ≠ 2 ∨ s.mode = .boot then done s
  else
    let t := s.fine frac
    let cfg := (s.lv (R.AXF_AX_CFG2 a)).toNat
    let n := cfg % 64
    let v := raw % 2 ^ n
    let v := if bit cfg 6 then grayToBin v n % 2 ^ n else v
    let x := s.axis a
    match x.frame with
    | none => done ((s.setAxis a { x with frame := some v, frameAt := t }).axGood a true)
    | some u =>
      let d := sgn n (wrap n ((v : Int) - u))
      let bad := decide ((2 ^ (n - 2) : Nat) < d.natAbs)
      let s := s.setAxis a { x with frame := some v, frameAt := t, frameStep := if bad then 0 else d, frameGap := t - x.frameAt,
                                    ssiBad := if bad then min 4 (x.ssiBad + 1) else 0 }
      if bad then done ((s.axErr a F.AXF_AX_STAT_SSIERR).axGood a false)
      else done ((s.axMove a d t t).axGood a true)

/-- AXIS_VALID_LOSS (R318): AMPFLT, OVSP or four consecutive SSI errors. -/
def execAxisValidLoss (a : Nat) (s : State) : Res State :=
  let x := s.axis a
  let st := s.rd (R.AXF_AX_STAT a)
  if 8 ≤ a ∨ !s.axValid a ∨ !(4 ≤ x.ssiBad ∨ (x.good = 0 ∧ (fget st F.AXF_AX_STAT_AMPFLT = 1 ∨ fget st F.AXF_AX_STAT_OVSP = 1))) then
    done s
  else done ((s.setFld (R.AXF_AX_STAT a) F.AXF_AX_STAT_VALID 0).setAxis a { x with good := 0, ssiBad := 0, corr := none, te := 0, gap := none })

/-- AXIS_VALID_RESTORE (R318): 64 good samples in a row. The samples of TYPE 0 and TYPE 3 inputs are not counted one by one (log
entry 18). -/
def execAxisValidRestore (a : Nat) (s : State) : Res State :=
  let x := s.axis a
  if !s.axOn a ∨ s.axValid a ∨ ((s.axType a = 1 ∨ s.axType a = 2) ∧ x.good < 64) ∨ s.mode = .boot then done s
  else
    let s := (s.setFld (R.AXF_AX_STAT a) F.AXF_AX_STAT_VALID 1).setFld (R.AXF_AX_STAT a) F.AXF_AX_STAT_POSLOST 1
    done (s.setAxis a { x with te := 0, gap := none })

/-- The expected count of an index (R319). -/
def expectedIndex (obs ref : Int) (per : Nat) : Int := if per = 0 then ref else ref + rdiv (diff48 obs ref) per * per

/-- INDEX_CAPTURE (R319, R320): a rising edge of Z was captured. -/
def execIndexCapture (a ns : Nat) (s : State) : Res State :=
  let s := s.arrive ns
  let mode := s.lfld (R.AXF_AX_CFG a) F.AXF_AX_CFG_IDXMODE
  if !s.axOn a ∨ 1 < s.axType a ∨ mode = 0 ∨ !s.axValid a ∨ s.mode = .boot then done s
  else
    let obs := s.pos a
    let ref := sgn 48 ((s.lv (R.AXF_AX_IDXREF_LO a)).toNat + (s.lv (R.AXF_AX_IDXREF_HI a)).toNat % 65536 * 2 ^ 32)
    let x := s.axis a
    if mode = 3 ∧ x.refDue then
      let s := ((s.setAxis a { x with refDue := false, te := 0, gap := none }).setPos a ref).setFld (R.AXF_AX_STAT a) F.AXF_AX_STAT_REFD 1
      done ((List.range (s.wmLen a)).foldl (fun s i =>
        let m := s.wm a i
        if m.state = 1 ∧ m.reached ref then (s.wmState a i 3).inc (R.AXF_AX_WMPASSED a) 1 else s) s)
    else
      let d := diff48 obs (expectedIndex obs ref (s.lv (R.AXF_AX_IDXPER a)).toNat)
      if d = 0 then done s
      else
        let v := wrap 48 obs
        let s := (s.wr (R.AXF_AX_IDXOBS_LO a) (BitVec.ofNat 32 v)).wr (R.AXF_AX_IDXOBS_HI a) (BitVec.ofNat 32 (v / 2 ^ 32))
        let s := (s.setFld (R.AXF_AX_STAT a) F.AXF_AX_STAT_IDXMIS 1).inc (R.AXF_AX_IDXERR a) 1
        let tol := s.lfld (R.AXF_AX_HYST a) F.AXF_AX_HYST_IDXTOL
        done (if mode = 2 ∧ d.natAbs ≤ tol then s.setAxis a { x with corr := some (-d) } else s)

/-- SPEED_PUBLISH (R322): at an instant whose NS is a multiple of 1000. -/
def execSpeedPublish (ns : Nat) (s : State) : Res State :=
  let s := s.arrive ns
  let t := s.now / 1000 * 1000
  let s := (List.range 8).foldl (fun s a =>
    let x := s.axis a
    if !s.axOn a ∨ t ≤ x.pubT ∨ s.mode = .boot then s
    else
      let f := s.finePos a (t * 65536)
      let v : Int :=
        if !s.axValid a then 0
        else if s.axType a = 2 then (if x.frameGap = 0 then 0 else rdiv (x.frameStep * 65536 * 65536000) x.frameGap)
        else f - x.prevF
      (s.setAxis a { x with prevF := f, pubT := t, pubCount := wrap 48 (s.pos a), pubF := f, pubV := v }).wr (R.AXF_AX_SPEED a) (wordOf v)) s
  done ((List.range 4).foldl (fun s m =>
    let ph := s.fld (R.AXF_MD_STAT m) F.AXF_MD_STAT_PHASE
    if ph = 1 ∨ ph = 3 then
      let v := (s.axis (s.lfld (R.AXF_MD_CFG m) F.AXF_MD_CFG_AXIS)).pubV
      let d := s.md m
      s.setMd m { d with still := if v.natAbs ≤ (s.rd (R.AXF_MD_STOPTHR m)).toNat then min 16 (d.still + 1) else 0 }
    else s) s)

/-! ## Commands: CMP outputs -/

def State.cmpPin (s : State) (n : Nat) (on : Bool) : State :=
  s.emit (.pin 1 n (on != (s.fld (R.AXF_CMP_CFG n) F.AXF_CMP_CFG_POL = 1)) s.now)

/-- CMP_PULSE_START (R327): output `n` goes active where a pulse covers the instant. -/
def execCmpPulseStart (n ns frac : Nat) (s : State) : Res State :=
  let s := s.arrive ns
  let t := s.fine frac
  if !bit s.axf.cmpOn n && s.axf.pulses.any (fun p => p.out = n && decide (p.first ≤ t) && decide (t < p.last)) then
    done ({ s with axf := { s.axf with cmpOn := setBit s.axf.cmpOn n true } }.cmpPin n true)
  else done s

/-- CMP_PULSE_END (R327): output `n` goes inactive where no pulse covers the instant. -/
def execCmpPulseEnd (n ns frac : Nat) (s : State) : Res State :=
  let s := s.arrive ns
  let t := s.fine frac
  if bit s.axf.cmpOn n && !s.axf.pulses.any (fun p => p.out = n && decide (p.first ≤ t) && decide (t < p.last)) then
    let x := s.axf
    done ({ s with axf := { x with cmpOn := setBit x.cmpOn n false, pulses := x.pulses.filter fun p => decide (t < p.last) } }.cmpPin n false)
  else done s

/-! ## Product tracking (R328 to R332) -/

def State.pdFld (s : State) (d : Nat) (f : Fld) : Nat := s.lfld (R.AXF_PDET_CFG d) f

/-- A record becomes TRACKED with its detect count and time: TSC gets its coding job, and the camera pipelines that compare products get
their compare (R329, R341). -/
def State.track (s : State) (r : Nat) (pd : Int) (t64 t : Nat) : State :=
  let s := s.sramPut (prodAddr r + 32) (leBytes (wrap 48 pd) 6)
  let s := (s.sramPut (prodAddr r + 38) (leBytes 2 1)).sramPut (prodAddr r + 44) (leBytes t64 8)
  let tile := s.sramNat (prodAddr r) 2
  let d := s.sramNat (prodAddr r + 2) 1 % 4
  let s := { s with tsc := { s.tsc with jobList := s.tsc.jobList ++ [⟨r, tile, none, none⟩] } }
  let axis := s.pdFld d F.AXF_PDET_CFG_AXIS
  (List.range 4).foldl (fun s c =>
    if s.fld (R.CAM_CFG c) F.CAM_CFG_EN = 1 ∧ s.lfld (R.CAM_TRIG c) F.CAM_TRIG_SRC = 5 ∧ s.lfld (R.CAM_TRIG c) F.CAM_TRIG_AXIS = d then
      let m := s.cam c
      let x := pd + intOf (s.lv (R.CAM_PER c))
      if 64 ≤ m.compares.length then s.inc (R.CAM_TRGDROP c) 1
      else if 0 ≤ diff48 (s.pos axis) x then
        s.camDecide c 5 r (slotAfter (t + 300 * 65536) + s.lfld (R.CAM_TDLY c) F.CAM_TDLY_TDLY)
      else s.setCam c { m with compares := m.compares ++ [(axis, x, r)] }
    else s) s

/-- The oldest record of input `d` in state WAIT, in ring order from WPTR (R329). -/
def State.oldestWait (s : State) (d : Nat) : Option Nat :=
  let w := s.fld R.AXF_PQ_STAT F.AXF_PQ_STAT_WPTR
  if s.fld R.AXF_PQ_STAT F.AXF_PQ_STAT_INFLIGHT = 0 then none
  else ((List.range 4096).map fun i => (w + i) % 4096).find? fun r =>
    s.prodState r = 1 && s.sramNat (prodAddr r + 2) 1 % 4 = d

/-- PRODUCT_DETECT_EDGE (R329): an edge of the configured polarity on PDETd. -/
def execProductDetectEdge (d ns frac : Nat) (s : State) : Res State :=
  let s := s.arrive ns
  if 4 ≤ d ∨ s.pdFld d F.AXF_PDET_CFG_EN = 0 ∨ s.mode = .boot then done s
  else
    let pd := s.pos (s.pdFld d F.AXF_PDET_CFG_AXIS)
    let blank := s.pdFld d F.AXF_PDET_CFG_BLANK
    let near : Bool := match sget (fun _ => none) d s.axf.lastPd with
      | some p => decide (blank ≠ 0) && decide ((diff48 pd p).natAbs ≤ blank)
      | none => false
    if near then done (s.inc (R.AXF_PDET_BLANKED d) 1)
    else
      let s := { s with axf := { s.axf with lastPd := sput (fun _ => none) d (some pd) s.axf.lastPd } }
      match s.oldestWait d with
      | some r => done (s.track r pd ((s.nowTs + frac % 65536) % 2 ^ 64) (s.fine frac))
      | none =>
        let s := s.inc (R.AXF_PDET_NOREC d) 1
        if s.pdFld d F.AXF_PDET_CFG_NOREC_REJ = 1 then
          done { s with axf := { s.axf with rejects := s.axf.rejects ++ [(d, pd + intOf (s.lv (R.AXF_PDET_REJOFS d)))] } }
        else done s

/-- The job of a record has not ended: a head runs it, or it waits for a head. -/
def State.jobOpen (s : State) (r : Nat) : Bool :=
  (List.range 24).any (fun h => s.headJob h = some r) || s.tsc.jobList.any fun j => j.rcd = r

/-- PRODUCT_CLOSE (R331, R332): the line axis has reached the reject point of record `r`. -/
def execProductClose (r ns frac : Nat) (s : State) : Res State :=
  let s := s.arrive ns
  let d := s.sramNat (prodAddr r + 2) 1 % 4
  let axis := s.pdFld d F.AXF_PDET_CFG_AXIS
  if 4096 ≤ r ∨ s.prodState r ≠ 2 ∨ !s.axValid axis ∨ diff48 (s.pos axis) (s.prodPd r + intOf (s.lv (R.AXF_PDET_REJOFS d))) < 0 then done s
  else
    let s := if s.jobOpen r then (s.prodFlag r 3).prodFlag r 1 else s
    let not := bit (s.prodFlags r) 1
    let s := if not then s else s.prodFlag r 0
    let rej := not || (bit (s.prodFlags r) 2 && s.pdFld d F.AXF_PDET_CFG_REJSTR = 1)
    let s := if rej then (s.prodFlag r 5).rejectPulse d (s.fine frac) else s
    let s := s.inc (if rej then R.AXF_PQ_REJECTED else R.AXF_PQ_CODED) 1
    let tc := (s.nowTs + frac % 65536) % 2 ^ 64
    let s := (s.sramPut (prodAddr r + 38) (leBytes 3 1)).sramPut (prodAddr r + 52) (leBytes tc 8)
    let s := s.setFld R.AXF_PQ_STAT F.AXF_PQ_STAT_INFLIGHT (s.fld R.AXF_PQ_STAT F.AXF_PQ_STAT_INFLIGHT - 1)
    if s.fld R.AXF_PQ_CFG F.AXF_PQ_CFG_QREC = 1 then
      done (s.quality R.AXF_PQ_QDROP (qrec tc (s.sramNat (prodAddr r) 2) (s.sramNat (prodAddr r + 40) 1 % 32) 0xFE r (s.prodFlags r)
        (s.sramNat (prodAddr r + 16) 4) (s.sramNat (prodAddr r + 20) 4) 0 0))
    else done s

/-- The reserved bits of a push record, or its DET or TILE, refuse it (R328). -/
def State.pushBad (s : State) (p : List Byte) : Bool :=
  let f (o z : Nat) : Nat := leNat ((p.drop o).take z)
  let tile := f 0 2
  let b := f 2 1
  decide (s.ntiles ≤ tile) || !(s.tileD tile).twin || s.pdFld (b % 4) F.AXF_PDET_CFG_EN = 0 || decide (8 ≤ b) || f 3 1 ≠ 0 ||
    (!bit b 2 && f 8 6 ≠ 0) || f 14 2 ≠ 0 || f 24 8 ≠ 0

/-- PRODUCT_PUSH (R328), the command `n`. -/
def execProductPush (n : Nat) (s : State) : Res State :=
  done (s.runCmd 0x11 n fun c s =>
    let k := c.arg 0
    if k = 0 then s.endCmd c St.empty 0 0
    else if c.len ≠ 32 * k ∨ !s.dataFits c c.addr c.len then s.endCmd c St.badParam 0 0
    else
      let rs := (List.range k).map fun i => s.dataIn c (c.addr + 32 * i) 32
      let w := s.fld R.AXF_PQ_STAT F.AXF_PQ_STAT_WPTR
      if rs.any s.pushBad then s.endCmd c St.badParam 0 0
      else if 4096 < k ∨ (List.range k).any fun i => s.prodState ((w + i) % 4096) = 1 || s.prodState ((w + i) % 4096) = 2 then
        s.endCmd c St.notReady 0 0
      else
        let s := ((List.range k).zip rs).foldl (fun s p =>
          let r := (w + p.1) % 4096
          let s := s.sramPut (prodAddr r) (p.2 ++ leBytes 0 6 ++ leBytes 1 1 ++ leBytes 0 1 ++ leBytes 31 1 ++ leBytes 0 23)
          if bit (leNat ((p.2.drop 2).take 1)) 2 then
            s.track r (sgn 48 (leNat ((p.2.drop 8).take 6))) (s.nowTs % 2 ^ 64) (s.fine 0)
          else s) s
        let s := s.setFld R.AXF_PQ_STAT F.AXF_PQ_STAT_WPTR ((w + k) % 4096)
        let s := s.setFld R.AXF_PQ_STAT F.AXF_PQ_STAT_INFLIGHT (s.fld R.AXF_PQ_STAT F.AXF_PQ_STAT_INFLIGHT + k)
        s.endCmd c St.done k 0)

/-- WAYMARK_LOAD (R323), the command `n`. -/
def execWaymarkLoad (n : Nat) (s : State) : Res State :=
  done (s.runCmd 0x10 n fun c s =>
    let k := c.arg 0
    let a := c.target
    if 8 ≤ a then s.endCmd c St.badParam 0 0
    else if k = 0 then s.endCmd c St.empty 0 0
    else if c.len ≠ 16 * k ∨ !s.dataFits c c.addr c.len then s.endCmd c St.badParam 0 0
    else
      let rs := (List.range k).map fun i => s.dataIn c (c.addr + 16 * i) 16
      let f (p : List Byte) (o z : Nat) : Nat := leNat ((p.drop o).take z)
      if rs.any fun p => decide (s.wmLen a ≤ f p 0 2) || f p 7 1 ≠ 0 || 4 ≤ f p 10 2 || f p 12 4 ≠ 0 then s.endCmd c St.badParam 0 0
      else (rs.foldl (fun s p => s.wmLoad a p) s).endCmd c St.done k 0)

/-! ## Medium drives (R333, R334) -/

/-- The node `lane × 16 + position` can be reached (R333). -/
def State.nodeUp (s : State) (node : Nat) : Bool :=
  talks (s.laneState (node / 16)) && bit (s.fld (R.LN_CHAIN (node / 16)) F.LN_CHAIN_PRESENT) (node % 16)

/-- The enabled channel whose node is `node`. -/
def State.mdOf (s : State) (node : Nat) : Option Nat :=
  (List.range 4).find? fun m => s.lfld (R.AXF_MD_CFG m) F.AXF_MD_CFG_EN = 1 && s.lfld (R.AXF_MD_CFG m) F.AXF_MD_CFG_NODE = node

/-- A command of the device to the drive of channel `m`: the code and DATA[0], with AXF_MDm_ACC as ARG2 (R334). -/
def State.webSend (s : State) (m code : Nat) (v : Int) : State :=
  let node := s.lfld (R.AXF_MD_CFG m) F.AXF_MD_CFG_NODE
  let s := s.setMd m { s.md m with moving := false, still := 0 }
  s.sendMsg (node / 16) (node % 16) Mk.cmd code 1 [wordOf v, s.rd (R.AXF_MD_ACC m), 0, 0] (.web m)

/-- MEDIUM (R333), the command `n`. -/
def execMedium (n : Nat) (s : State) : Res State :=
  done (s.runCmd 0x12 n fun c s =>
    let code := c.arg 0
    let t := c.target
    let bad := !((decide (1 ≤ code) && decide (code ≤ 4)) || (decide (0x100 ≤ code) && decide (code ≤ 0xFFFF))) || decide (511 < t) ||
      (code = 2 && c.arg 1 ≠ 0) || (code = 4 && (decide (1 < c.arg 1) || c.arg 2 ≠ 0))
    let busy := (List.range 4).find? fun m =>
      s.fld (R.AXF_MD_STAT m) F.AXF_MD_STAT_ACTIVE = 1 && s.lfld (R.AXF_MD_CFG m) F.AXF_MD_CFG_NODE = t
    if bad then s.endCmd c St.badParam 0 0
    else if code = 3 ∧ c.arg 1 = 0 then s.endCmd c St.empty 0 0
    else if !s.nodeUp t ∨ (busy.isSome ∧ code ≠ 2) then s.endCmd c St.notReady 0 0
    else
      let s := match busy with
        | some m => s.setFld (R.AXF_MD_STAT m) F.AXF_MD_STAT_HOSTSTOP 1
        | none => s
      (s.putCmd { c with wait := .reply }).sendMsg (t / 16) (t % 16) Mk.cmd code 1
        [BitVec.ofNat 32 (c.arg 1), BitVec.ofNat 32 (c.arg 2), 0, 0] (.medium c.seq))

/-- A web Switchback begins for sequencer `n` of head `h`, or joins the one in progress; false where no channel is bound (R334). -/
def State.webStart (s : State) (n h : Nat) : Bool × State :=
  match s.mdOf (s.fld (R.BSQ_H_STARVE h) F.BSQ_H_STARVE_NODE) with
  | none => (false, s.setFld R.AXF_STAT F.AXF_STAT_NOBIND 1)
  | some m =>
    if s.fld (R.AXF_MD_STAT m) F.AXF_MD_STAT_ACTIVE = 1 then
      let d := s.md m
      (true, s.setMd m { d with waiting := if d.waiting.contains n then d.waiting else d.waiting ++ [n] })
    else
      let v := (s.axis (s.lfld (R.AXF_MD_CFG m) F.AXF_MD_CFG_AXIS)).pubV
      let s := (s.setFld (R.AXF_MD_STAT m) F.AXF_MD_STAT_ACTIVE 1).setFld (R.AXF_MD_STAT m) F.AXF_MD_STAT_PHASE 1
      let s := s.setMd m ⟨rdivAway (v * 1000000) 65536, 0, [n], false, (s.rd (R.BSQ_H_BACK h)).toNat⟩
      (true, s.webSend m 2 0)

/-- The restart of phase 4, or the end after a host STOP (R334). -/
def State.webRestart (s : State) (m : Nat) : State :=
  if s.fld (R.AXF_MD_STAT m) F.AXF_MD_STAT_HOSTSTOP = 1 then s.webEnd m
  else (s.setFld (R.AXF_MD_STAT m) F.AXF_MD_STAT_PHASE 4).webSend m 1 (s.md m).speed

/-- WEB_SWITCHBACK_STOPPED (R334): the drive has accepted the command, and the axis was found stopped at 16 consecutive instants. -/
def execWebSwitchbackStopped (m : Nat) (s : State) : Res State :=
  let ph := s.fld (R.AXF_MD_STAT m) F.AXF_MD_STAT_PHASE
  let d := s.md m
  if 4 ≤ m ∨ !d.moving ∨ d.still < 16 then done s
  else if ph = 1 then done (s.setFld (R.AXF_MD_STAT m) F.AXF_MD_STAT_PHASE 2)
  else if ph = 3 then done (s.webRestart m)
  else done s

/-- WEB_SWITCHBACK_READY (R334, R154): every starved sequencer of the channel is ready. With BACK = 0 phase 3 is omitted, and the overrun
columns are not coded. -/
def execWebSwitchbackReady (m : Nat) (s : State) : Res State :=
  let d := s.md m
  if 4 ≤ m ∨ s.fld (R.AXF_MD_STAT m) F.AXF_MD_STAT_PHASE ≠ 2 ∨ d.waiting.any (fun n => (s.seq n).running && (s.seq n).colRun.starved) then
    done s
  else if d.back = 0 then
    let s := d.waiting.foldl (fun s n =>
      let q := s.seq n
      let x := q.skipPassed (s.pos q.colRun.axis * 65536)
      let s := s.setSeq n x
      if x.colRun.next = q.colRun.next then s
      else match q.job with
        | some r => s.prodFlag r 1
        | none => s) s
    done (s.webRestart m)
  else
    let k : Int := if d.speed < 0 then d.back else -(d.back : Int)
    done ((s.setFld (R.AXF_MD_STAT m) F.AXF_MD_STAT_PHASE 3).webSend m 3 k)

/-- WEB_SWITCHBACK_RESTART (R334): the reply to RUN ends the manoeuvre. -/
def execWebSwitchbackRestart (m : Nat) (s : State) : Res State :=
  if 4 ≤ m ∨ s.fld (R.AXF_MD_STAT m) F.AXF_MD_STAT_PHASE ≠ 4 ∨ !(s.md m).moving then done s
  else
    let s := (s.md m).waiting.foldl (fun s n => (s.inc (R.BSQ_SWBCNT n) 1).setFld (R.BSQ_SWB n) F.BSQ_SWB_WEB 1) s
    done (s.webEnd m)

/-! ## Node words (R335) -/

/-- AI_STALE (R335): word AIj was not updated for (TMO + 1) µs. -/
def execAiStale (j ns : Nat) (s : State) : Res State :=
  let s := s.arrive ns
  let t := sget (fun _ => 0) j s.axf.aiAt
  if 8 ≤ j ∨ s.fld (R.AXF_AI_CFG j) F.AXF_AI_CFG_EN = 0 ∨ s.now < t + (s.fld R.AXF_AI_TMO F.AXF_AI_TMO_TMO + 1) * 1000 then done s
  else done (s.setFld R.AXF_AI_STAT F.AXF_AI_STAT_STALE (setBit (s.fld R.AXF_AI_STAT F.AXF_AI_STAT_STALE) j true))

/-- EVT_MESSAGE_RECEIVE (R335): an EVT message of position `pos` of lane `n` with its data words. -/
def execEvtMessageReceive (n pos : Nat) (data : List Word) (ns : Nat) (s : State) : Res State :=
  let s := s.arrive ns
  let w := wordAt data 0
  let j := w / 256 % 8
  if 32 ≤ n ∨ !talks (s.laneState n) ∨ s.mode = .boot ∨ w % 256 ≠ 2 then done s
  else if s.fld (R.AXF_AI_CFG j) F.AXF_AI_CFG_EN = 1 ∧ s.fld (R.AXF_AI_CFG j) F.AXF_AI_CFG_NODE = 16 * n + pos % 16 then
    let s := (s.wr (R.AXF_AI j) (data.getD 1 0)).setFld R.AXF_AI_STAT F.AXF_AI_STAT_STALE
      (setBit (s.fld R.AXF_AI_STAT F.AXF_AI_STAT_STALE) j false)
    done { s with axf := { s.axf with aiAt := sput (fun _ => 0) j s.now s.axf.aiAt } }
  else done (s.inc R.AXF_AI_REJECT 1)

end Sys2Proof.Machine
end

