-- ==== Sys2Proof/Machine/Drive.lean ====
section
/-! DEFINITION. From the intent to the head and back: GEO's correction (R380 to R382), the stages of BLD and GSG (R194 to R201), tick
frames and gate blocks (R226 to R231), upstream frames (R235 to R238, R311), emitter diagnosis (R209 to R212, R427), and the column
area copies (R204 to R206). -/

namespace Sys2Proof.Machine

/-! ## GEO (R380 to R382) -/

/-- A signed 32-bit word of SRAM. -/
def State.sramInt (s : State) (a : Nat) : Int := sgn 32 (s.sramNat a 4)

/-- The live correction table of head `h` (R383). -/
def geoLive (h : Nat) : Nat := 0x2400000 + 0x10000 * h
def geoShadow (h : Nat) : Nat := 0x2580000 + 0x10000 * h

/-- Parameter `i` of Table 14-1: A0, A1, A2, B0, B1, B2, ZOFS, ZGAIN. -/
def State.geoPar (s : State) (base i : Nat) : Int := s.sramInt (base + 0xFF00 + 4 * i)

/-- The grid coordinate ⌊(v − lo) × 64 × 65,536 ÷ (hi − lo)⌋, clamped (R381). -/
def gridPos (v lo hi : Int) : Nat := if hi ≤ lo then 0 else (clampI 0 4194304 ((v - lo) * 4194304 / (hi - lo))).toNat

/-- The Catmull-Rom weights of f ÷ 65,536, times 2³⁰ (R381). -/
def catmull (f : Nat) : List Int :=
  let f : Int := f
  let u : Int := 65536
  [-(f * f * f) + 2 * f * f * u - f * u * u, 3 * f * f * f - 5 * f * f * u + 2 * u * u * u,
    -(3 * (f * f * f)) + 4 * f * f * u + f * u * u, f * f * f - f * f * u].map fun n => rdivAway n 524288

/-- One grid term G: component `c` (R381). -/
def State.gridTerm (s : State) (base sx sy c : Nat) : Int :=
  let node (i j : Int) : Int :=
    s.sramInt (base + 12 * (65 * (clampI 0 64 j).toNat + (clampI 0 64 i).toNat) + 4 * c)
  let wx := catmull (sx % 65536)
  let wy := catmull (sy % 65536)
  let sum (w : List Int) (g : Int → Int) : Int :=
    fdiv ((List.range 4).foldl (fun acc k => acc + w.getD k 0 * g ((k : Int) - 1)) 0 + 536870912) 1073741824
  sum wy fun l => sum wx fun k => node ((sx / 65536 : Nat) + k) ((sy / 65536 : Nat) + l)

/-- The drive codes of a field point, before saturation (R380). -/
def State.geoRaw (s : State) (h : Nat) (p : Pt) : Pt :=
  let b := geoLive h
  let f := s.field h
  let sx := gridPos p.x f.x0 f.x1
  let sy := gridPos p.y f.y0 f.y1
  let par := s.geoPar b
  let go (i : Nat) : Int := fdiv (par (i + 1) * p.x + par (i + 2) * p.y + 134217728) 268435456
  ⟨par 0 + go 0 + s.gridTerm b sx sy 0, par 3 + go 3 + s.gridTerm b sx sy 1,
    par 6 + fdiv (par 7 * p.z + 134217728) 268435456 + s.gridTerm b sx sy 2⟩

def State.slice (s : State) (h : Nat) : Slice := sget (fun _ => Slice.reset) h s.bld.slices
def State.setSlice (s : State) (h : Nat) (v : Slice) : State :=
  { s with bld := { s.bld with slices := sput (fun _ => Slice.reset) h v s.bld.slices } }

/-- The drive codes of the set-point of tick `k` for head `h`; a saturated result counts in GEO_Hh_SAT (R380). -/
def State.aim (s : State) (h k : Nat) (p : Pt) : State :=
  let r := s.geoRaw h p
  let c : Pt := ⟨satI 32 r.x, satI 32 r.y, satI 32 r.z⟩
  let n := b2n (c.x ≠ r.x) + b2n (c.y ≠ r.y) + b2n (c.z ≠ r.z)
  let sl := s.slice h
  let s := s.setSlice h { sl with aims := (⟨k, p, c⟩ :: sl.aims.filter fun a => a.tick ≠ k).take 8 }
  if n = 0 then s else s.inc (R.GEO_H_SAT h) n

/-- The aim of head `h` in tick `k`. -/
def State.aimOf (s : State) (h k : Nat) : Option Aim := (s.slice h).aims.find? fun a => a.tick = k

/-- n ÷ d as a multiple of 2⁻⁶⁴, rounded to 32 significant bits (R382). -/
def sig32 (n : Int) (d : Int) : Int :=
  let v := (n.natAbs * 2 ^ 64) / d.natAbs
  let sh := Nat.log2 v - 31
  let r := if v < 2 ^ 32 then v else (v + 2 ^ (sh - 1)) / 2 ^ sh * 2 ^ sh
  if (n < 0) != (d < 0) then -(r : Int) else r

/-- The estimated actual field position of head `h` from its latest encoder position (R382). -/
def State.actual (s : State) (h : Nat) : Option Pt :=
  match (s.lane h).enc with
  | none => none
  | some (k, e) =>
    match s.aimOf h k with
    | none => none
    | some a =>
      let par := s.geoPar (geoLive h)
      let det := par 1 * par 5 - par 2 * par 4
      if det = 0 then some a.p
      else
        let ex := e.x - a.c.x
        let ey := e.y - a.c.y
        let inv (n : Int) : Int := sig32 (n * 268435456) det
        some ⟨a.p.x + rdiv (inv (par 5) * ex + inv (-(par 2)) * ey) (2 ^ 64), a.p.y + rdiv (inv (-(par 4)) * ex + inv (par 1) * ey) (2 ^ 64), a.p.z⟩

/-! ## BLD stages 1 to 8 -/

def State.emitter (s : State) (h b : Nat) : Emitter := sget (fun _ => Emitter.reset) (8 * h + b) s.bld.emitters
def State.setEmitter (s : State) (h b : Nat) (e : Emitter) : State :=
  { s with bld := { s.bld with emitters := sput (fun _ => Emitter.reset) (8 * h + b) e s.bld.emitters } }

/-- The live half of the curve and density area (R213). -/
def State.curveLive (s : State) : Nat := if s.fld R.BLD_STAT F.BLD_STAT_SHADOW = 1 then 0x3000000 else 0x3100000
def State.curveShadow (s : State) : Nat := if s.fld R.BLD_STAT F.BLD_STAT_SHADOW = 1 then 0x3100000 else 0x3000000

/-- PRESENT of head `h` in a half (Table 7-6). -/
def State.present (s : State) (half h k : Nat) : Bool := bit (s.sramNat (half + 0xC0000 + 4 * h) 2) k

/-- Stage 3: the curve of R195 on level `l`; an absent curve is the identity. -/
def State.curveOut (s : State) (h k l : Nat) : Nat :=
  if !s.present s.curveLive h k then l
  else
    let c (i : Nat) : Nat := s.sramNat (s.curveLive + 0x8000 * h + 0x800 * k + 4 * i) 4 % 131072
    let i := l / 256
    (clampI 0 65535 ((c i : Int) + fdiv (((c (i + 1) : Int) - c i) * (l % 256 : Nat) + 128) 256)).toNat

/-- Stages 4 to 6: density, loop correction and limit (R197). -/
def limitOut (lc lf lmax : Nat) (k : Int) : Nat :=
  let ld := min 65535 ((lc * lf + 0x4000) / 32768)
  let lk := if k ≤ 0 then 0 else min 65535 ((ld * k.toNat + 0x8000) / 65536)
  min lk lmax

/-- K of a beamlet at slot `x` (R197). -/
def State.loopK (s : State) (h b x : Nat) : Int :=
  if !bit (s.fld (R.BLD_H_BCFG h) F.BLD_H_BCFG_LOOP) b then 65536
  else match (s.emitter h b).ks.find? fun p => decide (p.1 ≤ x) with
    | some p => p.2.toInt
    | none => 65536

/-- Stage 1 and 2: the intent gate, level factor and attributes of a beamlet at slot `x`. -/
def Seq.intent (q : Seq) (b x : Nat) : Bool × Nat × Attr :=
  let a := q.attrAt x
  match q.dots.find? fun d => d.beamlet = b && decide (d.first ≤ x) && decide (x < d.last) with
  | some d => (true, d.lf, a)
  | none =>
    match q.spanAt x with
    | some (_, sp) => (sp.fire && decide (sp.openAt ≤ x) && decide (x < sp.closeAt) && bit a.mask b, 0x8000, a)
    | none => (false, 0x8000, a)

/-- The level that slot `x` carries, with the join ramp of R188 in place of stage 1 where it runs. -/
def Seq.stageLevel (q : Seq) (a : Attr) (x : Nat) : Nat :=
  let l := a.levelAt x
  let n := q.joinRamp % 65536
  let start := 256 * (q.joinRamp / 65536)
  let j := x + 1 - q.joinAt
  if q.joinAt ≤ x ∧ j ≤ n then
    let f := start + ((65536 - start) * (2 * j) + n) / (2 * n)
    min 65535 ((l * f + 0x8000) / 65536)
  else l

/-- Stage 8: the beamlet may fire in the slot under source sharing (R201). -/
def State.shareOpen (s : State) (h b x : Nat) : Bool :=
  let sh := s.rd (R.BLD_H_SHARE h)
  let grp (c : Nat) : Nat := fget sh F.BLD_H_SHARE_GRP / 2 ^ (2 * c) % 4
  let g := grp b
  if g = 0 then true
  else
    let n := ((List.range 8).filter fun c => grp c = g).length
    let r := ((List.range b).filter fun c => grp c = g).length
    let w := fget sh F.BLD_H_SHARE_W
    let z := w + fget sh F.BLD_H_SHARE_B
    let c := x % (max 1 (n * z))
    decide (r * z + fget sh F.BLD_H_SHARE_B ≤ c) && decide (c < (r + 1) * z)

/-! ## GSG (R198) -/

/-- What the spread stage is given for one slot. -/
structure Spread where
  probe : Bool
  gate : Bool
  gap : Bool
  lf : Nat
  ton : Nat
  toff : Nat
  seed : Nat
  deriving DecidableEq, Repr

/-- The algorithm of R198 for one slot: the new state and the count of MINCLAMP. -/
def spreadStep (e : Emitter) (i : Spread) : Emitter × Nat :=
  let r : Int × Bool × Bool × Nat :=
    if i.probe then (if i.gate then satI 24 (e.a + i.lf) else e.a, false, e.run, 0)
    else if !i.gate then (e.a, false, e.run && i.gap, b2n (e.o && decide (e.n < i.ton)))
    else
      let a := satI 24 ((if e.run then e.a else i.seed) + i.lf)
      let hold := e.o && decide (e.n < i.ton)
      let wait := !e.o && decide (e.n < i.toff)
      let o := if hold then true else if wait then false else decide (32768 ≤ a)
      (if o then satI 24 (a - 65536) else a, o, true, b2n (!hold && wait && decide (32768 ≤ a)))
  ({ e with a := r.1, o := r.2.1, run := r.2.2.1, n := if r.2.1 = e.o then min (e.n + 1) 65535 else 1 }, r.2.2.2)

/-- What a class of emitter fixes for the spread and the diagnosis (R198, R209). -/
def State.classTime (s : State) (h b : Nat) (f : Fld) : Nat := s.fld (R.BLD_CLASS_TIME (s.classOfBeamlet h b)) f

/-- The class of the sample at the boundary that follows slot `x` (R209): 1 on, 2 probe, 3 off, 0 none. -/
def sampleClass (e : Emitter) (tMeas toff x : Nat) : Nat :=
  match e.probe with
  | some (_, p1) => if p1 = x + 1 + toff then 2 else if e.o ∧ tMeas ≤ e.n then 1 else 0
  | none => if e.o ∧ tMeas ≤ e.n then 1 else if !e.o ∧ tMeas ≤ e.n then 3 else 0

/-- Stages 1 to 9 for one beamlet in slot `x`. A probe whose span would start inside a forced-on run moves to the next sample instant
(R211). -/
def State.spreadSlot (s : State) (h b x : Nat) (q : Seq) : State × Bool :=
  let e := s.emitter h b
  let ton := s.classTime h b F.BLD_CLASS_TIME_TON_MIN
  let toff := s.classTime h b F.BLD_CLASS_TIME_TOFF_MIN
  let tMeas := s.classTime h b F.BLD_CLASS_TIME_T_MEAS
  let e := match e.probe with
    | some (p0, p1) =>
      if p0 = x ∧ e.o ∧ e.n < ton then { e with probe := some (p0 + 2500, p1 + 2500) }
      else if p1 ≤ x then { e with probe := none } else e
    | none => e
  let inProbe := match e.probe with
    | some (p0, p1) => decide (p0 ≤ x) && decide (x < p1)
    | none => false
  let (g0, lf, a) := q.intent b x
  let masked := bit (s.fld (R.BLD_H_FMASK h) F.BLD_H_FMASK_BEAMLETS) b && decide (e.maskAt ≤ x / 1250)
  let g := g0 && !masked
  let open_ := s.shareOpen h b x
  let k := a.curves / 2 ^ (4 * b) % 16
  let lvl := limitOut (s.curveOut h k (q.stageLevel a x)) lf (s.fld (R.BLD_CLASS_LVL (s.classOfBeamlet h b)) F.BLD_CLASS_LVL_LMAX) (s.loopK h b x)
  let gate := g && open_
  let miss := gate && !s.present s.curveLive h k
  let (e, c) := spreadStep e ⟨inProbe, gate, g && !open_, lvl, ton, toff, s.fld (R.BLD_CLASS_LVL (s.classOfBeamlet h b)) F.BLD_CLASS_LVL_SEED⟩
  let e := if (x + 1) % 2500 = 0 then
      { e with samples := (((x + 1) / 1250, sampleClass e tMeas toff x) :: e.samples).take 4 } else e
  let s := s.setEmitter h b e
  let s := if c = 0 then s else s.inc (R.BLD_H_MINCLAMP h) c
  let sl := s.slice h
  let s := if miss ∧ sl.missTick ≠ x / 1250 + 1 then
      (s.setSlice h { sl with missTick := x / 1250 + 1 }).inc (R.BLD_H_CURVEMISS h) 1 else s
  (s, e.o)

/-- The slots [x, x + n) of head `h`: the positions 8 × (slot − x0) + beamlet whose bit is 1. -/
def State.spreadSlots (h x0 : Nat) (q : Seq) : Nat → Nat → State × List Nat → State × List Nat
  | 0, _, acc => acc
  | n + 1, x, acc =>
    State.spreadSlots h x0 q n (x + 1) ((List.range 8).foldl (fun acc b =>
      let (s, o) := acc.1.spreadSlot h b x q
      (s, if o ∧ x0 ≤ x then acc.2 ++ [8 * (x - x0) + b] else acc.2)) acc)

/-! ## Frames down (R226 to R231, R308) -/

/-- Tb = 320 ÷ 17 ps, in units of 2⁻¹⁶ ps, times n. -/
def bitTimes (n : Nat) : Int := rdiv (n * 320 * 65536 : Nat) 17

/-- PERMIT of a frame that is assembled now (R229). -/
def State.permit (s : State) (n : Nat) : Bool := s.inService n && fget s.ilkStat F.GLB_ILK_STAT_GATE = 0

/-- A late frame or block (R231). -/
def State.lateFrame (s : State) (n : Nat) : State :=
  ((s.inc (R.LN_LATEFRM n) 1).setFld (R.LN_STAT n) F.LN_STAT_LATEFRM 1).report 0x28 (0x300 + n) n 0 0

/-- The reset and pulse fields of the array frame of tick `k` of port `p` (Tables 10-6 and 10-7): RST, RSLOT, FRAME, RSEQ, then class,
FIRST and LAST of each span. Pulses are judged as the fields are computed (R298). -/
def State.arrayFields (s : State) (p k : Nat) : List Nat :=
  let m := s.map p
  let x0 := 1250 * k
  let due := match m.target with
    | some (f, j) => if x0 ≤ f.rk j ∧ f.rk j < x0 + 1250 ∧ f.set.nl ≤ m.lines ∧ !m.skip then some (f, j) else none
    | none => none
  let fresh := match due with
    | some (f, j) =>
      if f.dark then []
      else (f.pulsesOf j (f.rk j) (fun c => s.fld (R.MAP_SAF_BASE c) F.MAP_SAF_BASE_BASE)
        (fun c => s.fld (R.MAP_SAF_PDLY c) F.MAP_SAF_PDLY_PDLY) (fun c => s.classOf p c)).map fun d => (d.1, d.2.1, d.2.1 + d.2.2.1)
    | none => []
  let spans := (m.pulses ++ fresh).filter fun d => decide (d.2.1 < x0 + 1250) && decide (x0 < d.2.2) && decide (d.2.1 < d.2.2)
  let lit := if s.pulsesPermitted && !s.forceZero then spans else []
  (match due with
    | some (f, j) => [1, f.rk j - x0, f.num, j]
    | none => [0, 0, 0, 0]) ++ lit.flatMap fun d => [d.1, max d.2.1 x0 - x0, min d.2.2 (x0 + 1250) - x0 - 1]

/-- The probe requests of H1 for tick `k`: beamlet, FIRST and LAST of each (Table 8-5, R211). -/
def State.probeFields (s : State) (h k : Nat) : List Nat :=
  (List.range 8).flatMap fun b =>
    match (s.emitter h b).probe with
    | none => []
    | some (_, p1) =>
      let e := p1 - s.classTime h b F.BLD_CLASS_TIME_TOFF_MIN
      let f := e - s.classTime h b F.BLD_CLASS_TIME_T_MEAS
      if f < 1250 * (k + 1) ∧ 1250 * k < e then [b, max f (1250 * k) - 1250 * k, min e (1250 * (k + 1)) - 1 - 1250 * k] else []

/-- TICK_FRAME_LAUNCH (R226 to R231): the frame of the tick that follows leaves lane `n` with its LEAD; `late` tells that its header missed
its time. Array lanes send their frame likewise (R308; log entry 17). -/
def execTickFrameLaunch (n lead : Nat) (late : Bool) (ns : Nat) (s : State) : Res State :=
  let s := s.arrive ns
  let k := s.tick + 1
  let l := s.lane n
  if 32 ≤ n ∨ s.role n = 2 ∨ !framing (s.laneState n) ∨ k < l.launched then done s
  else if late then done ((s.setLane n { l with launched := k + 1, permit := false, zeroed := true }).lateFrame n)
  else
    let tAct : Int := (k * 500000 : Nat) * 65536 - (s.rd (R.LN_DLY_DN n)).toInt * 65536 - (s.decLat n : Int) * 65536 - bitTimes lead
    let permit := s.permit n
    let s := s.setLane n { l with launched := k + 1, permit := permit, zeroed := false, sent := ((k, tAct) :: l.sent).take 8 }
    if s.role n = 0 then
      let s := if (s.aimOf n k).isNone then s.aim n k ((s.seq (s.seqOf n)).pointAt k) else s
      let c := ((s.aimOf n k).map (·.c)).getD ⟨0, 0, 0⟩
      done (s.emit (.frame n k ([lead % 1024, b2n permit, k % 2 ^ 32, wrap 32 c.x, wrap 32 c.y, wrap 32 c.z] ++ s.probeFields n k)))
    else done (s.emit (.frame n k ([lead % 1024, b2n permit, k % 2 ^ 32] ++ s.arrayFields ((n - 24) / 4) k)))

/-! ## GSG copies (R200, R427) -/

def gsgKey (h c : Nat) : Nat := 3 * h + c

/-- A copy disagreed with the vote in a slot of tick `k` (R200, R427). -/
def State.gsgDisagree (s : State) (h c k : Nat) : State :=
  let key := gsgKey h c
  let f := s.flt
  let last := sget (fun _ => 0) key f.gsgTick
  let run := sget (fun _ => 0) key f.gsgRun
  let run := if last = k + 1 then run else if last = k then run + 1 else 1
  let s := { s with flt := { f with gsgTick := sput (fun _ => 0) key (k + 1) f.gsgTick, gsgRun := sput (fun _ => 0) key run f.gsgRun } }
  let s := s.setFld (R.FLT_GSG h) F.FLT_GSG_LASTDIS (2 ^ c)
  s.report 0x18 (0x200 + h) (h + 256 * 2 ^ c) 0 0

/-- GATE_BLOCK_LAUNCH (R226, R231, R427): block `j` of the frame last launched on head lane `n`; `late` tells that it missed its time.
`bad` lists the copies (0 to 2) that disagreed with the vote, with the slot of the block; `tie` the positions 8i + b at which the two
copies left of a head with a retired copy differed. -/
def execGateBlockLaunch (n j : Nat) (late : Bool) (bad : List (Nat × Nat)) (tie : List Nat) (ns : Nat) (s : State) : Res State :=
  let s := s.arrive ns
  let l := s.lane n
  let k := l.launched - 1
  let x0 := 1250 * k + 32 * j
  let sl := s.slice n
  if 24 ≤ n ∨ 40 ≤ j ∨ s.role n ≠ 0 ∨ !framing (s.laneState n) ∨ l.launched = 0 ∨ x0 < sl.doneTo then done s
  else
    let stop := min (x0 + 32) (1250 * (k + 1))
    let from_ := max sl.doneTo (1250 * (k - 1))
    let (s, bits) := State.spreadSlots n x0 (s.seq (s.seqOf n)) (stop - from_) from_ (s, [])
    let s := s.setSlice n { s.slice n with doneTo := stop }
    let retired := s.fld (R.FLT_GSG n) F.FLT_GSG_RETIRED
    let tie := if retired = 0 then [] else tie
    let beamlets := (s.rd (R.LN_CAP n 2)).toNat / 256 % 16
    let dark := late || s.forceZero || l.zeroed
    let sent := if dark then [] else bits.filter fun x => decide (x % 8 < beamlets) && !tie.contains x
    let s := if l.zeroed then s else s.emit (.gates n k j sent)
    let s := if late && !l.zeroed then s.lateFrame n else s
    let s := bad.foldl (fun s c => if c.1 < 3 ∧ !bit retired c.1 then s.gsgDisagree n c.1 k else s) s
    if tie.isEmpty then done s
    else done ((s.report 0x1A (0x200 + n) (n + 256 * (7 - retired)) 0 (k % 2 ^ 32)).removeHead n 2)

/-- GSG_COPY_RETIRE (R427): copy `c` of GSG `h` has disagreed in RETIRE + 1 consecutive ticks. -/
def execGsgCopyRetire (h c : Nat) (s : State) : Res State :=
  let r := s.fld (R.FLT_GSG h) F.FLT_GSG_RETIRED
  if 24 ≤ h ∨ 3 ≤ c ∨ bit r c ∨ sget (fun _ => 0) (gsgKey h c) s.flt.gsgRun < s.fld R.FLT_CFG F.FLT_CFG_RETIRE + 1 then done s
  else
    let s := { s with flt := { s.flt with gsgRun := sput (fun _ => 0) (gsgKey h c) 0 s.flt.gsgRun } }
    done ((s.setFld (R.FLT_GSG h) F.FLT_GSG_RETIRED (setBit r c true)).report 0x19 (0x200 + h) (h + 256 * 2 ^ c) 0 0)

/-! ## Emitter diagnosis (R209 to R212) -/

/-- Diagnosis runs for a beamlet (R209). -/
def State.diagOn (s : State) (h b : Nat) : Bool :=
  s.fld (R.BLD_CLASS_DIAG2 (s.classOfBeamlet h b)) F.BLD_CLASS_DIAG2_DIAG_EN = 1 &&
    (s.mode = .armed || s.mode = .expose || s.mode = .hold || s.mode = .degraded ||
      (s.mode = .service && s.fld R.GLB_SVC_CTRL F.GLB_SVC_CTRL_EMIT_PERMIT = 1))

def State.diagCode (s : State) (h b : Nat) : Nat := (s.rd (R.BLD_H_DIAG h)).toNat / 2 ^ (4 * b) % 16
def State.setDiagCode (s : State) (h b v : Nat) : State := s.setFld (R.BLD_H_DIAG h) ⟨4 * b, 4⟩ v

/-- A fault of `kind` (coded as BLD_Hh_DIAG) is declared with its action (R210). -/
def State.emitterFault (s : State) (h b kind act i v ts : Nat) : State :=
  let s := (s.setDiagCode h b kind).inc (R.BLD_H_DIAGFAIL h) 1
  let s := s.cairn 4 1 true (leBytes h 1 ++ leBytes b 1 ++ leBytes kind 1 ++ leBytes i 2 ++ leBytes v 2 ++ leBytes ts 12)
  if act = 1 then
    (s.setFld (R.BLD_H_FMASK h) F.BLD_H_FMASK_BEAMLETS (setBit (s.fld (R.BLD_H_FMASK h) F.BLD_H_FMASK_BEAMLETS) b true)).setEmitter h b
      { s.emitter h b with maskAt := max (s.tick + 2) (s.seq (s.seqOf h)).nextTick, probe := none }
  else if act = 2 then s.removeHead h 3
  else if act = 3 then s.report 0x48 0xFFFF (h + 256 * b) 0 0
  else s

/-- One check of Table 7-5: the new count of failures, and whether the fault is declared now. -/
def debounce (count deb : Nat) (fails : Bool) : Nat × Bool :=
  if fails then (min 17 (count + 1), decide (count = deb)) else (0, false)

/-- The sample of a beamlet at tick `k` is judged (R209, R210). -/
def State.judgeSample (s : State) (h b k cls i v : Nat) : State :=
  let e := s.emitter h b
  let c := s.classOfBeamlet h b
  let d0 := s.rd (R.BLD_CLASS_DIAG0 c)
  let d1 := s.rd (R.BLD_CLASS_DIAG1 c)
  let d2 := s.rd (R.BLD_CLASS_DIAG2 c)
  let deb := fget d2 F.BLD_CLASS_DIAG2_DEB
  let ts := ts96 (k * 500)
  if cls = 3 then
    let (n, f) := debounce e.failStuck deb (decide (fget d0 F.BLD_CLASS_DIAG0_I_OFF_MAX < i))
    let s := s.setEmitter h b { e with failStuck := n, bare := e.bare + 1 }
    if f then s.emitterFault h b 4 (fget d2 F.BLD_CLASS_DIAG2_ACT_STUCK) i v ts else s
  else if cls = 1 ∨ cls = 2 then
    let iMin := if cls = 1 then fget d0 F.BLD_CLASS_DIAG0_I_ON_MIN else fget d1 F.BLD_CLASS_DIAG1_I_PRB_MIN
    let vMin := if cls = 1 then fget d1 F.BLD_CLASS_DIAG1_V_SHORT_ON else fget d2 F.BLD_CLASS_DIAG2_V_SHORT_PRB
    let badI := decide (i < iMin)
    let badV := decide (v < vMin)
    let pass := !badI && !badV
    let (no, fo) := if pass then (0, false) else if badI then debounce e.failOpen deb true else (e.failOpen, false)
    let (ns, fs) := if pass then (0, false) else if badV then debounce e.failShort deb true else (e.failShort, false)
    let s := s.setEmitter h b { e with failOpen := no, failShort := ns, bare := 0, lastValid := k, unverified := false }
    let s := if pass ∧ s.diagCode h b = 1 then s.setDiagCode h b 0 else s
    let s := if fo then s.emitterFault h b 2 (fget d2 F.BLD_CLASS_DIAG2_ACT_OPEN) i v ts else s
    if fs then s.emitterFault h b 3 (fget d2 F.BLD_CLASS_DIAG2_ACT_SHORT) i v ts else s
  else s.setEmitter h b { e with bare := e.bare + 1 }

/-- The samples of head `h` at tick `k`; `iv` holds I and V of each beamlet, empty where none came (R209). -/
def State.diagnose (s : State) (h k : Nat) (iv : List (Nat × Nat)) : State :=
  (List.range 8).foldl (fun s b =>
    if !s.diagOn h b then s
    else
      let win := s.classTime h b F.BLD_CLASS_TIME_T_MEAS
      let ok := (List.range (cdiv win 1250)).all fun j => (s.lane h).applied.contains (k - 1 - j)
      let cls := match (s.emitter h b).samples.find? fun p => p.1 = k with
        | some p => p.2
        | none => 0
      match iv[b]? with
      | some (i, v) => s.judgeSample h b k (if ok then cls else 0) (i % 65536) (v % 65536)
      | none => s.judgeSample h b k 0 0 0) s

/-- PROBE_PLACE (R211): a probe at the next sample instant whose span is still to be produced and whose frames have not left. -/
def execProbePlace (h b : Nat) (s : State) : Res State :=
  let e := s.emitter h b
  let after := s.fld (R.BLD_CLASS_NDIAG (s.classOfBeamlet h b)) F.BLD_CLASS_NDIAG_PRB_AFTER
  let masked := bit (s.fld (R.BLD_H_FMASK h) F.BLD_H_FMASK_BEAMLETS) b
  if 24 ≤ h ∨ 8 ≤ b ∨ after = 0 ∨ e.bare < after ∨ e.probe.isSome ∨ masked ∨ s.fld (R.BLD_H_BCFG h) F.BLD_H_BCFG_PROBE_CAP = 0 ∨
      s.forceZero ∨ !s.emitMode ∨ !s.diagOn h b then done s
  else
    let toff := s.classTime h b F.BLD_CLASS_TIME_TOFF_MIN
    let len := s.classTime h b F.BLD_CLASS_TIME_T_MEAS + toff
    let first := max (s.slice h).doneTo (1250 * (s.lane h).launched)
    let t := cdiv (first + len) 2500 * 2500
    done ((s.setEmitter h b { e with probe := some (t - len, t + toff), bare := 0 }).inc (R.BLD_H_PROBES h) 1)

/-- DIAG_UNVERIFIED (R212): NDIAG × 1000 ticks without a valid on-sample or probe sample. -/
def execDiagUnverified (h b : Nat) (s : State) : Res State :=
  let e := s.emitter h b
  let c := s.classOfBeamlet h b
  let nd := s.fld (R.BLD_CLASS_NDIAG c) F.BLD_CLASS_NDIAG_NDIAG
  if 24 ≤ h ∨ 8 ≤ b ∨ nd = 0 ∨ e.unverified ∨ !s.diagOn h b ∨ s.tick < max e.lastValid s.bld.diagSince + nd * 1000 then done s
  else
    let s := s.setEmitter h b { e with unverified := true }
    done (s.emitterFault h b (max 1 (s.diagCode h b)) (s.fld (R.BLD_CLASS_DIAG2 c) F.BLD_CLASS_DIAG2_ACT_UNV) 0 0 s.nowTs)

/-- A write of BLD_Hh_UNMASK: the fault mask bits and the codes of the beamlets clear (R210). -/
def State.unmaskWrite (s : State) (h : Nat) (v : Word) : State :=
  let m := v.toNat % 256
  let f := s.fld (R.BLD_H_FMASK h) F.BLD_H_FMASK_BEAMLETS
  let s := s.setFld (R.BLD_H_FMASK h) F.BLD_H_FMASK_BEAMLETS (f - (f &&& m))
  (List.range 8).foldl (fun s b => if bit m b then s.setDiagCode h b 0 else s) s

/-- BEAMLET_UNMASK (R210): a write of BLD_Hh_UNMASK. -/
def execBeamletUnmask (h : Nat) (v : Word) (s : State) : Res State :=
  hostOp s fun s => if 24 ≤ h then s else s.unmaskWrite h v

/-! ## Frames up (R235 to R238, R311) -/

/-- One measurement of the loop delay (R236, R238), in units of 2⁻¹⁶ ps. -/
def State.measure (s : State) (n : Nat) (m : Int) : State :=
  let l := s.lane n
  if s.laneState n = Ln.delay then
    if 4096 ≤ l.meas then s else s.setLane n { l with meas := l.meas + 1, sum := l.sum + m }
  else
    let far := decide (65536000 < (m - l.loop).natAbs)
    let l := { l with far := if far then min 64 (l.far + 1) else 0, farSum := if far then (if l.far = 64 then l.farSum else l.farSum + m) else 0,
                      loop := l.loop + rdiv (m - l.loop) 256 }
    (s.setLane n l).setDelays n

/-- What a valid upstream frame of tick `k` does on every lane (R235, R236): confirmation, MISS, loop measurement. -/
def State.upFrame (s : State) (n k miss turn : Nat) (app : Bool) (t4 : Int) : State :=
  let l := s.lane n
  let d := (miss % 65536 + 65536 - l.miss) % 65536
  let s := if d = 0 then s else s.inc (R.LN_HEAD_MISS n) d
  let s := s.setLane n { l with upTick := k + 1, missRun := 0, miss := miss % 65536, conf := if app then max l.conf (k + 1) else l.conf,
                                applied := if app then (k :: l.applied).take 8 else l.applied }
  match l.sent.find? fun p => p.1 = k with
  | some (_, t1) => if turn = 0xFFFFFF then s else s.measure n (t4 - t1 - (turn : Int) * 65536)
  | none => s

/-- UPSTREAM_FRAME_RECEIVE (R235): an upstream frame of head lane `n`. `ok` tells that both blocks were correctable and in order and the
CRC matched; `t4` is the arrival of its first bit, in 2⁻¹⁶ ps of device time; `iv` holds I and V of each beamlet where IVV = 1. -/
def execUpstreamFrameReceive (n : Nat) (ok : Bool) (k : Nat) (app fault frmErr : Bool) (miss turn : Nat) (ex ey ez : Int) (iv : List (Nat × Nat))
    (t4 : Int) (ns : Nat) (s : State) : Res State :=
  let s := s.arrive ns
  let l := s.lane n
  if 32 ≤ n ∨ s.role n ≠ 0 ∨ !framing (s.laneState n) ∨ !ok ∨ k < l.judged ∨ s.tick + 1 < k then done s
  else
    let s := s.upFrame n k miss turn app t4
    let s := if frmErr then s.inc (R.LN_FRMERR n) 1 else s
    let s := s.setLane n { s.lane n with enc := some (k, ⟨satI 32 ex, satI 32 ey, satI 32 ez⟩) }
    let s := if k % 2 = 0 ∧ n < 24 then ((List.range 8).foldl (fun s b => match iv[b]? with
        | some p => s.setEmitter n b { s.emitter n b with idrv := p.1 % 65536 }
        | none => s) s).diagnose n k iv else s
    done (if fault then (s.setFld (R.LN_STAT n) F.LN_STAT_HEAD_FAULT 1).removeHead n 2 else s)

/-- UPSTREAM_FRAME_DEADLINE (R235): the latest tick whose deadline has come on lane `n` is judged. -/
def execUpstreamFrameDeadline (n ns : Nat) (s : State) : Res State :=
  let s := s.arrive ns
  let l := s.lane n
  let t : Int := (s.now * 1000 : Nat) - 330000 - (s.rd (R.LN_DLY_UP n)).toInt
  let k := (t / 500000).toNat
  if 32 ≤ n ∨ s.role n = 2 ∨ !framing (s.laneState n) ∨ t < 0 ∨ k < l.judged then done s
  else if l.upTick = k + 1 then done (s.setLane n { l with judged := k + 1 })
  else
    let s := (s.setLane n { l with judged := k + 1, missRun := l.missRun + 1 }).inc (R.LN_UP_MISS n) 1
    let s := if n < 24 ∧ k % 2 = 0 then s.diagnose n k [] else s
    if 24 ≤ n ∧ (n - 24) % 4 = 0 then
      done ((s.mapPorts ((n - 24) / 4)).foldl (fun s q =>
        s.setMap q { s.map q with cur := (s.map q).cur.map fun f => { f with eOk := false } }) s)
    else done s

/-- ARRAY_STATUS_RECEIVE (R311): AS0 and AS1 of an array lane; `e` holds the energies E_0 to E_3. In tiled mode the energies of both master
lanes make up the frame's (log entry 32). -/
def execArrayStatusReceive (n : Nat) (ok : Bool) (k : Nat) (app fault rack : Bool) (rseq rowErr miss turn : Nat) (e : List Nat) (t4 : Int)
    (ns : Nat) (s : State) : Res State :=
  let s := s.arrive ns
  let l := s.lane n
  if n < 24 ∨ 32 ≤ n ∨ s.role n ≠ 1 ∨ !framing (s.laneState n) ∨ !ok ∨ k < l.judged ∨ s.tick + 1 < k then done s
  else
    let p := (n - 24) / 4
    let s := s.upFrame n k miss turn app t4
    let old := sget (fun _ => 0) n s.lnk.rowErr
    let d := (rowErr % 2 ^ 32 + 2 ^ 32 - old) % 2 ^ 32
    let s := { s with lnk := { s.lnk with rowErr := sput (fun _ => 0) n (rowErr % 2 ^ 32) s.lnk.rowErr } }
    let s := if d = 0 then s else (s.inc (R.MAP_LINEERR p) d).setFld (R.MAP_STAT p) F.MAP_STAT_LINEERR 1
    let s := { s with lnk := { s.lnk with rack := sput (fun _ => 0) n (if rack then rseq % 16 + 1 else 0) s.lnk.rack } }
    let s := if (n - 24) % 4 = 0 then
        (s.mapPorts p).foldl (fun s q => s.setMap q { s.map q with cur := (s.map q).cur.map fun f =>
          { f with e := (List.range 4).map fun c => min 0xFFFFFFFF (f.e.getD c 0 + e.getD c 0 % 2 ^ 32) } }) s else s
    done (if fault then s.mapLaneStop p 3 else s)

/-! ## Column areas (R204 to R206) -/

/-- A COL that starved for the area reads the copy that has become active (R151, R205). -/
def State.unstarve (s : State) (a : Nat) : State :=
  (List.range 26).foldl (fun s n =>
    let q := s.seq n
    if q.running ∧ q.act = .column ∧ q.colRun.starved ∧ q.colRun.area = a then
      s.setSeq n { q with colRun := { q.colRun with starved := false, copy := s.caActive a } }
    else s) s

/-- A swap trigger reaches area `a` (R205). -/
def State.caSwap (s : State) (a : Nat) : State :=
  let c := s.caActive a
  if !s.caReady a (1 - c) then (s.inc (R.BLD_CA_SWAPMISS a) 1).setFld (R.BLD_CA_STAT a) F.BLD_CA_STAT_MISS 1
  else
    let s := (s.setFld (R.BLD_CA_STAT a) F.BLD_CA_STAT_ACTIVE (1 - c)).setFld (R.BLD_CA_STAT a) (caReadyFld c) 0
    (s.inc (R.BLD_CA_SWAPCNT a) 1).unstarve a

/-- A write of READY: the inactive copy becomes ready, unless it is locked (R205, R206). -/
def State.caSetReady (s : State) (a : Nat) : State :=
  if s.caLocked a then s else s.setFld (R.BLD_CA_STAT a) (caReadyFld (1 - s.caActive a)) 1

/-- A write of BLD_CAa_CTL: READY acts before SWAP (R205). -/
def State.caCtlWrite (s : State) (a : Nat) (v : Word) : State :=
  let s := if fget v F.BLD_CA_CTL_READY = 1 then s.caSetReady a else s
  if fget v F.BLD_CA_CTL_SWAP = 1 then s.caSwap a else s

/-- COLUMN_READY_WRITE: a write of BLD_CAa_CTL with READY = 1 (R205). -/
def execColumnReadyWrite (a : Nat) (v : Word) (s : State) : Res State :=
  if s.mode = .boot ∨ 8 ≤ a ∨ fget v F.BLD_CA_CTL_READY = 0 then done s else done (s.caCtlWrite a v)

/-- COLUMN_SWAP_WRITE: a write of BLD_CAa_CTL with SWAP = 1 (R205). -/
def execColumnSwapWrite (a : Nat) (v : Word) (s : State) : Res State :=
  if s.mode = .boot ∨ 8 ≤ a ∨ fget v F.BLD_CA_CTL_SWAP = 0 then done s else done (s.caCtlWrite a v)

end Sys2Proof.Machine
end

