-- ==== Sys2Proof/Machine/Sequencer.lean ====
section
/-! DEFINITION. The beam sequencers at work (chapters 04 and 05): issue and word budget (R97), program exceptions (R123, R157 to R159),
columns (R114, R143 to R145, R202 to R208), waits and tile edges (R115 to R120, R146 to R150), starvation and the PATH
Switchback (R151 to R156), and the completion of a tick intent (R18, R126, R424). -/

namespace Sys2Proof.Machine

/-- What the plan of a sequencer is made with: the program windows, the curves of its head, the tile's bounds, the head's jump profile. -/
def State.env (s : State) (q : Seq) : Env :=
  { mem := s.mem.sram, has := fun k => s.present s.curveLive q.head k, bounds := (s.tileD q.arch.tile).b,
    prof := (decide (s.fld (R.BSQ_H_JPROF q.head) F.BSQ_H_JPROF_EN = 1), s.fld (R.BSQ_H_JPROF q.head) F.BSQ_H_JPROF_ACC) }

/-- The program goes on in the present mode: tiles in EXPOSE and DEGRADED with no PAUSE in progress, calibration tiles in SERVICE (Table 2-3,
R49, R166). -/
def State.mayRun (s : State) (q : Seq) : Bool :=
  q.running && ((s.runMode && s.fld R.GLB_MODE F.GLB_MODE_PENDING = 0) || (s.mode = .service && (s.tileD q.arch.tile).cal))

/-- Words issued in the present tick (R97). -/
def Seq.used (q : Seq) : Nat := if q.wordTick = q.issueTick then q.words else 0

def Seq.spend (q : Seq) (n : Nat) : Seq := { q with words := q.used + n, wordTick := q.issueTick }

/-- The Stop or Wait phase of a Switchback: the program may go on to the next timed instruction. -/
def Seq.inSwitch (q : Seq) : Bool := q.act = .swbStop || q.act = .swbWait

/-- The plan made so far ends in the tick under way, so the next instruction is due (R124). -/
def Seq.planDone (q : Seq) : Bool := decide (q.cursor / 1250 ≤ q.nextTick)

/-- What sequencer `n` may issue now: the instruction at PC, or the fault of its word; none where it may not issue, or where the word
budget of the tick is used up. -/
def State.nextIw (s : State) (n : Nat) : Option (Except Nat Iw) :=
  let q := s.seq n
  if !s.mayRun q ∨ !((q.act = .ready && q.planDone) || q.inSwitch) then none
  else match beamFetch s.mem.sram q.arch.pc with
    | .error c => if 32 ≤ q.used then none else some (.error c)
    | .ok i => if 32 < q.used + i.len then none else some (.ok i)

/-! ## Program exceptions (R123, R157 to R159) -/

/-- Sequencer `n` raises program fault `code`: BSQn_FAULT, the end of its tile, and the action of BSQ_EXC_CFG. The instruction has no
effect; the run ends at the last slot produced. -/
def State.progFault (s : State) (n code : Nat) : State :=
  let q := s.seq n
  let op := if q.arch.pc < progEnd then bits (progWord s.mem.sram q.arch.pc) 7 0 else 0
  let s := if s.fld (R.BSQ_FAULT n) F.BSQ_FAULT_FAULTED = 1 then s
    else (s.wr (R.BSQ_FAULT n) (BitVec.ofNat 32 (code + 2 ^ 8 * op + 2 ^ 31))).wr (R.BSQ_FAULT_PC n) (BitVec.ofNat 32 (q.arch.pc % 2 ^ 22))
  let s := s.setFld (R.BSQ_SWB n) F.BSQ_SWB_PHASE 0
  let s := s.closeTile q.head (if code = Pf.halted then Ts.halted else Ts.faulted)
  let act := s.fld R.BSQ_EXC_CFG F.BSQ_EXC_CFG_ACTION
  if code = Pf.halted ∨ act = 0 then s
  else if act = 1 then s.selfPause
  else s.report 0x12 (0x100 + n) 0 0 0

/-- The result of an issue: the sequencer, or the fault. -/
def State.issued (s : State) (n : Nat) (r : Except Nat Seq) : State :=
  match r with
  | .ok q => s.setSeq n q
  | .error c => s.progFault n c

/-- The result of a motion: the sequencer and the count of clamped delays. -/
def State.planned (s : State) (n : Nat) (r : Except Nat (Seq × Nat)) : State :=
  match r with
  | .ok (q, c) => let s := s.setSeq n q; if c = 0 then s else s.inc (R.BSQ_DLYCLAMP n) c
  | .error c => s.progFault n c

/-- What every instruction that is no firing motion does to a mark run: it ends (R132). -/
def Seq.leaveRun (q : Seq) : Seq := { q with inRun := false, tdx := 0, tdy := 0, tv := 0 }

/-! ## Columns -/

/-- The density code of beamlet `b` in column `idx` of copy `c` of area `a` (R202, R203). -/
def State.colCode (s : State) (a c idx b : Nat) : Nat :=
  let cfg := s.rd (R.BLD_CA_CFG a)
  let base := 0x2C00000 + 0x200000 * c + 4096 * fget cfg F.BLD_CA_CFG_BASE
  if fget cfg F.BLD_CA_CFG_FMT = 0 then (if bit (s.sramNat (base + idx) 1) b then 15 else 0)
  else s.sramNat (base + 4 * idx) 4 / 2 ^ (4 * b) % 16

/-- Columns that area `a` holds. -/
def State.colCap (s : State) (a : Nat) : Nat :=
  let cfg := s.rd (R.BLD_CA_CFG a)
  fget cfg F.BLD_CA_CFG_SIZE * 4096 / (1 + 3 * fget cfg F.BLD_CA_CFG_FMT)

/-- The density table of beamlet `b` of head `h`. -/
def State.dtabOf (s : State) (h b : Nat) : Nat := (s.rd (R.BLD_H_DTAB h)).toNat / 2 ^ (4 * b) % 16

/-- The beamlets that a column fires, with their codes. -/
def State.colFires (s : State) (q : Seq) (idx : Nat) : List (Nat × Nat) :=
  ((List.range 8).map fun b => (b, s.colCode q.colRun.area q.colRun.copy idx b)).filter fun p => p.2 ≠ 0 && bit q.arch.mask p.1

/-- The dots of a column at slot `x`, and the count of those capped (R203). -/
def State.colDots (s : State) (q : Seq) (x idx : Nat) : List Dot × Nat :=
  let c := q.colRun
  let dots := (s.colFires q idx).map fun p =>
    let e := s.sramNat (s.curveLive + 0xC1000 + 64 * s.dtabOf q.head p.1 + 4 * p.2) 4
    let len := min 65535 ((c.dot * (e / 65536) + 0x4000) / 32768)
    let cap := c.period - s.classTime q.head p.1 F.BLD_CLASS_TIME_TOFF_MIN
    let len' := if c.axisMode then len else min len cap
    ((⟨p.1, x, x + len', e % 65536⟩ : Dot), b2n (len' ≠ len))
  (dots.map (·.1), dots.foldl (fun n d => n + d.2) 0)

/-- The largest TOFF_MIN of the beamlets in MASK. -/
def State.maxToff (s : State) (q : Seq) : Nat :=
  (List.range 8).foldl (fun m b => if bit q.arch.mask b then max m (s.classTime q.head b F.BLD_CLASS_TIME_TOFF_MIN) else m) 0

/-! ### Usage counters (R445, R447) -/

def State.ucBal (s : State) (t : Nat) : Nat := (s.rd (R.LCS_UC_BAL_LO t)).toNat + (s.rd (R.LCS_UC_BAL_HI t)).toNat * 2 ^ 32

def State.setUcBal (s : State) (t v : Nat) : State :=
  (s.wr (R.LCS_UC_BAL_LO t) (BitVec.ofNat 32 v)).wr (R.LCS_UC_BAL_HI t) (BitVec.ofNat 32 (v / 2 ^ 32 % 65536))

/-- Flash writes are permitted (R396). -/
def State.flashOpen (s : State) : Bool := s.fld R.THM_STAT F.THM_STAT_FLWIN = 1

/-- What counter `t` can give: its balance, or what is left of its reservation where the next record may not be written. -/
def State.ucAvail (s : State) (t : Nat) : Nat :=
  if s.flashOpen then s.ucBal t else min (s.ucBal t) (sget (fun _ => 0) t s.lcs.reserved)

/-- `d` dots are drawn from counter `t`; reservations of 4096 units are recorded as they are needed. -/
def State.ucDraw (s : State) (t d : Nat) : State :=
  let bal := s.ucBal t
  let r := sget (fun _ => 0) t s.lcs.reserved
  let r' := if d ≤ r then r else min bal (r + 4096 * cdiv (d - r) 4096)
  let l := s.lcs
  let l := { l with reserved := sput (fun _ => 0) t (r' - d) l.reserved,
                    flashBal := if r' = r then l.flashBal else sput (fun _ => 0) t (bal - r') l.flashBal }
  { s.setUcBal t (bal - d) with lcs := l }

/-- The dots of a column draw at once; true where a bound counter does not hold enough, and then nothing is drawn (R445). -/
def State.draws (s : State) (q : Seq) (idx : Nat) : Bool × State :=
  let tabs := (s.colFires q idx).map fun p => s.dtabOf q.head p.1
  let need (t : Nat) : Nat := (tabs.filter fun u => u = t).length
  let bound := (List.range 16).filter fun t => decide (0 < need t) && s.fld (R.LCS_UC_STAT t) F.LCS_UC_STAT_BOUND = 1
  let short := bound.filter fun t => decide (s.ucAvail t < need t)
  if short.isEmpty then (false, bound.foldl (fun s t => s.ucDraw t (need t)) s)
  else (true, short.foldl (fun s t => (s.setFld (R.LCS_UC_STAT t) F.LCS_UC_STAT_EMPTY 1).cairn 13 6 true (leBytes t 1)) s)

/-! ### Firing -/

/-- The web Switchback that sequencer `n` waits for has not come to its restart (R154, R334). -/
def State.inWeb (s : State) (n : Nat) : Bool :=
  (List.range 4).any fun m => s.fld (R.AXF_MD_STAT m) F.AXF_MD_STAT_ACTIVE = 1 && s.fld (R.AXF_MD_STAT m) F.AXF_MD_STAT_PHASE ≠ 4 &&
    (s.md m).waiting.contains n

/-- The slot at which the next column is predicted to fall (R143, R144); none while the axis gives none. -/
def State.colSlot (s : State) (q : Seq) : Option Nat :=
  let c := q.colRun
  if !c.axisMode then some (c.s0 + c.next * c.period)
  else if !c.started then none
  else if c.next = 0 ∧ c.s0 ≠ 0 then some c.s0
  else
    let d : Int := (c.next * c.period * 65536 : Nat)
    s.axisSlot c.axis c.dirUp (if c.dirUp then c.a0 + d else c.a0 - d)

/-- An axis-mode COL that waits for the axis to move starts with the motion (R144). -/
def State.colWake (s : State) (n : Nat) : State :=
  let q := s.seq n
  let c := q.colRun
  let a := s.axis c.axis
  if q.act ≠ .column ∨ !c.axisMode ∨ c.started ∨ c.starved ∨ a.pubV = 0 then s
  else
    let x := max q.cursor (cdiv (a.pubT * 5) 2)
    s.setSeq n { q with colRun := { c with started := true, s0 := x, dirUp := decide (0 < a.pubV), a0 := rdiv (s.axisAt c.axis x) 5000 } }

/-- The COL has ended: the next instruction is due at slot `e` (R143, R145). -/
def State.colDone (s : State) (n e : Nat) : State :=
  let q := s.seq n
  let s := s.colEnds q.colRun
  s.setSeq n { (q.holdFor (e - q.cursor) .column false).pcAdd 2 with act := .ready, colRun := ColRun.none }

/-- Column `next` fires at slot `x`. -/
def State.colFire (s : State) (n x : Nat) : State :=
  let q := s.seq n
  let c := q.colRun
  let idx := if c.down then c.col0 - c.next else c.col0 + c.next
  let (short, s) := s.draws q idx
  if short then s.abandonAt q.head x
  else
    let (dots, capped) := s.colDots q x idx
    let s := if capped = 0 then s else s.inc (R.BLD_H_MINCLAMP q.head) capped
    let last := dots.foldl (fun m d => max m d.last) x
    let s := match q.job with
      | some r => if c.next = 0 ∧ s.prodState r = 2 then s.sramPut (prodAddr r + 40) (leBytes q.head 1) else s
      | none => s
    let c : ColRun := { c with next := c.next + 1, starts := x :: c.starts.filter (fun y => decide (1250 * (q.nextTick - 64) ≤ y)), busyTo := last + s.maxToff q }
    let s := s.setSeq n { q with colRun := c, dots := dots.filter (fun d => decide (d.first < d.last)) ++ q.dots }
    if c.next < c.ncol then s
    else s.colDone n (if c.axisMode then last else max (c.s0 + (c.ncol - 1) * c.period + c.dot) last)

/-! ### Overspeed (R207, R208) -/

/-- REJECT: the tile closes as ABANDONED from slot `x`. -/
def State.overReject (s : State) (n x : Nat) : State :=
  let q := s.seq n
  ((((s.inc (R.BLD_H_OVS_REJ q.head) 1).colEnds q.colRun).setSeq n (q.stopAt x)).closeTile q.head Ts.abandoned)

/-- SPLIT: the job goes on at a head with a greater STATION, or REJECT where it cannot (R208). -/
def State.overSplit (s : State) (n x : Nat) : State :=
  let q := s.seq n
  let h := q.head
  let st : Int := intOf (s.rd (R.TSC_H_STATION h))
  let elig := (s.tileD q.arch.tile).elig
  match s.headJob h, s.sharedFree.head? with
  | some r, some k =>
    if bit (s.prodFlags r) 6 ∨ !((List.range 24).any fun g => bit elig g && decide (st < intOf (s.rd (R.TSC_H_STATION g)))) then s.overReject n x
    else
      let c := q.ctxAt x 4 0 h
      let s := ((s.inc (R.BLD_H_OVS_SPLIT h) 1).saveCtx k c).prodFlag r 6
      let s := (s.setSeq n (q.stopAt x)).freeHead h false
      { s with tsc := { s.tsc with jobList := s.tsc.jobList ++ [⟨r, q.arch.tile, some st, some k⟩] } }
  | _, _ => s.overReject n x

/-- Column `next` falls at slot `x`, predicted for `xp`, before the earlier column's dot and the minimum off time have ended. -/
def State.overspeed (s : State) (n xp : Nat) : State :=
  let q := s.seq n
  let c := q.colRun
  let h := q.head
  let x := max xp q.cursor
  let pol := s.fld (R.BLD_H_OVS h) F.BLD_H_OVS_POLICY
  if pol = 1 then
    let at_ := max x c.busyTo
    if s.fld (R.BLD_H_OVS h) F.BLD_H_OVS_LAGMAX < at_ - xp then s.overReject n x
    else
      let s := if c.stretched then s else s.inc (R.BLD_H_OVS_STRETCH h) 1
      let s := match q.job with
        | some r => s.prodFlag r 2
        | none => s
      (s.setSeq n { q with colRun := { c with stretched := true } }).colFire n at_
  else if pol = 2 then s.overSplit n x
  else s.overReject n x

/-- The next column fires where it falls before slot `limit`. -/
def State.colStep (s : State) (n limit : Nat) : State :=
  let s := s.colWake n
  let q := s.seq n
  let c := q.colRun
  if !q.running ∨ q.act ≠ .column ∨ c.starved ∨ s.inWeb n then s
  else if c.ncol ≤ c.next then s.colDone n q.cursor
  else match s.colSlot q with
    | none => s
    | some xp =>
      let x := if c.axisMode then max xp q.cursor else xp
      if c.axisMode ∧ x < c.busyTo then (if x < limit then s.overspeed n xp else s)
      else if x < limit then s.colFire n x
      else s

/-- Every column that falls before slot `limit` fires. -/
def State.colSteps (n limit : Nat) : Nat → State → State
  | 0, s => s
  | k + 1, s =>
    let t := s.colStep n limit
    if (t.seq n).running ∧ (t.seq n).act = .column ∧ (t.seq n).colRun.next ≠ (s.seq n).colRun.next then State.colSteps n limit k t else t

/-! ### COL (R114, R143 to R145, R202, R205) -/

/-- A COL starves: the head's policy acts (Table 5-3). -/
def State.colStarve (s : State) (n : Nat) : State :=
  let q := s.seq n
  let pol := s.fld (R.BSQ_H_STARVE q.head) F.BSQ_H_STARVE_POLICY
  if pol = 3 then s.abandonAt q.head q.cursor
  else if pol = 2 ∧ q.colRun.axisMode then (s.webStart n q.head).2
  else s

def State.colOp (s : State) (n : Nat) (i : Iw) (q : Seq) : State :=
  let a := s.fld (R.BLD_H_BCFG q.head) F.BLD_H_BCFG_AREA
  let clk := i.md 10
  let down := i.md 11
  let col0 := bits i.base 31 16
  let ncol := bits i.base 47 32
  let period := bits i.w1 31 0
  let dot := bits i.w1 47 32
  let cap := s.colCap a
  if period = 0 ∨ (!clk ∧ period < dot) ∨ cap ≤ (if down then col0 else col0 + ncol - 1) ∨ (down ∧ col0 + 1 < ncol) then
    s.progFault n Pf.badOperand
  else
    let s := if s.fld (R.BLD_CA_CFG a) F.BLD_CA_CFG_SRC = 1 ∧ !s.caReady a (s.caActive a) then s.caSwap a else s
    let starved := !s.caReady a (s.caActive a)
    let x := bits i.base 50 48
    let moving := s.axValid x && (s.axis x).pubV ≠ 0
    let c : ColRun :=
      { active := true, axisMode := clk, down := down, col0 := col0, ncol := ncol, axis := x, period := period, dot := dot, next := 0,
        starts := [], s0 := if clk && starved then 0 else q.cursor, a0 := rdiv (s.axisAt x q.cursor) 5000,
        dirUp := decide (0 < (s.axis x).pubV), started := !clk || moving, busyTo := 0, starved := starved, area := a,
        copy := s.caActive a, stretched := false }
    let s := s.setSeq n { q.nextVidx.leaveRun with act := .column, colRun := c }
    if starved then s.colStarve n else s

/-! ## Waits (R115 to R117, R146 to R148) -/

def State.wpmOp (s : State) (n : Nat) (i : Iw) (q : Seq) : State :=
  let a := bits i.base 18 16
  let w := bits i.base 43 32
  if s.wmLen a ≤ w then s.progFault n Pf.badOperand
  else
    let q := { q.leaveRun with shape := { q.shape with wmArmed := true, wmAxis := a, wmIndex := w } }
    let st := (s.wm a w).state
    if st = 2 ∨ st = 3 then s.setSeq n ({ q with arch := { q.arch with fw := true, fz := true } }.pcAdd i.len)
    else
      let q := { q with arch := { q.arch with fw := false } }
      if i.md 10 then s.setSeq n (q.pcAdd i.len)
      else s.setSeq n { q with act := .waitWm a w (q.issueTick + bits i.w1 31 0) (i.md 11) }

def State.wtmOp (s : State) (n : Nat) (i : Iw) (q : Seq) : State :=
  let flagC (q : Seq) (c : Bool) : Seq := { q with arch := { q.arch with fc := c } }
  let hold (len : Nat) : State :=
    let q := q.leaveRun
    s.setSeq n (if len = 0 then (flagC q false).pcAdd i.len else { q.holdFor len .wait false with act := .waitTime false })
  if i.md 10 then
    if !tsValid i.w1 then s.progFault n Pf.badParam
    else
      let t := extendTs i.w1 s.now
      if t * 5 < (q.cursor * 131072 : Nat) then s.setSeq n ((flagC q.leaveRun true).pcAdd i.len)
      else hold (1250 * cdiv t.toNat 32768000 - q.cursor)
  else hold (1250 * (q.issueTick + 1 + bits i.base 47 16) - q.cursor)

/-- The participants of barrier `b` that wait: head, count and tick of arrival. -/
def State.barWait (s : State) (b : Nat) : List (Nat × Nat × Nat) := (s.tsc.barriers.filter fun p => p.1 = b).map (·.2)

/-- A barrier is met with the last arrival in tick `a`: each participant's next instruction has its first slot at the start of tick a + 3
(R117). -/
def State.barRelease (s : State) (b a : Nat) : State :=
  let heads := (s.barWait b).map (·.1)
  let s := { s with tsc := { s.tsc with barriers := s.tsc.barriers.filter fun p => p.1 ≠ b } }
  heads.foldl (fun s h =>
    let n := s.seqOf h
    let q := s.seq n
    s.setSeq n { (q.holdFor (1250 * (a + 3) - q.cursor) .wait false).pcAdd (1 + bits (progWord s.mem.sram q.arch.pc) 9 8) with act := .ready }) s

def State.barOp (s : State) (n : Nat) (i : Iw) (q : Seq) : State :=
  let b := bits i.base 21 16
  let count := bits i.base 36 32
  let others := s.barWait b
  if 24 < count ∨ others.any (fun p => p.2.1 ≠ count) then s.progFault n Pf.barId
  else
    let a := q.issueTick
    let s := s.setSeq n { q.leaveRun with act := .waitBar b count (a + bits i.w1 31 0) (i.md 11) }
    let s := { s with tsc := { s.tsc with barriers := s.tsc.barriers ++ [(b, q.head, count, a)] } }
    let here := s.barWait b
    if here.length < count then s else s.barRelease b (here.foldl (fun m p => max m p.2.2) 0)

/-! ## Signals, records, tile edges (R118 to R120, R149, R150) -/

def State.sigOp (s : State) (n : Nat) (i : Iw) (q : Seq) : State :=
  let e := bits i.base 23 16
  let d := s.tileD q.arch.tile
  let s := s.setSeq n (q.pcAdd 1)
  let s := if !d.pv ∨ d.postEvt ≠ e then s.inc R.TSC_SIGUNDECL 1 else s
  let s := if i.md 10 then s.wr (R.BSQ_EVT n) (s.rd (R.BSQ_EVT n) ||| BitVec.ofNat 32 (2 ^ (e % 32))) else s
  s.postEvent e

def State.qrcOp (s : State) (n : Nat) (i : Iw) (q : Seq) : State :=
  match q.reg (bits i.base 20 16) with
  | .error c => s.progFault n c
  | .ok v =>
    let pos := i.md 10
    let x := q.cursor
    let time := slotTs x % 2 ^ 64
    let p (c : Int) : Nat := if pos then wrap 32 c else 0
    let r := (qrec time q.arch.tile q.head (bits i.base 31 24) q.arch.vidx v.toNat (p q.arch.px) (p q.arch.py) q.level q.arch.mask).take 31 ++
      leBytes (q.arch.region + 16 * b2n pos) 1
    (s.setSeq n (q.pcAdd 1)).quality (R.BSQ_QDROP n) r

/-- TIL BEGIN (R90). -/
def Seq.beginTile (q : Seq) : Seq :=
  let a := q.arch
  let arch : Arch :=
    { a with g := (q.args ++ List.replicate 12 (0 : Word)).take 16, scratch := [], vidx := 2 ^ 32 - 1, fz := false, fn := false,
             fc := false, fw := false, ft := false }
  { q with begun := true, tick0 := q.issueTick, arch := arch }.pcAdd 1

/-- The tile yields its head: YIELDED in a shared context, or for a coding job back to the jobs that wait (R119, R179; log entry 21). -/
def State.yieldTile (s : State) (n : Nat) (q : Seq) : State :=
  let q := q.leaveRun.pcAdd 1
  match s.sharedFree.head? with
  | none => s.setSeq n q
  | some k =>
    let c := q.ctxAt q.cursor 3 0 q.head
    let s := s.saveCtx k c
    let s : State := match s.headJob q.head with
      | some r =>
        let j : Job := ⟨r, q.arch.tile, none, some k⟩
        { s with tsc := { s.tsc with jobList := s.tsc.jobList ++ [j] } }
      | none => (s.tileFld q.arch.tile Ts.fCtx k).setTile q.arch.tile Ts.yielded
    (s.setSeq n { q with running := false, job := none }).freeHead q.head true

def State.tilOp (s : State) (n : Nat) (i : Iw) (q : Seq) : State :=
  let kind := bits i.base 18 16
  if 3 ≤ kind then s.progFault n Pf.illegalInstr
  else if kind = 0 then
    if q.arch.pc ≠ q.entry then s.progFault n Pf.tilNest else s.setSeq n q.beginTile
  else if !q.begun then s.progFault n Pf.tilNest
  else if kind = 1 then (s.setSeq n (q.leaveRun.pcAdd 1)).closeTile q.head Ts.complete
  else if q.arch.ft then s.yieldTile n q
  else s.setSeq n (q.leaveRun.pcAdd 1)

/-! ## Issue -/

/-- A zero-length MRK, ARC or CUB (R105). -/
def State.zeroMotion (s : State) (q : Seq) (i : Iw) : Bool :=
  if i.op = 0x31 ∨ i.op = 0x32 ∨ i.op = 0x33 then
    match q.firingVec (s.env q).bounds i with
    | some (.ok w) => w.len = 0 && w.p0 = w.p1
    | _ => false
  else false

/-- Sequencer `n` issues instruction `i`. During the Stop and Wait phases of a Switchback it goes on with cost-0 instructions only. -/
def State.issue (s : State) (n : Nat) (i : Iw) : State :=
  let q0 := s.seq n
  let q := q0.spend i.len
  let env := s.env q
  let op := i.op
  match q.exec0 env.mem env.has i with
  | some r => s.issued n r
  | none =>
    if i.void then s.setSeq n (q.pcAdd i.len)
    else if op = 0x4B then s.sigOp n i q
    else if op = 0x58 then s.qrcOp n i q
    else if op = 0x39 ∧ bits i.base 55 32 = 0 then s.setSeq n (q.rmpOp i)
    else if s.zeroMotion q i then
      match q.firingVec env.bounds i with
      | some (.ok w) => s.planned n ((q.motionOp env i w).map fun x => ({ x.1 with act := q.act }, x.2))
      | _ => s
    else if q.inSwitch then s
    else if op = 0x01 then s.progFault n Pf.halted
    else if op = 0x30 then s.planned n (q.jmpOp env i)
    else if op = 0x34 then s.planned n (q.dwlOp env i)
    else if op = 0x39 then s.planned n (q.rmpWaitOp env i)
    else if op = 0x40 then s.planned n (q.brsOp env i)
    else if op = 0x41 then s.colOp n i q
    else if op = 0x48 then s.wpmOp n i q
    else if op = 0x49 then s.wtmOp n i q
    else if op = 0x4A then s.barOp n i q
    else if op = 0x50 then s.tilOp n i q
    else match q.firingVec env.bounds i with
      | some (.ok w) => s.planned n (q.motionOp env i w)
      | some (.error c) => s.progFault n c
      | none => s

/-- The row of opcode `op` for sequencer `n`: the instruction at its PC issues, or faults, where it may issue and has that opcode. A word
that is no beam instruction, or a PC outside the windows, faults under whichever row meets it. -/
def State.beamRow (s : State) (op n : Nat) : State :=
  match s.nextIw n with
  | none => s
  | some (.ok i) => if i.op = op then s.issue n i else s
  | some (.error c) =>
    let pc := (s.seq n).arch.pc
    let w := bits (progWord s.mem.sram pc) 7 0
    if progEnd ≤ pc ∨ !beamOp w ∨ w = op then s.progFault n c else s

/-! ## The PATH Switchback (R151 to R153, R156) -/

/-- A running ramp does not advance in the slots from the cursor to `to` (R139). -/
def Seq.freeze (q : Seq) (slot : Nat) : Seq :=
  let r := q.arch.ramp
  if r.running then { q with arch := { q.arch with ramp := { r with done := r.steps q.cursor, since := max r.since slot } } }.mark else q

/-- The next vector seen from the junction: its tangent and speed; none where the next motion is a hold. -/
def Seq.nextVec (q : Seq) (env : Env) : Option Vec :=
  match q.ahead env.mem env.has env.bounds false 4096 16384 with
  | .fires v => v
  | _ => none

/-- P_b of Table 5-4. -/
def swbBackPoint (w : Swb) : Pt := alongFrac w.ps w.dx2 w.dy2 (-((w.v2 * rampTicks w.v2 w.acc : Nat) : Int)) 4000

/-- Q of Table 5-4. -/
def swbStopPoint (w : Swb) : Pt := alongFrac w.ps w.dx w.dy ((w.v1 * rampTicks w.v1 w.acc : Nat) : Int) 4000

/-- The manoeuvre from the junction at the cursor, with acceleration code `acc`. -/
def Seq.swbOf (q : Seq) (next : Option Vec) (acc : Nat) : Swb :=
  let v1 := if q.tdx = 0 ∧ q.tdy = 0 then 0 else q.tv
  match next with
  | some w => ⟨q.pos, q.tdx, q.tdy, v1, w.inX, w.inY, if w.inX = 0 ∧ w.inY = 0 then 0 else w.v, acc⟩
  | none => ⟨q.pos, q.tdx, q.tdy, v1, 0, 0, 0, acc⟩

/-- The Stop phase from the next tick boundary; the gate closes at E + LOFF (R134, R152). -/
def Seq.swbStopPhase (q : Seq) (w : Swb) (act : Activity) (loff : Int) : Seq :=
  let k := q.spans.length
  let e := q.cursor
  let td := rampTicks w.v1 w.acc
  let stop := boundary e + 1250 * td
  let q := (q.freeze stop).fill (decide (0 < loff))
  let q := q.drive td (.run w.ps w.dx w.dy (.stop w.v1 td)) .manoeuvre (decide (0 < loff)) 0 (swbStopPoint w)
  { q.closeFrom k (e + loff.toNat) with act := act, swb := w, inRun := false, tv := 0, tdx := 0, tdy := 0 }

/-- The head leaves its field in the manoeuvre (R153). -/
def State.swbOutside (s : State) (h : Nat) (w : Swb) : Bool :=
  !(s.field h).has (swbStopPoint w) || !(s.field h).has (swbBackPoint w)

/-! ## Completing a tick intent (R18, R97, R126, R151, R424) -/

/-- A stall tick: from the cursor to the end of tick `k` the set-point is held with gates zero (R97). -/
def State.stall (s : State) (n k : Nat) : State :=
  let q := s.seq n
  let e := 1250 * (k + 1)
  (s.setSeq n { (q.freeze e).holdFor (e - q.cursor) .stall false with words := 0 }).inc (R.BSQ_STALLCNT n) 1

/-- Starvation at a junction of a run in tick `k`: the head's policy acts (R151, Table 5-3). -/
def State.starve (s : State) (n k : Nat) : State :=
  let q := s.seq n
  let h := q.head
  let pol := s.fld (R.BSQ_H_STARVE h) F.BSQ_H_STARVE_POLICY
  if pol = 3 then s.abandonAt h q.cursor
  else if pol = 1 then
    let w := q.swbOf (q.nextVec (s.env q)) (s.fld (R.BSQ_H_STARVE h) F.BSQ_H_STARVE_ACC)
    if s.swbOutside h w then (s.setFld (R.BSQ_SWB n) F.BSQ_SWB_FALLBACK 1).stall n k
    else
      let loff := q.delay 1
      let q' := { q.swbStopPhase w .swbStop loff with words := 0 }
      let e := 1250 * (k + 1)
      let q' := if q'.cursor < e then (q'.freeze e).holdFor (e - q'.cursor) .manoeuvre false else q'
      let s := (s.setSeq n q').setFld (R.BSQ_SWB n) F.BSQ_SWB_PHASE 1
      if loff < 0 then s.inc (R.BSQ_DLYCLAMP n) 1 else s
  else s.stall n k

/-- Slots with gates zero to the end of tick `k`, which are no stall. -/
def State.holdTick (s : State) (n k : Nat) (kind : SpanKind) : State :=
  let q := s.seq n
  let e := 1250 * (k + 1)
  let q := if kind = .manoeuvre then q.freeze e else q
  s.setSeq n (q.holdFor (e - q.cursor) kind false)

/-- A COL that starved holds in tick `k` (R151, Table 5-3). -/
def State.starvedTick (s : State) (n k : Nat) : State :=
  if s.inWeb n then s.holdTick n k .column
  else
    let s := s.stall n k
    let q := s.seq n
    let c := q.colRun
    if !c.axisMode then s.setSeq n { q with colRun := { c with s0 := q.cursor } }
    else if !c.started then s
    else
      let x := q.skipPassed (fdiv (s.axisAt c.axis q.cursor) 5000)
      let s := s.setSeq n x
      if x.colRun.next = c.next then s
      else match q.job with
        | some r => s.prodFlag r 1
        | none => s

/-- The plan from the boundary `b` on moves one tick later, and the head holds (R49). -/
def Seq.pauseShift (q : Seq) (b : Nat) : Seq :=
  let early := q.spans.filter fun sp => decide (sp.start < b)
  let late := (q.spans.filter fun sp => decide (b ≤ sp.start)).map fun sp =>
    { sp with start := sp.start + 1250, openAt := max sp.openAt b + 1250, closeAt := sp.closeAt + 1250 }
  let at_ := match early.getLast? with
    | some sp => sp.point (cdiv sp.len 1250)
    | none => q.pos
  let hold : Span := ⟨b, 1250, .hold at_, 0, .wait, false, 0, 0, q.arch.vidx, 0, 0, q.arch.pc, 0⟩
  { q with spans := early ++ [hold] ++ late, cursor := q.cursor + 1250,
           attrs := q.attrs.map fun a => if b < a.since then { a with since := a.since + 1250 } else a }

/-- Whether the intent of tick `k` fires in some slot. -/
def Seq.firesIn (q : Seq) (k : Nat) : Bool :=
  let a := 1250 * k
  let e := a + 1250
  let mask := (q.attrAt a).mask ≠ 0 || (q.attrAt (e - 1)).mask ≠ 0
  (mask && q.spans.any fun sp => sp.fire && decide (max (max sp.start sp.openAt) a < min (min (sp.start + sp.len) sp.closeAt) e)) ||
    q.dots.any fun d => decide (max d.first a < min d.last e)

/-- What lies far enough in the past is forgotten. -/
def Seq.prune (q : Seq) (k : Nat) : Seq :=
  let lim := 1250 * (k - 64)
  let old := q.attrs.filter fun a => decide (a.since < lim)
  { q with spans := q.spans.filter (fun sp => decide (lim ≤ sp.start + sp.len)), dots := q.dots.filter (fun d => decide (lim ≤ d.last)),
           attrs := q.attrs.filter (fun a => decide (lim ≤ a.since)) ++ old.take 1 }

/-- The checkpoint of tick `k` (R424, Table 16-3). -/
def State.checkpoint (s : State) (n k : Nat) : State :=
  let q := s.seq n
  let s := s.sramPut (0x3600000 + 0x1000 * n + 0x800 * (k % 2)) (leBytes k 8 ++ List.replicate 56 0 ++ ckptBytes q s.free)
  { s.draw with ckpts := sput (fun _ => none) (2 * n + k % 2) (some (k, q)) s.ckpts }

/-- The intent of tick `k` of sequencer `n` is made complete where the program has not filled it. -/
def State.fillTick (s : State) (n k : Nat) : State :=
  let e := 1250 * (k + 1)
  let q := s.seq n
  let s := if q.act = .column && !q.colRun.starved && s.mayRun q then State.colSteps n e (q.colRun.ncol + 1) s else s
  let q := s.seq n
  if !q.running then s
  else if q.act = .motion ∧ !s.mayRun q ∧ q.between (1250 * k) then s.setSeq n (q.pauseShift (1250 * k))
  else if e ≤ q.cursor then s
  else match q.act with
    | .waitWm _ _ _ _ | .waitBar _ _ _ _ => s.holdTick n k .wait
    | .swbStop | .swbWait | .swbBack | .swbApproach | .guardStop | .guardWait | .checkerStop => s.holdTick n k .manoeuvre
    | .column => if q.colRun.starved then s.starvedTick n k else s.holdTick n k .column
    | _ =>
      if !s.mayRun q then s.holdTick n k .wait
      else if q.inRun then s.starve n k
      else s.stall n k

/-- Sequencer `n` completes the intent of tick `k`, if that is its next. -/
def State.finishTick (s : State) (n k : Nat) : State :=
  let q := s.seq n
  if !q.running ∨ q.nextTick ≠ k then s
  else
    let s := s.fillTick n k
    let q := s.seq n
    if !q.running then s
    else
      (s.setSeq n ({ q with nextTick := k + 1 }.prune k)).checkpoint n k

/-- Every sequencer completes the intents of the ticks up to `k`. -/
def State.finishTo (s : State) (k : Nat) : State :=
  (List.range 26).foldl (fun s n =>
    let from_ := (s.seq n).nextTick
    if (s.seq n).running then (List.range (k + 1 - from_)).foldl (fun s j => s.finishTick n (from_ + j)) s else s) s

/-- GEO makes the drive codes of tick `k` for every head whose lane carries frames (R19, R380). -/
def State.aimAll (s : State) (k : Nat) : State :=
  (List.range 24).foldl (fun s h =>
    if framing (s.laneState h) && (s.aimOf h k).isNone then s.aim h k ((s.seq (s.seqOf h)).pointAt k) else s) s

/-! ## The commands -/

/-- The sequencer that unit `unit` of Table 16-2 is, if it is one. -/
def bsqUnit (unit : Nat) : Option Nat := if 0x100 ≤ unit ∧ unit < 0x11A then some (unit - 0x100) else none

/-- INTENT_DEADLINE (R126): 350 ns into a tick, the intents of the tick after next are complete or become stall ticks. -/
def execIntentDeadline (s : State) : Res State :=
  let s := s.arrive 350
  done ((s.finishTo (s.tick + 2)).aimAll (s.tick + 2))

/-- The plan of sequencer `unit` has ended while `act` was under way, and the program may go on. -/
def State.endOf (s : State) (unit : Nat) (acts : List Activity) : Option (Nat × Seq) :=
  match bsqUnit unit with
  | none => none
  | some n =>
    let q := s.seq n
    if q.running && acts.contains q.act && q.planDone then some (n, q) else none

/-- MOTION_COMPLETE (R125): the motion has had its N ticks. Under a PAUSE the run ends here (R49). -/
def execMotionComplete (unit : Nat) (s : State) : Res State :=
  done (match s.endOf unit [.motion] with
    | none => s
    | some (n, q) => s.setSeq n { q with act := .ready, inRun := q.inRun && s.mayRun q })

/-- DWELL_END (R125): a slot-counted hold has ended. -/
def execDwellEnd (unit : Nat) (s : State) : Res State :=
  done (match s.endOf unit [.dwell] with
    | none => s
    | some (n, q) => s.setSeq n { q with act := .ready, inRun := q.inRun && s.mayRun q })

/-- WTM_WAIT_END (R116, R148): the wait ends with C = 0. -/
def execWtmWaitEnd (unit : Nat) (s : State) : Res State :=
  done (match s.endOf unit [.waitTime false] with
    | none => s
    | some (n, q) =>
      s.setSeq n { q.pcAdd (1 + bits (progWord s.mem.sram q.arch.pc) 9 8) with arch := { (q.pcAdd (1 + bits (progWord s.mem.sram q.arch.pc) 9 8)).arch with fc := false }, act := .ready })

/-- RAMP_END (R196): the last step of the ramp has been produced. -/
def execRampEnd (unit : Nat) (s : State) : Res State :=
  done (match bsqUnit unit with
    | none => s
    | some n =>
      let q := s.seq n
      let r := q.arch.ramp
      if r.running && decide (r.time ≤ r.steps q.cursor) then
        s.setSeq n { q with arch := { q.arch with level := r.target, ramp := Ramp.none } }
      else s)

/-- COLUMN_FIRE (R143 to R145): the next column of the COL under way fires, if it falls before the end of the tick being computed. -/
def execColumnFire (unit : Nat) (s : State) : Res State :=
  done (match bsqUnit unit with
    | none => s
    | some n => if s.mayRun (s.seq n) then s.colStep n (1250 * ((s.seq n).nextTick + 1)) else s)

/-- WPM_TIMEOUT (R115): W1 ticks have passed. -/
def execWpmTimeout (unit : Nat) (s : State) : Res State :=
  done (match bsqUnit unit with
    | none => s
    | some n =>
      let q := s.seq n
      match q.act with
      | .waitWm _ _ limit true => if q.running ∧ limit < q.nextTick then s.progFault n Pf.waitTmo else s
      | _ => s)

/-- BAR_TIMEOUT (R117): the wait has lasted longer than W1 ticks; the arrival is withdrawn with the tile. -/
def execBarTimeout (unit : Nat) (s : State) : Res State :=
  done (match bsqUnit unit with
    | none => s
    | some n =>
      let q := s.seq n
      match q.act with
      | .waitBar _ _ limit true => if q.running ∧ limit < q.nextTick then s.progFault n Pf.waitTmo else s
      | _ => s)

/-- SWITCHBACK_STOP_END (R152): the head is at Q. -/
def execSwitchbackStopEnd (unit : Nat) (s : State) : Res State :=
  done (match s.endOf unit [.swbStop] with
    | none => s
    | some (n, q) => (s.setSeq n { q with act := .swbWait }).setFld (R.BSQ_SWB n) F.BSQ_SWB_PHASE 2)

/-- SWITCHBACK_WAIT_END (R152, R159): the next timed instruction is ready. Back begins; for an instruction that is no firing motion the
manoeuvre ends at Q. -/
def execSwitchbackWaitEnd (unit : Nat) (s : State) : Res State :=
  done (match s.endOf unit [.swbWait] with
    | none => s
    | some (n, q) =>
      match s.nextIw n with
      | none => s
      | some (.error c) => s.progFault n c
      | some (.ok i) =>
        let env := s.env q
        let fires := i.op = 0x31 ∨ i.op = 0x32 ∨ i.op = 0x33 ∨ i.op = 0x40 ∨ (i.op = 0x34 ∧ i.md 10) ∨ i.op = 0x39
        if (q.exec0 env.mem env.has i).isSome ∨ i.void ∨ i.op = 0x4B ∨ i.op = 0x58 ∨ s.zeroMotion q i then s
        else if !fires then
          ((s.setSeq n { q with act := .ready, swb := Swb.none }).setFld (R.BSQ_SWB n) F.BSQ_SWB_PHASE 0).inc (R.BSQ_SWBCNT n) 1
        else match q.firingVec env.bounds i with
          | some (.error c) => s.progFault n c
          | v =>
            let (dx, dy, v2) : Int × Int × Nat := match v with
              | some (.ok w) => (w.inX, w.inY, if w.inX = 0 ∧ w.inY = 0 then 0 else w.v)
              | _ => (0, 0, 0)
            let w := { q.swb with dx2 := dx, dy2 := dy, v2 := v2 }
            match q.jump env.prof (swbBackPoint w) .manoeuvre with
            | .error c => s.progFault n c
            | .ok x => (s.setSeq n { (q.freeze x.cursor) with spans := x.spans, cursor := x.cursor, pos := x.pos, act := .swbBack, swb := w }).setFld (R.BSQ_SWB n) F.BSQ_SWB_PHASE 3)

/-- SWITCHBACK_BACK_END (R152): the head is at P_b. -/
def execSwitchbackBackEnd (unit : Nat) (s : State) : Res State :=
  done (match s.endOf unit [.swbBack] with
    | none => s
    | some (n, q) =>
      let w := q.swb
      let ta := rampTicks w.v2 w.acc
      let q := q.freeze (boundary q.cursor + 1250 * ta)
      let q := (q.fill false).drive ta (.run (swbBackPoint w) w.dx2 w.dy2 (.approach w.v2 ta)) .runIn false 0 w.ps
      (s.setSeq n { q with act := .swbApproach }).setFld (R.BSQ_SWB n) F.BSQ_SWB_PHASE 4)

/-- SWITCHBACK_APPROACH_END (R152): the head is at P_s at speed, and the next motion joins. -/
def execSwitchbackApproachEnd (unit : Nat) (s : State) : Res State :=
  done (match s.endOf unit [.swbApproach] with
    | none => s
    | some (n, q) =>
      ((s.setSeq n { q with act := .ready, swb := Swb.none }).setFld (R.BSQ_SWB n) F.BSQ_SWB_PHASE 0).inc (R.BSQ_SWBCNT n) 1)

/-- A write of 1 to BSQn_FAULT.FAULTED lets a halted sequencer take work again (R158). -/
def State.faultClear (s : State) (n : Nat) (v : Word) : State :=
  if fget v F.BSQ_FAULT_FAULTED = 0 then s
  else
    let q := s.seq n
    (s.setFld (R.BSQ_FAULT n) F.BSQ_FAULT_FAULTED 0).setSeq n (if q.act = .faulted then { q with act := .ready } else q)

/-- BSQ_FAULT_CLEAR: a write of BSQn_FAULT. -/
def execBsqFaultClear (n : Nat) (v : Word) (s : State) : Res State := hostOp s fun s => if 26 ≤ n then s else s.faultClear n v

end Sys2Proof.Machine
end

