-- ==== Sys2Proof/Machine/Scheduler.lean ====
section
/-! DEFINITION. The tile scheduler (chapter 06): rejoining at a resume point (R185 to R190), exclusion (R170 to R172), coding windows
(R181 to R183), the decision round (R173 to R179), the per-tick guard (R184, R185), and the commands of TSC. -/

namespace Sys2Proof.Machine

/-! ## Rejoining (R43, R185 to R190) -/

/-- The slot at which the tile of a context was cut. -/
def Ctx.cut (c : Ctx) : Nat := (c.seq.attrs.getLast?.map fun a => a.since).getD 0

/-- Spans that occupy whole ticks (R125). -/
def tickKind (k : SpanKind) : Bool := k = .motion || k = .jump || k = .runIn || k = .manoeuvre

/-- A saved plan being laid into a new stream: the sequencer, the old and new first slots of the spans laid so far (newest first), and
whether the last span fires. -/
structure Lay where
  q : Seq
  at_ : List (Nat × Nat)
  fire : Bool
  deriving DecidableEq, Repr

/-- A saved span placed at the cursor, its gate slots moved with it. -/
def Lay.put (l : Lay) (sp : Span) (len : Nat) : Lay :=
  let b := l.q.cursor
  if len = 0 then { l with at_ := (sp.start, b) :: l.at_ }
  else
    let sp' := { sp with start := b, len := len, openAt := b + sp.openAt - sp.start, closeAt := b + sp.closeAt - sp.start }
    ⟨{ l.q with spans := l.q.spans ++ [sp'], cursor := b + len }, (sp.start, b) :: l.at_, sp.fire⟩

/-- The remaining spans follow one another; whole-tick spans start at tick boundaries, and fill slots fill up to them (R125, R189). -/
def layAll : List Span → Lay → Lay
  | [], l => l
  | sp :: t, l =>
    if sp.kind = .fill then layAll t (l.put sp (boundary l.q.cursor - l.q.cursor))
    else if tickKind sp.kind then layAll t ({ l with q := l.q.fill l.fire }.put sp sp.len)
    else layAll t (l.put sp sp.len)

/-- The new slot of an old slot of the plan; slots before it move to the join. -/
def remap (at_ : List (Nat × Nat)) (join x : Nat) : Nat :=
  match at_.find? fun p => decide (p.1 ≤ x) with
  | some p => p.2 + (x - p.1)
  | none => join

def Ramp.moved (r : Ramp) (f : Nat → Nat) : Ramp := if r.running then { r with since := f r.since } else r

/-- The jump to P_a and the approach to P_i of R187, along (dx, dy) at speed v. -/
def Seq.approach (q : Seq) (prof : Bool × Nat) (v acc : Nat) (p : Pt) (dx dy : Int) : Except Nat Seq := do
  let ta := rampTicks v acc
  let a := alongFrac p dx dy (-((v * ta : Nat) : Int)) 4000
  let q ← q.jump prof a .manoeuvre
  .ok ((q.fill false).drive ta (.run a dx dy (.approach v ta)) .manoeuvre false 0 p)

/-- A rejoined stream: the plan laid from `join` on, with the attributes and the ramp as they stood at the resume point (R188). -/
def Seq.joinPlan (q : Seq) (c : Ctx) (plan : List Span) (act : Activity) (join : Nat) (ramp : Bool) (cfg : Nat) : Seq :=
  let l := layAll plan ⟨q, [], false⟩
  let f := remap l.at_ join
  let attrs := c.seq.attrs.map fun a => { a with since := f a.since, ramp := a.ramp.moved f }
  let r := c.seq.arch.ramp.from c.cut
  let x := l.q
  let tk := c.seq.issueTick - c.seq.tick0
  { x with attrs := attrs ++ q.attrs.filter (fun a => decide (a.since < join)), act := act, joinAt := join,
           joinRamp := if ramp then cfg else 0, pos := if plan.isEmpty then x.pos else c.seq.pos,
           arch := { x.arch with ramp := r.moved f }, tick0 := (x.cursor - 1) / 1250 - tk }

/-- The sequencer of `n`, on head `h`, loaded with context `c`; its stream goes on at tick `first` (R185). -/
def State.loaded (s : State) (n h first : Nat) (c : Ctx) : Seq :=
  let old := s.seq n
  { c.seq with running := true, head := h, spans := old.spans, attrs := old.attrs, dots := old.dots, cursor := 1250 * first,
               nextTick := first, firstSlot := 1250 * first, pos := old.pointAt (first - 1), words := 0, wordTick := 0,
               colRun := ColRun.none, swb := Swb.none }

/-- TSC_JOIN as a ramp: RAMP + 65536 × START. -/
def State.joinCfg (s : State) : Nat :=
  s.fld R.TSC_JOIN F.TSC_JOIN_RAMP + 65536 * s.fld R.TSC_JOIN F.TSC_JOIN_START

/-- A COL goes on from NEXTCOL (R189, R190): in time mode from the cursor, in axis mode at the counts that follow from `a0`, the count of
column 0 at the new head, or where the axis stands. -/
def State.rejoinCol (s : State) (c : Ctx) (a0 : Option Int) (q : Seq) : Except Nat Seq := do
  let r := c.seq.colRun
  let prof := (s.env q).prof
  let q ← q.jump prof c.pt .manoeuvre
  if r.next = 0 then
    .ok { q.joinPlan c [] .ready q.cursor false 0 with arch := { q.arch with vidx := (q.arch.vidx + (2 ^ 32 - 1)) % 2 ^ 32 } }
  else
    let q := q.joinPlan c [] .column q.cursor false 0
    if !r.axisMode then
      let r := { r with col0 := if r.down then r.col0 - r.next else r.col0 + r.next, ncol := r.ncol - r.next, next := 0, s0 := q.cursor, busyTo := 0 }
      .ok { q with colRun := r }
    else match a0 with
      | some x => .ok { q with colRun := { r with a0 := x * 65536, started := true, dirUp := true, s0 := 0, busyTo := 0 } }
      | none => .ok ({ q with colRun := { r with busyTo := 0 } }.skipPassed (fdiv (s.axisAt r.axis q.cursor) 5000))

/-- The plan of a tile that rejoins at its resume point on head `h` (R187, R189, R190). -/
def State.rejoin (s : State) (n h first : Nat) (c : Ctx) (a0 : Option Int) : Except Nat Seq := do
  let q := s.loaded n h first c
  let env := s.env q
  let acc := s.fld R.TSC_JOIN_ACC F.TSC_JOIN_ACC_ACC
  let cfg := s.joinCfg
  let reissue (q : Seq) : Seq := q.joinPlan c [] .ready q.cursor false 0
  let toMotion (sp : Span) (plan : List Span) : Except Nat Seq := do
    let u := sp.tangent
    let q ← q.approach env.prof sp.speed acc (sp.path.at sp.tick0) u.1 u.2
    .ok (q.joinPlan c plan c.seq.act (q.cursor + (c.cut - sp.start)) true cfg)
  if c.seq.act = .column then s.rejoinCol c a0 q
  else match c.seq.act with
  | .waitWm _ _ _ _ | .waitTime _ | .waitBar _ _ _ _ => .ok (reissue q)
  | .swbWait =>
    match ({ q with pos := c.pt, inRun := false }).nextVec env with
    | some w => do
      let q ← q.approach env.prof w.v acc c.pt w.inX w.inY
      .ok (q.joinPlan c [] .ready q.cursor true cfg)
    | none => (q.jump env.prof c.pt .manoeuvre).map reissue
  | _ =>
    match c.seq.spans with
    | [] => (q.jump env.prof c.pt .manoeuvre).map reissue
    | sp :: t =>
      if sp.kind = .motion then toMotion sp (sp :: t)
      else if sp.kind = .jump then do
        let q ← q.jump env.prof (sp.path.at (sp.tick0 + sp.len / 1250)) .jump
        .ok (q.joinPlan c t c.seq.act q.cursor false 0)
      else if tickKind sp.kind ∨ sp.kind = .wait then
        match rejoinSpan t with
        | some m => toMotion { m with start := c.cut } ((sp :: t).dropWhile fun x => x.kind ≠ .motion)
        | none => .ok (reissue q)
      else do
        let q ← q.jump env.prof c.pt .manoeuvre
        .ok (q.joinPlan c (sp :: t) c.seq.act q.cursor false 0)

/-! ## Exclusion (R170 to R172) -/

/-- The zone of a tile with its bounds replaced by `b` (R170, R184). -/
def State.zone (s : State) (d : TileD) (b : Bounds) : Bounds :=
  let r : Int := (1000 * d.plume : Nat)
  let w : Int := (1000 * d.wake : Nat)
  let wx := fdiv (w * sgn 16 (s.fld R.TSC_WAKE_DIR F.TSC_WAKE_DIR_DX)) 16384
  let wy := fdiv (w * sgn 16 (s.fld R.TSC_WAKE_DIR F.TSC_WAKE_DIR_DY)) 16384
  ⟨b.x0 - r + min 0 wx, b.y0 - r + min 0 wy, b.x1 + r + max 0 wx, b.y1 + r + max 0 wy⟩

/-- Closed boxes overlap (R171). -/
def Bounds.meets (a b : Bounds) : Bool :=
  decide (a.x0 ≤ b.x1) && decide (b.x0 ≤ a.x1) && decide (a.y0 ≤ b.y1) && decide (b.y0 ≤ a.y1)

/-- Tiles `i` and `j` conflict (R171). -/
def State.conflict (s : State) (i j : Nat) : Bool :=
  let c := s.tileD i
  let a := s.tileD j
  i ≠ j && !c.noexcl && !a.noexcl && ((s.zone c c.b).meets a.b || (s.zone a a.b).meets c.b)

/-- The tiles of the active set in the present tick (R172). -/
def State.activeTiles (s : State) : List Nat :=
  (s.tsc.active.filter fun a => match a.until_ with
    | none => true
    | some k => decide (s.tick < k)).map fun a => a.tile

/-! ## Coding windows (R181) -/

/-- The station offset of head `h`. -/
def State.station (s : State) (h : Nat) : Int := intOf (s.rd (R.TSC_H_STATION h))

/-- S_h of a job: the count of its first column on head `h`. -/
def State.jobCount (s : State) (j : Job) (h : Nat) : Int := s.prodPd j.rcd + s.station h + (s.tileD j.tile).wofs

/-- Counts from the first column to the first one not fired, for a job handed over with columns fired (R190). -/
def State.jobAhead (s : State) (j : Job) : Int :=
  match j.minStation, j.ctx.bind s.ctx with
  | some _, some c => (c.seq.colRun.next * c.seq.colRun.period : Nat)
  | _, _ => 0

/-- The instants, in units of 2⁻¹⁶ ns, at which the window of a job on head `h` opens and closes; none while the axis does not move
forwards. -/
def State.window (s : State) (j : Job) (h : Nat) : Option (Int × Int) :=
  let a := s.axis (s.tileD j.tile).axis
  if a.pubV ≤ 0 then none
  else
    let lo := max 4 (s.fld R.TSC_TWIN F.TSC_TWIN_MINLEAD)
    let hi := max lo (s.fld R.TSC_TWIN F.TSC_TWIN_MAXLEAD)
    let d := sgn 64 (wrap 64 ((s.jobCount j h + s.jobAhead j) * 65536 - a.pubF))
    let t : Int := (a.pubT * 65536 : Nat) + fdiv (d * 65536000) a.pubV.toNat
    some (t - (hi * 500 * 65536 : Nat), t - (lo * 500 * 65536 : Nat))

/-- A head that may take a job: named in ELIG, and beyond the station of the head that handed it over. -/
def State.jobHead (s : State) (j : Job) (h : Nat) : Bool :=
  bit (s.tileD j.tile).elig h && match j.minStation with
    | none => true
    | some m => decide (m < s.station h)

/-! ## Candidates (R174 to R176, Table 6-5) -/

/-- A candidate for a head: the tile, its job if any, and the key of R175 (no urgency time ranks last). -/
structure Cand where
  tile : Nat
  job : Option Job
  cls : Nat
  urg : Option Int
  prio : Nat
  deriving DecidableEq, Repr

/-- The key order of R175. -/
def Cand.before (a b : Cand) : Bool :=
  if a.cls ≠ b.cls then decide (a.cls < b.cls)
  else
    let u := match a.urg, b.urg with
      | some x, some y => if x < y then 1 else if y < x then 2 else 0
      | some _, none => 1
      | none, some _ => 2
      | none, none => 0
    if u ≠ 0 then u = 1
    else if a.prio ≠ b.prio then decide (b.prio < a.prio)
    else decide (a.tile < b.tile)

/-- The present time in units of 2⁻¹⁶ ns. -/
def State.nowFine (s : State) : Int := (s.now * 65536 : Nat)

/-- DEADLINE − EST × 500 ns of a tile that has a deadline (R176). -/
def State.urgency (s : State) (d : TileD) : Option Int :=
  if d.deadline = 0 then none else some (extendTs d.deadline s.now - (d.est * 500 * 65536 : Nat))

def State.urgent (s : State) (u : Option Int) : Nat :=
  match u with
  | none => 2
  | some t => if t - s.nowFine ≤ (s.fld R.TSC_CFG F.TSC_CFG_URGENT * 500 * 65536 : Nat) then 1 else 2

/-- The context from which tile `i` resumes. -/
def State.tileCtx (s : State) (i : Nat) : Option Ctx :=
  match s.ctx (fget (s.status i) Ts.fCtx) with
  | some c => if c.tile = i ∧ c.job = none then some c else none
  | none => none

/-- Tile `i` as a candidate for head `h` but for exclusion. -/
def State.tileCand (s : State) (cal : Bool) (h i : Nat) : Option Cand :=
  let d := s.tileD i
  let t := s.tileState i
  let open_ := t = Ts.ready || t = Ts.yielded || (t = Ts.interrupted && fget (s.status i) Ts.fHead = h) ||
    (t = Ts.detour && match s.tileCtx i with
      | some c => s.approachFits c h
      | none => true)
  if !(open_ && d.cal == cal && bit d.elig h) then none
  else if t = Ts.detour ∨ t = Ts.interrupted then some ⟨i, none, 0, none, d.prio⟩
  else some ⟨i, none, s.urgent (s.urgency d), s.urgency d, d.prio⟩

/-- A coding job as a candidate for head `h` but for exclusion. -/
def State.jobCand (s : State) (cal : Bool) (h : Nat) (j : Job) : Option Cand :=
  let busy := (List.range 24).any fun g => s.held g = some j.tile && (s.headJob g).isSome
  if cal ∨ busy ∨ !s.jobHead j h then none
  else match s.window j h with
    | none => none
    | some (o, e) =>
      if o ≤ s.nowFine ∧ s.nowFine < e then some ⟨j.tile, some j, s.urgent (some e), some e, (s.tileD j.tile).prio⟩ else none

/-- The candidates for head `h` before exclusion. -/
def State.cands (s : State) (cal : Bool) (h : Nat) : List Cand :=
  (List.range s.ntiles).filterMap (s.tileCand cal h) ++ s.tsc.jobList.filterMap (s.jobCand cal h)

def best (cs : List Cand) : Option Cand :=
  cs.foldl (fun m c => match m with
    | none => some c
    | some b => if c.before b then some c else some b) none

/-- The tiles that TSC grants now: calibration tiles or others; none where it makes no grant (R166; log entry 21). -/
def State.grantMode (s : State) : Option Bool :=
  if s.forceZero then none
  else if s.runMode ∧ s.fld R.GLB_MODE F.GLB_MODE_PENDING = 0 then some false
  else if s.mode = .service ∧ s.tsc.svcGo then some true
  else none

/-- Head `h` is in the set, its sequencer is in service and idle, and no registration run uses it (R389). -/
def State.requests (s : State) (h : Nat) : Bool :=
  let q := s.seq (s.seqOf h)
  s.liveHead h && s.bsqState (s.seqOf h) = 0 && (s.held h).isNone && !q.running && q.act ≠ .faulted && !(s.cal.kind = 1 && s.cal.heads.contains h)

/-! ## Grants (R33, R178, R182) -/

/-- The first tick of a grant to sequencer `n`: in the tick three after the grant, and for the first grants of a START not before
B + 1000 ns (R33). -/
def State.firstTick (s : State) (n : Nat) : Nat :=
  let b := match s.tsc.startAt with
    | some t => cdiv (t + 100) 500 + 2
    | none => 0
  max (max b (s.tick + 3)) (max (cdiv (s.seq n).cursor 1250) (s.seq n).nextTick)

/-- A tile starts at its ENTRY (R90, R124). -/
def State.freshStart (s : State) (n h first i : Nat) (args : List Word) (job : Option Nat) : Seq :=
  let q := s.seq n
  let cur := 1250 * first
  let p := q.pointAt (first - 1)
  let q := q.freeze cur
  let arch := { q.arch with pc := (s.tileD i).entry, stack := [], px := p.x, py := p.y, pz := p.z, tile := i }
  { q with running := true, head := h, act := .ready, cursor := cur, nextTick := first, begun := false, entry := (s.tileD i).entry,
           args := args, job := job, inRun := false, openAt := 0, tdx := 0, tdy := 0, tv := 0, runInDone := false, pos := p,
           colRun := ColRun.none, swb := Swb.none, firstSlot := cur, joinAt := 0, joinRamp := 0, words := 0, wordTick := 0,
           arch := arch, shape := { q.shape with wmArmed := false } }

/-- The loops of the new head take over at a detour join: K_prev from the loops of the failed head applies from the join slot, and the
first lit evaluation is a transfer; a loop in manual keeps its CEN_LMAN (R275). -/
def State.presetLoops (s : State) (g h join mask : Nat) : State :=
  (List.range 8).foldl (fun s b =>
    if !bit mask b then s
    else
      let k := (sget (fun _ => Loop.reset) (8 * g + b) s.cen.loops).k
      let p := sget (fun _ => Loop.reset) (8 * h + b) s.cen.loops
      let m := s.emitter h b
      let s := s.setEmitter h b { m with ks := ((join, if p.auto then k else p.man) :: m.ks).take 16 }
      if !p.auto then s
      else { s with cen := { s.cen with loops := sput (fun _ => Loop.reset) (8 * h + b) { p with xfer := some (some k), joined := true } s.cen.loops } }) s

/-- The tile resumes from `c`; a program fault of the approach acts as R157 gives. -/
def State.resumeFrom (s : State) (n h first : Nat) (c : Ctx) (a0 : Option Int) : State :=
  let s := { s with tsc := { s.tsc with joining := sput (fun _ => none) h (some c) s.tsc.joining } }
  match s.rejoin n h first c a0 with
  | .ok q =>
    let s := s.setSeq n q
    if (c.cause = 1 ∨ c.cause = 2) ∧ c.fromHead ≠ h then s.presetLoops c.fromHead h q.joinAt (q.attrAt q.joinAt).mask else s
  | .error e => (s.setSeq n (s.loaded n h first c)).progFault n e

/-- TSC places the waymark of a coding grant (R182). -/
def State.placeMark (s : State) (d : TileD) (sh : Int) : State :=
  let v := (s.axis d.axis).pubV
  s.wmTsc d.axis d.wm (sh + fdiv (-(v * 3)) 131072)

/-- Candidate `c` is granted to head `h` in round `round` (R178, R182, R190). -/
def State.grant (s : State) (h : Nat) (c : Cand) : State :=
  let i := c.tile
  let d := s.tileD i
  let n := s.seqOf h
  let first := s.firstTick n
  let t := s.tsc
  let act : Active := ⟨i, h, none⟩
  let s := { s with tsc := { t with
    active := t.active ++ [act], holds := sput (fun _ => none) h (some i) t.holds,
    jobs := sput (fun _ => none) h (c.job.map Job.rcd) t.jobs, grantedAt := sput (fun _ => 0) h t.round t.grantedAt,
    jobList := match c.job with
      | some j => t.jobList.filter fun x => x ≠ j
      | none => t.jobList } }
  let s := ((s.setFld (R.TSC_H_STAT h) F.TSC_H_STAT_TILE i).setFld (R.TSC_H_STAT h) F.TSC_H_STAT_RUN 1).inc R.TSC_GRANTS 1
  match c.job with
  | some j =>
    let sh := s.jobCount j h
    match j.ctx.bind s.ctx with
    | some x => s.resumeFrom n h first { x with seq := { x.seq with job := some j.rcd } } (j.minStation.map fun _ => sh)
    | none =>
      let user := BitVec.ofNat 32 (s.sramNat (prodAddr j.rcd + 4) 4)
      let args := [d.args.getD 0 0, d.args.getD 1 0, wordOf sh, user]
      (s.setSeq n (s.freshStart n h first i args (some j.rcd))).placeMark d sh
  | none =>
    let w := s.status i
    let old := fget w Ts.fHead
    let st := fget w Ts.fState
    let s := s.setStatus i (fput (if st = Ts.detour ∧ old ≠ h then fput w Ts.fDetoured 1 else w) Ts.fHead h)
    let ctx := if st = Ts.ready then none else s.tileCtx i
    let s := s.setTile i Ts.running
    match ctx with
    | some x => s.resumeFrom n h first x none
    | none => s.setSeq n (s.freshStart n h first i d.args none)

/-! ## The decision round (R169, R173 to R179, R191) -/

/-- WAITING tiles whose dependencies are met become READY (R169), and tiles whose slack falls below 0 before their grant become LATE
(R176). -/
def State.roundTiles (s : State) : State :=
  (List.range s.ntiles).foldl (fun t i =>
    let d := s.tileD i
    let st := s.tileState i
    let dep := s.tileState d.depTile
    let t := if st = Ts.waiting ∧ (!d.dt || finalState dep) ∧ (!d.de || s.posted d.depEvt) then
        (if d.dt && dep ≠ Ts.complete then t.tileFld i Ts.fDepfail 1 else t).setTile i Ts.ready
      else t
    match s.urgency d with
    | some u => if (st = Ts.waiting ∨ st = Ts.ready) ∧ u < s.nowFine then t.tileFld i Ts.fLate 1 else t
    | none => t) s

/-- The name of a candidate in `urgentSeen`: its tile, or its record beyond the tile indices. -/
def Cand.key (c : Cand) : Nat :=
  match c.job with
  | some j => 65536 + j.rcd
  | none => c.tile

/-- The candidates of class 1 on some head in the set, without those named in `not`, best first. -/
def State.urgentCands (s : State) (cal : Bool) (not : List Nat) : List Cand :=
  let act := s.activeTiles
  let all := ((List.range 24).filter s.liveHead).flatMap fun h =>
    (s.cands cal h).filter fun c => c.cls = 1 && !not.contains c.key && !act.any (s.conflict c.tile)
  all.foldl (fun l c => if l.any (fun x => x.key = c.key) then l else l.takeWhile (fun x => x.before c) ++ c :: l.dropWhile fun x => x.before c) []

/-- TSC sets T in the tile of one head for an urgent tile that went a whole round without a grant (R179). -/
def State.preempt (s : State) (cal : Bool) (idle : List Nat) (granted : List Nat) : State :=
  let urg := s.urgentCands cal granted
  let due := urg.filter fun c => s.tsc.urgentSeen.contains c.key
  let s := { s with tsc := { s.tsc with urgentSeen := urg.map Cand.key } }
  match due.find? fun c => !idle.any fun h => (s.cands cal h).any fun x => x.key = c.key with
  | none => s
  | some c =>
    if s.ctxFree < 25 then s
    else
      let prio (h : Nat) : Nat := match s.held h with
        | some i => (s.tileD i).prio
        | none => 16
      let hs := (List.range 24).filter fun h => bit (s.tileD c.tile).elig h && s.liveHead h && (s.held h).isSome && decide (prio h < c.prio)
      match hs.foldl (fun (m : Option Nat) h => match m with
          | none => some h
          | some g => if prio h ≤ prio g then some h else some g) none with
      | none => s
      | some h =>
        let q := s.seq (s.seqOf h)
        s.setSeq (s.seqOf h) { q with arch := { q.arch with ft := true } }

/-- No progress is possible without the host: every live head is idle, nothing is active, and no tile can be granted (R191). -/
def State.stuckNow (s : State) (cal : Bool) : Bool :=
  (List.range 24).all (fun h => !s.liveHead h || (s.requests h && (s.cands cal h).isEmpty)) && s.tsc.jobList.isEmpty &&
    (List.range 24).all (fun h => (s.held h).isNone) &&
    (List.range s.ntiles).any (fun i => !finalState (s.tileState i) && s.tileState i ≠ Ts.template) &&
    !(List.range s.ntiles).any fun i =>
      s.tileState i = Ts.waiting && (!(s.tileD i).dt || finalState (s.tileState (s.tileD i).depTile)) &&
        (!(s.tileD i).de || s.posted (s.tileD i).depEvt)

/-- The choice of head `h`: the best candidate, and whether the head waits on exclusion only. -/
def State.choice (s : State) (cal : Bool) (h : Nat) : Option Cand × Bool :=
  let act := s.activeTiles
  let cs := s.cands cal h
  let free := cs.filter fun c => !act.any (s.conflict c.tile)
  (best free, free.isEmpty && !cs.isEmpty)

/-- One decision round (R176, R177). -/
def State.round (s : State) : State :=
  let s := s.roundTiles
  let s := { s with tsc := { s.tsc with round := s.tsc.round + 1 } }
  match s.grantMode with
  | none => s
  | some cal =>
    let idle := (List.range 24).filter s.requests
    let ch := idle.map fun h => (h, s.choice cal h)
    let waits := (ch.filter fun p => p.2.2).length
    let s := if waits = 0 then s else s.inc R.TSC_EXCLWAIT waits
    let s := if s.stuckNow cal then s.setFld R.TSC_STAT F.TSC_STAT_STUCK 1 else s
    let go (acc : State × List Cand) (p : Nat × Option Cand × Bool) : State × List Cand :=
      match p.2.1 with
      | none => acc
      | some c =>
        if acc.2.any fun k => k.key = c.key || s.conflict c.tile k.tile || (c.job.isSome && k.job.isSome && k.tile = c.tile) then
          (acc.1.inc R.TSC_RACES 1, acc.2)
        else (acc.1.grant p.1 c, acc.2 ++ [c])
    let (s, kept) := ch.foldl go (s, [])
    let s := s.preempt cal (idle.filter fun h => (s.held h).isNone) (kept.map Cand.key)
    { s with tsc := { s.tsc with startAt := none } }

/-! ## The guard (R184, R185) -/

/-- Head `g` fired in tick `k` or within LINGER ticks before it. -/
def State.firedLately (s : State) (g k : Nat) : Bool :=
  let f := sget (fun _ => 0) g s.tsc.firedTick
  f ≠ 0 && decide (k + 1 ≤ f + s.fld R.TSC_CFG F.TSC_CFG_LINGER)

/-- The guard box of head `g`: the zone of its tile about its actual point; none where it did not fire lately or its tile takes no part. -/
def State.guardBox (s : State) (g k : Nat) : Option Bounds :=
  let i := s.fld (R.TSC_H_STAT g) F.TSC_H_STAT_TILE
  let d := s.tileD i
  if d.noexcl ∨ !s.firedLately g k then none
  else (s.actual g).map fun p => s.zone d ⟨p.x, p.y, p.x, p.y⟩

/-- The resume record kept beside a head that stops at slot `x` and goes on with the same tile: no detour begins, and one that has not
joined yet keeps its record (R185, R193). -/
def State.holdCtx (s : State) (h x : Nat) : Ctx :=
  let q := s.seq (s.seqOf h)
  match sget (fun _ => none) h s.tsc.joining with
  | some c => if x < q.joinAt ∨ q.guarded then c else s.cutHead h x 5 0
  | none => s.cutHead h x 5 0

/-- From tick `k` head `h` stops: gates zero, and the Stop and Wait phases of Table 5-4 from the point at the end of tick k − 1. -/
def State.guardStop (s : State) (h k : Nat) (act : Activity) : State :=
  let n := s.seqOf h
  let q := s.seq n
  let x := 1250 * k
  let c := s.holdCtx h x
  let ps := q.pointAt (k - 1)
  let (dx, dy, v) : Int × Int × Nat := match q.spanAt x with
    | some (_, sp) => if sp.kind = .motion ∨ sp.kind = .runIn then
        let u := Span.tangent { sp with tick0 := sp.tick0 + (x - sp.start) / 1250 }
        (u.1, u.2, if u.1 = 0 ∧ u.2 = 0 then 0 else sp.speed)
      else (0, 0, 0)
    | none => (0, 0, 0)
  let w : Swb := ⟨ps, dx, dy, v, 0, 0, 0, s.fld R.TSC_JOIN_ACC F.TSC_JOIN_ACC_ACC⟩
  let spans := (q.spans.filter fun sp => decide (sp.start < x)).map fun sp =>
    { sp with len := min sp.len (x - sp.start), closeAt := min sp.closeAt x }
  let dots := (q.dots.filter fun d => decide (d.first < x)).map fun d => { d with last := min d.last x }
  let q' := { q with spans := spans, dots := dots, cursor := x, pos := ps, inRun := false, runInDone := false, colRun := ColRun.none }
  let t := s.tsc
  let s := s.setFld (R.BSQ_SWB n) F.BSQ_SWB_PHASE 0
  let s := { s with tsc := { t with joining := sput (fun _ => none) h (some c) t.joining, clear := sput (fun _ => 0) h 0 t.clear,
                                    stopTicks := sput (fun _ => 0) h 0 t.stopTicks } }
  s.setSeq n (q'.swbStopPhase w act 0)

/-- The guard acts on head `y` (R184). -/
def State.guardActs (s : State) (y k : Nat) : State :=
  let s := (s.inc R.TSC_GUARDCNT 1).setFld R.TSC_STAT F.TSC_STAT_GUARD 1
  match s.held y with
  | none => s
  | some i =>
    let s := s.tileFld i Ts.fGuarded 1
    let q := s.seq (s.seqOf y)
    if q.running ∧ !q.guarded then s.guardStop y k .guardStop else s

/-- The head of a violating pair that yields: the one whose tile was granted later (R184). -/
def State.yields (s : State) (g h : Nat) : Nat :=
  if (s.held g).isNone then h
  else if (s.held h).isNone then g
  else
    let rg := sget (fun _ => 0) g s.tsc.grantedAt
    let rh := sget (fun _ => 0) h s.tsc.grantedAt
    if rg = rh then max g h else if rg < rh then h else g

/-- Whether point `p` of head `h` lies in the guard box of another head. -/
def State.inBox (s : State) (h k : Nat) (p : Pt) : Bool :=
  (List.range 24).any fun g => g ≠ h && match s.guardBox g k with
    | some b => b.has p
    | none => false

/-- The guard check at the boundary of tick `n` (R184, R185): what fired in tick n − 1, then the violations of tick n + 2, then the clear
ticks of the stops in progress. -/
def State.guardCheck (s : State) : State :=
  let n := s.tick
  let s := (List.range 24).foldl (fun s h =>
    if n ≠ 0 ∧ (s.seq (s.seqOf h)).head = h ∧ (s.seq (s.seqOf h)).firesIn (n - 1) then
      { s with tsc := { s.tsc with firedTick := sput (fun _ => 0) h n s.tsc.firedTick } } else s) s
  let s := (List.range 24).foldl (fun s h =>
    let q := s.seq (s.seqOf h)
    if q.running ∧ (q.act = .guardStop ∨ q.act = .guardWait) then
      let t := s.tsc
      let c := if s.inBox h (n - 1) q.swb.ps then 0 else sget (fun _ => 0) h t.clear + 1
      { s with tsc := { t with clear := sput (fun _ => 0) h c t.clear,
                               stopTicks := sput (fun _ => 0) h (sget (fun _ => 0) h t.stopTicks + 1) t.stopTicks } }
    else s) s
  let pairs := (List.range 24).flatMap fun g => match s.guardBox g (n - 1) with
    | none => []
    | some b => (List.range 24).filterMap fun h =>
        let q := s.seq (s.seqOf h)
        match s.held h, s.actual h with
        | some i, some p => if g ≠ h ∧ !(s.tileD i).noexcl ∧ q.running ∧ q.head = h ∧ q.firesIn (n + 2) ∧ b.has p then some (g, h) else none
        | _, _ => none
  pairs.foldl (fun s' p => s'.guardActs (s.yields p.1 p.2) (n + 2)) s

/-! ## The commands -/

/-- GRANT_ROUND (R173, R176): one decision round. -/
def execGrantRound (ns : Nat) (s : State) : Res State := done ((s.arrive ns).round)

/-- LINGER_EXPIRY (R172): a closed tile has stayed in the active set for LINGER ticks. -/
def execLingerExpiry (tile : Nat) (s : State) : Res State :=
  let gone (a : Active) : Bool := a.tile = tile && match a.until_ with
    | some k => decide (k ≤ s.tick)
    | none => false
  done { s with tsc := { s.tsc with active := s.tsc.active.filter fun a => !gone a } }

/-- CODING_WINDOW_CLOSE (R183): the window of the job of record `r` has closed on its last eligible head. -/
def execCodingWindowClose (r ns : Nat) (s : State) : Res State :=
  let s := s.arrive ns
  done (match s.tsc.jobList.find? fun j => j.rcd = r with
    | none => s
    | some j =>
      let closed (h : Nat) : Bool := match s.window j h with
        | some (_, e) => decide (e ≤ s.nowFine)
        | none => false
      if (List.range 24).all fun h => !s.jobHead j h || closed h then
        let s := { s with tsc := { s.tsc with jobList := s.tsc.jobList.filter fun x => x ≠ j } }
        ((s.freeCtxOf j.tile (some r)).prodFlag r 1).inc R.TSC_TWMISS 1
      else s)

/-- GUARD_CLEAR (R185): no violation against P_s for GUARD_CLR + 1 ticks; the head rejoins. -/
def execGuardClear (h : Nat) (s : State) : Res State :=
  let n := s.seqOf h
  let q := s.seq n
  done (match sget (fun _ => none) h s.tsc.joining with
    | none => s
    | some c =>
      if 24 ≤ h ∨ !q.running ∨ !(q.act = .guardStop ∨ q.act = .guardWait) ∨ !q.planDone ∨
          sget (fun _ => 0) h s.tsc.clear < s.fld R.TSC_CFG F.TSC_CFG_GUARD_CLR + 1 then s
      else
        let s := s.resumeFrom n h (max q.nextTick (cdiv q.cursor 1250)) c none
        match c.job with
        | some r => if (s.seq n).colRun.next = c.seq.colRun.next then s else s.prodFlag r 1
        | none => s)

/-- GUARD_TIMEOUT (R185): the guard stop has lasted GUARD_TMO + 1 ticks, and the tile leaves the head. -/
def execGuardTimeout (h : Nat) (s : State) : Res State :=
  let q := s.seq (s.seqOf h)
  done (if 24 ≤ h ∨ !q.running ∨ !(q.act = .guardStop ∨ q.act = .guardWait) ∨
      sget (fun _ => 0) h s.tsc.stopTicks < s.fld R.TSC_CFG2 F.TSC_CFG2_GUARD_TMO + 1 then s
    else ((s.setFld R.TSC_STAT F.TSC_STAT_GUARD_TMO 1).detourTile h (1250 * q.nextTick) 2 0).parkTiles)

/-- A write of TSC_HEAD_REMOVE (Table 6-7, cause 4). -/
def State.headRemoveWrite (s : State) (v : Word) : State :=
  (List.range 24).foldl (fun s h => if bit v.toNat h then s.removeHead h 4 else s) s

/-- HEAD_REMOVE. -/
def execHeadRemove (v : Word) (ns : Nat) (s : State) : Res State := hostOp s fun s => (s.arrive ns).headRemoveWrite v

/-- PARKED tiles that a head of the set could take become DETOUR again (R192). -/
def State.unpark (s : State) (h : Nat) : State :=
  (List.range 64).foldl (fun s k =>
    match s.ctx k with
    | none => s
    | some c =>
      if c.job = none ∧ s.tileState c.tile = Ts.parked ∧ bit (s.tileD c.tile).elig h ∧ s.approachFits c h then s.setTile c.tile Ts.detour
      else s) s

/-- Head `h` returns to the eligible set, or is refused (R192). A lane in service holds an authenticated head (Table 8-9). -/
def State.restoreHead (s : State) (h : Nat) : State :=
  if !s.inService h then s.setFld R.TSC_STAT F.TSC_STAT_RESTORE_REJ 1
  else
    let s := s.setFld R.TSC_HEADS F.TSC_HEADS_LIVE (setBit (s.fld R.TSC_HEADS F.TSC_HEADS_LIVE) h true)
    (s.setFld (R.TSC_H_STAT h) F.TSC_H_STAT_LIVE 1).unpark h

/-- A write of TSC_HEAD_RESTORE. -/
def State.headRestoreWrite (s : State) (v : Word) : State :=
  (List.range 24).foldl (fun s h => if bit v.toNat h then s.restoreHead h else s) s

/-- HEAD_RESTORE. -/
def execHeadRestore (v : Word) (s : State) : Res State := hostOp s fun s => s.headRestoreWrite v

/-- DETOUR_JOIN (R188, R193): the stream of head `h` has reached its join slot. -/
def execDetourJoin (h ns : Nat) (s : State) : Res State :=
  let s := s.arrive ns
  let q := s.seq (s.seqOf h)
  done (if q.running && !q.guarded && decide (2 * q.joinAt ≤ 5 * s.now) then s.joined h else s)

/-- A write of TSC_EVT_POST (R169). -/
def State.evtPostWrite (s : State) (v : Word) : State :=
  if fget v F.TSC_EVT_POST_GO = 1 then s.postEvent (fget v F.TSC_EVT_POST_EVT) else s

/-- EVENT_POST. -/
def execEventPost (v : Word) (s : State) : Res State := hostOp s fun s => s.evtPostWrite v

/-- A write of TSC_SVC (R166). -/
def State.svcWrite (s : State) (v : Word) : State :=
  if fget v F.TSC_SVC_GO = 1 ∧ s.mode = .service then { s with tsc := { s.tsc with svcGo := true } } else s

/-- CALIBRATION_GO. -/
def execCalibrationGo (v : Word) (s : State) : Res State := hostOp s fun s => s.svcWrite v

end Sys2Proof.Machine
end

