-- ==== Sys2Proof/Machine/Control.lean ====
section
/-! DEFINITION. Melt-pool loops and control engines (chapter 09, and the control class of chapter 04): the evaluation, the control
instructions, transfers, auxiliary loops, and the trace. -/

namespace Sys2Proof.Machine

/-! ## The control area (Tables 9-4 and 9-5) -/

/-- The live half of the control area and the shadow of set 3 (R269). -/
def State.ctlLive (s : State) : Nat := if s.fld R.CEN_STAT F.CEN_STAT_SHADOW = 1 then 0x2700000 else 0x2780000
def State.ctlShadow (s : State) : Nat := if s.fld R.CEN_STAT F.CEN_STAT_SHADOW = 1 then 0x2780000 else 0x2700000

/-- A loop entry. -/
structure LoopD where
  prog : Nat
  bgs : Bool
  en : Bool
  src0 : Nat
  src1 : Nat
  dest : Nat
  eng : Nat
  grp : Nat
  div : Nat
  reserved : Bool                    -- a reserved bit is 1
  deriving DecidableEq, Repr

/-- The entry of loop `l` in the half at `base`. -/
def State.loopD (s : State) (base l : Nat) : LoopD :=
  let n := s.sramNat (base + 0x20000 + 16 * l) 16
  let w (byte bits : Nat) : Nat := n / 2 ^ (8 * byte) % 2 ^ bits
  let aux := decide (192 ≤ l)
  { prog := w 0 6, bgs := bit n 6, en := bit n 7, src0 := w 1 8, src1 := w 2 8, dest := w 3 8, eng := w 4 4, grp := w 4 8 / 16 % 8,
    div := w 6 16,
    reserved := w 5 8 ≠ 0 || w 8 64 ≠ 0 || bit n 39 || (!aux && (w 1 24 ≠ 0 || w 4 8 ≠ 0 || w 6 16 ≠ 0)) }

/-- The live gain sets. -/
def State.gsCount (s : State) : Nat := s.lfld R.CEN_GSCOUNT F.CEN_GSCOUNT_COUNT

/-- Word at offset `o` of gain set `g` in the live half. -/
def State.gain (s : State) (g o : Nat) : Word := BitVec.ofNat 32 (s.sramNat (s.ctlLive + 0x10000 + 0x100 * g + o) 4)

/-- Limit pair `p` of gain set `g`. -/
def State.limits (s : State) (g p : Nat) : Int × Int := (intOf (s.gain g (0x48 + 8 * p)), intOf (s.gain g (0x4C + 8 * p)))

def State.loop (s : State) (l : Nat) : Loop := sget (fun _ => Loop.reset) l s.cen.loops
def State.setLoop (s : State) (l : Nat) (v : Loop) : State :=
  { s with cen := { s.cen with loops := sput (fun _ => Loop.reset) l v s.cen.loops } }

/-- The engine that runs loop `l` (R255, R277). -/
def State.engOf (s : State) (l : Nat) : Nat := if l < 192 then l / 16 else (s.loopD s.ctlLive l).eng

/-- Engine `e` is in reset, or held failed: its slots and windows are idle (R276, R417). -/
def State.engIdle (s : State) (e : Nat) : Bool :=
  s.fld (R.CEN_CE_STAT e) F.CEN_CE_STAT_RESETTING = 1

/-- The gain set that index `g` selects, with the count of a substitution (R268). -/
def State.gainSet (s : State) (e g : Nat) : Nat × State := if g < s.gsCount then (g, s) else (0, s.inc (R.CEN_CE_IDXMISS e) 1)

/-! ## Control programs (R122) -/

/-- The instructions that a load check lets a control program hold. -/
def ctlOp (op : Nat) : Bool := sharedOp op || controlOp op

/-- One word of the check: `reach` holds the words that a path reaches, `n` counts the instructions met. `len` is the program's words. -/
def ctlWord (word : Nat → Nat) (len : Nat) (acc : Bool × List Nat × Nat) (pc : Nat) : Bool × List Nat × Nat :=
  let (ok, reach, n) := acc
  if !ok ∨ !reach.contains pc then acc
  else
    let b := word pc
    let x := bits b 9 8
    let i : Iw := ⟨b, if 1 ≤ x then word (pc + 1) else 0, if 2 ≤ x then word (pc + 2) else 0, if 3 ≤ x then word (pc + 3) else 0⟩
    let off := sgn 32 i.hi
    let jump := i.op = 0x20 || i.op = 0x21
    let targets := if i.op = 0x01 then [] else (if i.op = 0x20 then [] else [pc + i.len]) ++ (if jump then [((pc : Int) + off).toNat] else [])
    let good := ctlOp i.op && layoutOk i && !(i.op = 0x21 && decide (13 ≤ bits i.base 19 16)) && !(jump && decide (off ≤ 0)) &&
      targets.all (fun t => decide (t < len)) && decide (pc + i.len ≤ len)
    (good, reach ++ targets, n + 1)

/-- A control program of `len` words passes the rules of R122. -/
def ctlProgOk (word : Nat → Nat) (len : Nat) : Bool :=
  let r := (List.range len).foldl (ctlWord word len) (true, [0], 0)
  r.1 && decide (0 < len) && decide (r.2.2 ≤ 48)

/-! ## The trace (R279 to R282) -/

/-- One entry is written at WPTR, unless the recording has ended or its quarter is still being copied. -/
def State.traceEntry (s : State) (bs : List Byte) : State :=
  let w := s.fld R.CEN_TRC_WPTR F.CEN_TRC_WPTR_INDEX
  let trig := s.fld R.CEN_TRC_STAT F.CEN_TRC_STAT_TRIGGERED = 1
  if trig ∧ s.trc.post = 0 then s
  else if s.trc.copying.contains (w / 65536) then s.inc R.CEN_TRC_SPILLDROP 1
  else
    let s := s.sramPut (0x2800000 + 16 * w) bs
    let w := (w + 1) % 262144
    let s := s.wr R.CEN_TRC_WPTR (BitVec.ofNat 32 w)
    let s := if w = 0 then s.setFld R.CEN_TRC_STAT F.CEN_TRC_STAT_WRAPPED 1 else s
    let t := s.trc
    { s with trc := { t with count := t.count + 1, post := if trig then t.post - 1 else t.post,
                             copying := if t.mode = 2 ∧ w % 65536 = 0 then t.copying ++ [(w + 262143) % 262144 / 65536] else t.copying } }

/-- The entries of an evaluation of loop `l` in round `n` with instant `t` (ns) and K written `k` (R279, R280). -/
def State.traceTaps (s : State) (l n t : Nat) (dark auto xfer : Bool) (gset : Nat) (k : Word) (taps : List (Nat × Word × Bool)) : State :=
  let lo := s.fld R.CEN_TRC_SEL F.CEN_TRC_SEL_LO
  let hi := s.fld R.CEN_TRC_SEL F.CEN_TRC_SEL_HI
  let dec := s.fld R.CEN_TRC_CFG F.CEN_TRC_CFG_DEC
  if s.fld R.CEN_TRC_STAT F.CEN_TRC_STAT_RUN = 0 ∨ l < lo ∨ hi < l ∨ n % (dec + 1) ≠ 0 then s
  else (taps.take 3).foldl (fun s p =>
    if !bit (s.fld R.CEN_TRC_SEL F.CEN_TRC_SEL_CHMASK) p.1 then s
    else s.traceEntry (leBytes (t % 1000000000) 4 ++ leBytes l 1 ++
      leBytes (p.1 % 16 + 16 * b2n dark + 32 * b2n auto + 64 * b2n xfer + 128 * b2n p.2.2) 1 ++ leBytes gset 1 ++
      leBytes (t / 1000000000) 1 ++ leBytes p.2.1.toNat 4 ++ leBytes k.toNat 4)) s

/-! ## The control instructions (R121, R262 to R267) -/

/-- A 64-bit saturated sum. -/
def sat64 (x : Int) : Int := satI 64 x

/-- Q16.16 of an integer operand. -/
def q16 (n : Nat) : Word := BitVec.ofNat 32 (n * 65536)

/-- The value of register code `c` (Tables 4-18 and 9-3). Codes 27 to 31 name nothing: a free value (log entry 23). -/
def State.creg (s : State) (e : Eval) (c : Nat) : Word :=
  if c < 16 then e.g.getD c 0
  else match c with
    | 16 => e.pd0
    | 17 => e.pd1
    | 18 => s.gain e.gset 0
    | 19 => e.speed
    | 20 => q16 e.region
    | 21 => BitVec.ofNat 32 (if e.dark then 0 else e.level)
    | 22 => BitVec.ofNat 32 e.idrv
    | 23 => e.intg
    | 24 => q16 e.gset
    | 25 => q16 e.loop
    | 26 => (s.loop e.loop).k
    | _ => Config.freeWord s.free

/-- A destination: only g0 to g15 are written (log entry 23). -/
def Eval.put (e : Eval) (c : Nat) (v : Word) : Eval := if c < 16 then { e with g := e.g.set c v } else e

/-- The second operand of a register-format instruction. -/
def State.copB (s : State) (e : Eval) (i : Iw) : Word := if i.md 10 then BitVec.ofNat 32 i.hi else s.creg e i.gb

/-- A clamp with the C flag it gives. -/
def clampC (p : Int × Int) (x : Int) : Int × Bool :=
  let v := min (max x p.1) p.2
  (v, v ≠ x)

/-- The band of R266: the thresholds that the slot's speed reaches. -/
def State.band (s : State) (umps : Nat) : Nat :=
  ((List.range 7).filter fun i =>
    let t := (s.lv (R.CEN_SPDBAND i)).toNat
    t = 0 || (t ≠ 0xFFFFFFFF && decide (t ≤ umps))).length

/-- A CLP or INT that clamped triggers the trace for loop TLOOP (R282). -/
def State.limitTrigger (s : State) (l : Nat) (c : Bool) : State :=
  if c ∧ s.fld R.CEN_TRC_CFG F.CEN_TRC_CFG_TLOOP = l then s.traceTrigger 3 else s

/-- MAC (R262): the exact product, accumulated and saturated. -/
def State.macOp (s : State) (ce : Nat) (e : Eval) (i : Iw) : State × Eval :=
  let c := if i.md 11 then BitVec.ofNat 32 (bits i.w1 31 0) else s.gain e.gset (8 + 4 * bits i.base 27 24)
  let x := (if i.md 10 then 0 else e.acc) + intOf (s.creg e i.gd) * intOf c
  (if sat64 x = x then s else s.inc (R.CEN_CE_ACCSAT ce) 1, { e with acc := sat64 x })

/-- CLP (R263). -/
def State.clpOp (s : State) (e : Eval) (i : Iw) : State × Eval :=
  let v : Int := if i.md 10 then satI 32 (fdiv (e.acc + 0x8000) 65536) else intOf (s.creg e i.ga)
  let (r, c) := clampC (s.limits e.gset (bits i.base 30 28)) v
  (s.limitTrigger e.loop c, { e.put i.gd (wordOf r) with fc := c, limited := c })

/-- INT (R264). -/
def State.intOp (s : State) (e : Eval) (i : Iw) : State × Eval :=
  let p := bits i.base 30 28
  if i.md 10 ∨ e.dark then (s, { e with fc := false, pair := p })
  else
    let k := intOf (s.gain e.gset (8 + 4 * bits i.base 27 24))
    let (r, c) := clampC (s.limits e.gset p) (intOf e.intg + fdiv (k * intOf (s.creg e i.gd) + 0x8000) 65536)
    (s.limitTrigger e.loop c, { e with intg := wordOf r, fc := c, pair := p })

/-- PRE (R265). -/
def State.preOp (s : State) (e : Eval) (i : Iw) : State × Eval :=
  let (r, c) := clampC (s.limits e.gset (bits i.base 30 28)) (intOf (s.creg e i.gd))
  (s, { e with intg := wordOf r, fc := c })

/-- SCH (R266, R268). -/
def State.schOp (s : State) (ce : Nat) (e : Eval) (i : Iw) : State × Eval :=
  let g := bits i.base 23 16 + (if i.md 10 then e.region else 0) + (if i.md 11 then 16 * s.band e.umps else 0)
  let (g, s) := s.gainSet ce g
  (s, { e with gset := g })

/-- OUT (R267). -/
def State.outOp (s : State) (e : Eval) (i : Iw) : State × Eval := (s, { e with held := some (s.creg e i.gd) })

/-- TRC (R267): the first three of an evaluation are kept, further ones counted. -/
def State.trcOp (s : State) (ce : Nat) (e : Eval) (i : Iw) : State × Eval :=
  if 3 ≤ e.taps.length then (s.inc (R.CEN_CE_TRCDROP ce) 1, e)
  else (s, { e with taps := e.taps ++ [(bits i.base 27 24, s.creg e i.gd, e.fc)] })

/-- An arithmetic or shift instruction of the shared set (R101). -/
def State.caluOp (s : State) (e : Eval) (i : Iw) : State × Eval :=
  let r := alu i.op (i.md 11) e.fc (s.creg e i.ga) (s.copB e i)
  let e := e.put i.gd r.val
  (s, if i.md 12 then e else { e with fz := r.z, fn := r.n, fc := r.c })

/-- The instruction at the evaluation's PC; none where the program ends. -/
def State.ctlFetch (s : State) (e : Eval) : Option Iw :=
  let base := s.ctlLive + 0x400 * (s.loopD s.ctlLive e.loop).prog
  let word (k : Nat) : Nat := s.sramNat (base + 8 * k) 8
  if e.ended ∨ 128 ≤ e.pc ∨ 48 ≤ e.issued then none
  else
    let b := word e.pc
    let x := bits b 9 8
    if 128 < e.pc + 1 + x then none
    else
      let i : Iw := ⟨b, if 1 ≤ x then word (e.pc + 1) else 0, if 2 ≤ x then word (e.pc + 2) else 0, if 3 ≤ x then word (e.pc + 3) else 0⟩
      if ctlOp i.op && layoutOk i then some i else none

/-- Instruction `i` of an evaluation on engine `ce`. -/
def State.ctlIssue (s : State) (ce : Nat) (e : Eval) (i : Iw) : State × Eval :=
  let op := i.op
  let next (e : Eval) : Eval := { e with pc := e.pc + i.len, issued := e.issued + 1 }
  let jump (e : Eval) : Eval := { e with pc := ((e.pc : Int) + sgn 32 i.hi).toNat, issued := e.issued + 1 }
  let go (r : State × Eval) : State × Eval := (r.1, next r.2)
  if op = 0x00 then (s, next e)
  else if op = 0x01 then (s, { e with ended := true, issued := e.issued + 1 })
  else if op = 0x08 then (s, next (e.put i.gd (BitVec.ofNat 32 i.hi)))
  else if op = 0x17 then
    let r := aluCmp (s.creg e i.ga) (s.copB e i)
    (s, next { e with fz := r.z, fn := r.n, fc := r.c })
  else if 0x10 ≤ op ∧ op ≤ 0x16 then go (s.caluOp e i)
  else if op = 0x20 then (s, jump e)
  else if op = 0x21 then (s, if condHolds (bits i.base 19 16) e.fz e.fn e.fc e.fw e.ft then jump e else next e)
  else if op = 0x80 then go (s.macOp ce e i)
  else if op = 0x81 then go (s.clpOp e i)
  else if op = 0x82 then go (s.intOp e i)
  else if op = 0x83 then go (s.preOp e i)
  else if op = 0x84 then go (s.schOp ce e i)
  else if op = 0x85 then go (s.outOp e i)
  else if op = 0x86 then go (s.trcOp ce e i)
  else (s, { e with ended := true })

/-- The program runs to HLT. -/
def State.ctlRun (ce : Nat) : Nat → State × Eval → State × Eval
  | 0, r => r
  | k + 1, r =>
    match r.1.ctlFetch r.2 with
    | none => r
    | some i => State.ctlRun ce k (r.1.ctlIssue ce r.2 i)

/-! ## An evaluation (R257 to R260, R273 to R275) -/

/-- The sample slot of slot `j` of the round that starts at `r` ns (R257). -/
def sampleSlot (r j : Nat) : Nat := (10 * r + 625 * j - 6000) / 4

/-- The speed of the motion that produces slot `x`, in µm/s (Table 9-3). -/
def Seq.speedAt (q : Seq) (x : Nat) : Nat :=
  match q.spanAt x with
  | some (_, sp) => if tickKind sp.kind then sp.speed else 0
  | none => 0

/-- Ld of Table 7-1 for beamlet `b` of head `h` at slot `x`, and whether its gate is 1 after stage 8. -/
def State.litLevel (s : State) (h b x : Nat) : Nat × Bool :=
  let q := s.seq (s.seqOf h)
  let (g, lf, a) := q.intent b x
  let masked := bit (s.fld (R.BLD_H_FMASK h) F.BLD_H_FMASK_BEAMLETS) b && decide ((s.emitter h b).maskAt ≤ x / 1250)
  let lc := s.curveOut h (a.curves / 2 ^ (4 * b) % 16) (q.stageLevel a x)
  (min 65535 ((lc * lf + 0x4000) / 32768), g && !masked && s.shareOpen h b x)

/-- A valid sample of channel `c` of head `h` for tick `k`. -/
def State.sample (s : State) (h c k : Nat) : Option Nat :=
  ((sget (fun _ => []) (16 * h + c) s.cen.pds).find? fun p => p.1 = k % 256).map (·.2)

def State.dropSamples (s : State) (h c : Nat) : State :=
  { s with cen := { s.cen with pds := sput (fun _ => []) (16 * h + c) [] s.cen.pds } }

/-- What an evaluation starts with besides its operands: the loop's state, and ACC and flags that nothing has written (log entry 23). -/
def State.newEval (s : State) (l slot round gset : Nat) : Eval :=
  let p := s.loop l
  let f := (Config.freeWord s.free).toNat
  { loop := l, slot := slot, round := round, pc := 0, issued := 0, g := p.g,
    acc := sgn 64 ((Config.freeWord (s.free + 1)).toNat + (Config.freeWord (s.free + 2)).toNat * 2 ^ 32),
    fz := bit f 0, fn := bit f 1, fc := bit f 2, fw := bit f 3, ft := bit f 4, intg := p.intg, gset := gset, pair := 0, held := none,
    limited := false, taps := [], dark := false, ended := false, pd0 := 0, pd1 := 0, speed := 0, region := 0, level := 0, idrv := 0, umps := 0 }

/-- Slot l mod 16 of the present round is served for melt-pool loop `l`: nothing where it is idle, a miss, or an evaluation that begins
(R258, R260). -/
def State.beginEval (s : State) (l : Nat) : State :=
  let h := l / 8
  let b := l % 8
  let ce := l / 16
  let n := s.now / 1000
  let p := s.loop l
  let d := s.loopD s.ctlLive l
  if n + 1 ≤ p.round then s
  else
    let s := s.setLoop l { p with round := n + 1, stat := fput p.stat F.CEN_LSTAT_ACTIVE 0 }
    if !d.en ∨ !s.inService h ∨ s.engIdle ce then s
    else
      let x := sampleSlot (1000 * n) (l % 16)
      let v0 := s.sample h (2 * b) (x / 1250)
      let v1 := s.sample h (2 * b + 1) (x / 1250)
      let s := (s.dropSamples h (2 * b)).dropSamples h (2 * b + 1)
      match v0, v1 with
      | some v0, some v1 =>
        let (gset, s) := s.gainSet ce p.gset
        let (ld, gate) := s.litLevel h b x
        let q := s.seq (s.seqOf h)
        let v := q.speedAt x
        let e := { s.newEval l x n gset with
          dark := !gate || s.forceZero, pd0 := BitVec.ofNat 32 v0, pd1 := BitVec.ofNat 32 v1, umps := v,
          speed := BitVec.ofNat 32 ((v * 131072 + 1000000) / 2000000), region := (q.attrAt x).region, level := ld,
          idrv := (s.emitter h b).idrv }
        let s := { s.draw.draw.draw with cen := { s.cen with evals := sput (fun _ => none) ce (some e) s.cen.evals } }
        s.setLoop l { s.loop l with missRun := 0 }
      | _, _ =>
        let s := s.inc (R.CEN_CE_MISS ce) 1
        s.setLoop l { s.loop l with missRun := p.missRun + 1 }

/-- The K that an evaluation writes, with what a transfer does to the integrator: K, INTG, whether a transfer was made, and whether its
clamp acted (R273, R274). -/
def State.evalK (s : State) (e : Eval) : Word × Word × Bool × Bool :=
  let p := s.loop e.loop
  let d := s.loopD s.ctlLive e.loop
  let due := if d.bgs ∧ e.gset ≠ p.gset ∧ p.xfer.isNone then some none else p.xfer
  if !p.auto then (p.man, e.intg, false, false)
  else match e.held with
    | none => (p.k, e.intg, false, false)
    | some y =>
      match due with
      | none => (y, e.intg, false, false)
      | some w =>
        if e.dark then (y, e.intg, false, false)
        else
          let kp := intOf (w.getD p.k)
          let (r, c) := clampC (s.limits e.gset e.pair) (intOf e.intg + (kp - intOf y))
          (wordOf (satI 32 (intOf y + (r - intOf e.intg))), wordOf (satI 32 r), true, c)

/-- The end of an evaluation (R258 cycles 50 to 55): K chosen, loop state written back, trace entries written, K handed on. `t` is the
instant that the trace shows, in ns. -/
def State.endEval (s : State) (ce : Nat) (e : Eval) (t : Nat) : State :=
  let p := s.loop e.loop
  let d := s.loopD s.ctlLive e.loop
  let (k, intg, moved, clamped) := s.evalK e
  let due := if d.bgs ∧ e.gset ≠ p.gset ∧ p.xfer.isNone then some none else p.xfer
  let st := fput (fput (fput (fput (fput p.stat F.CEN_LSTAT_GSET e.gset) F.CEN_LSTAT_MISSING 0) F.CEN_LSTAT_LIMITED (b2n e.limited))
    F.CEN_LSTAT_DARK (b2n e.dark)) F.CEN_LSTAT_ACTIVE 1
  let st := if moved then fput st F.CEN_LSTAT_XFER 1 else st
  let st := if clamped then fput st F.CEN_LSTAT_BPCLAMP 1 else st
  let keep := p.joined && !moved && p.auto
  let p' := { p with g := e.g, intg := intg, gset := e.gset, k := k, man := if p.auto && p.track then k else p.man, stat := st,
                     xfer := if moved then none else due, joined := p.joined && !moved }
  let s := s.setLoop e.loop p'
  let s := if moved then s.inc (R.CEN_CE_XFER ce) 1 else s
  let s := s.traceTaps e.loop e.round t e.dark p.auto moved e.gset k e.taps
  if e.loop < 192 then
    let h := e.loop / 8
    let b := e.loop % 8
    let m := s.emitter h b
    if keep then s else s.setEmitter h b { m with ks := ((e.slot + 3750, k) :: m.ks).take 16 }
  else
    let k' := d.dest - 1
    if 1 ≤ d.dest ∧ d.dest ≤ 8 ∧ s.fld (R.AXF_AO_CFG k') F.AXF_AO_CFG_EN = 1 then
      let node := s.fld (R.AXF_AO_CFG k') F.AXF_AO_CFG_NODE
      s.sendQuiet (node / 16) (node % 16) Mk.evt [BitVec.ofNat 32 (1 + 256 * k'), k, BitVec.ofNat 32 ((t + 135) % 1000000000), 0]
    else s

/-- The evaluation in progress on engine `ce`, if any. -/
def State.evalOf (s : State) (ce : Nat) : Option Eval := sget (fun _ => none) ce s.cen.evals

def State.setEval (s : State) (ce : Nat) (e : Option Eval) : State :=
  { s with cen := { s.cen with evals := sput (fun _ => none) ce e s.cen.evals } }

/-- The evaluation in progress on engine `ce` runs to its end. -/
def State.finishEval (s : State) (ce : Nat) : State :=
  match s.evalOf ce with
  | none => s
  | some e =>
    let (s, e) := State.ctlRun ce 48 (s, e)
    (s.setEval ce none).endEval ce e (e.slot * 2 / 5)

/-- What a row of opcode `op` does on engine `ce`: the evaluation due in the present slot begins where none is in progress, and its next
instruction issues where it has that opcode. -/
def State.ctlRow (s : State) (op ce : Nat) : State :=
  let s := match s.evalOf ce with
    | some _ => s
    | none => s.beginEval (16 * ce + s.now % 1000 * 2 / 125)
  match s.evalOf ce with
  | none => s
  | some e =>
    match s.ctlFetch e with
    | none => s
    | some i =>
      if i.op ≠ op then s
      else
        let (s, e) := s.ctlIssue ce e i
        s.setEval ce (some e)

/-! ## The commands -/

/-- PDS_RECEIVE (R233, R260): a PDS block of head lane `n` with its TICK[7:0]; each entry is VALUE, CH, PHASE and V as Table 8-7 lays them
out. -/
def execPdsReceive (n tick : Nat) (entries : List Word) (s : State) : Res State :=
  if 24 ≤ n ∨ !s.inService n then done s
  else done (entries.foldl (fun s w =>
    let v := w.toNat
    let c := v / 65536 % 16
    if !bit v 31 then s
    else if v / 1048576 % 2048 ≠ phaseOf (c / 2) then s.inc (R.CEN_CE_PHERR (n / 2)) 1
    else
      let key := 16 * n + c
      let q := ((tick % 256, v % 65536) :: sget (fun _ => []) key s.cen.pds).take 4
      { s with cen := { s.cen with pds := sput (fun _ => []) key q s.cen.pds } }) s)

/-- LOOP_EVALUATION (R258): loop `l` in its slot of the present round. -/
def execLoopEvaluation (l ns : Nat) (s : State) : Res State :=
  let s := s.arrive ns
  let ce := l / 16
  if 192 ≤ l then done s
  else
    let s := match s.evalOf ce with
      | some e => if e.loop = l then s else s.finishEval ce
      | none => s
    let s := match s.evalOf ce with
      | some _ => s
      | none => s.beginEval l
    done (s.finishEval ce)

/-- The source of an operand of an auxiliary loop (Table 9-7). -/
def State.auxSource (s : State) (c : Nat) : Word :=
  if 1 ≤ c ∧ c ≤ 8 then wordOf (s.axis (c - 1)).pubV
  else if 9 ≤ c ∧ c ≤ 16 then s.rd (R.AXF_AI (c - 9))
  else 0

/-- AUX_LOOP_EVALUATION (R277, R278): auxiliary loop `l` in a round in which it is due. -/
def execAuxLoopEvaluation (l ns : Nat) (s : State) : Res State :=
  let s := s.arrive ns
  let d := s.loopD s.ctlLive l
  let n := s.now / 1000
  let p := s.loop l
  if l < 192 ∨ 208 ≤ l ∨ n % (d.div + 1) ≠ 0 ∨ n + 1 ≤ p.round then done s
  else
    let s := s.setLoop l { p with round := n + 1, stat := fput p.stat F.CEN_LSTAT_ACTIVE 0 }
    if !d.en ∨ s.engIdle d.eng then done s
    else
      let (gset, s) := s.gainSet d.eng p.gset
      let e := { s.newEval l 0 n gset with pd0 := s.auxSource d.src0, pd1 := s.auxSource d.src1 }
      let (s, e) := State.ctlRun d.eng 48 (s.draw.draw.draw, e)
      done (s.endEval d.eng e s.now)

/-- LOOP_MISSLIM (R261): MISSLIM + 1 consecutive evaluations were missing. -/
def execLoopMisslim (l : Nat) (s : State) : Res State :=
  let p := s.loop l
  if 192 ≤ l ∨ p.missRun < s.fld R.CEN_CFG F.CEN_CFG_MISSLIM + 1 ∨ fget p.stat F.CEN_LSTAT_MISSING = 1 then done s
  else
    let s := s.setLoop l { p with k := 0x10000, stat := fput p.stat F.CEN_LSTAT_MISSING 1, xfer := some (some 0x10000), joined := false,
                                  man := if p.auto && p.track then 0x10000 else p.man }
    let m := s.emitter (l / 8) (l % 8)
    let x := sampleSlot (1000 * (p.round - 1)) (l % 16) + 3750
    done ((s.setEmitter (l / 8) (l % 8) { m with ks := ((x, 0x10000) :: m.ks).take 16 }).setFld (R.CEN_CE_STAT (l / 16)) F.CEN_CE_STAT_MISSING 1)

/-- A write of CEN_LCTL for loop `l` (R273, R274). -/
def State.lctlWrite (s : State) (l : Nat) (v : Word) : State :=
  if 208 ≤ l then s
  else
    let p := s.loop l
    let auto := fget v F.CEN_LCTL_AUTO = 1
    s.setLoop l { p with auto := auto, track := fget v F.CEN_LCTL_MAN_TRACK = 1,
                         xfer := if auto && !p.auto then some (some p.man) else p.xfer }

/-- LOOP_AUTO_WRITE: a write of CEN_LCTL, for the loop that CEN_LIDX addresses. -/
def execLoopAutoWrite (v : Word) (s : State) : Res State := hostOp s fun s => s.lctlWrite (s.fld R.CEN_LIDX F.CEN_LIDX_LOOP) v

/-- The state of a loop cleared, its next evaluation a transfer from the K in force (R272, R276). -/
def Loop.cleared (p : Loop) : Loop := { p with g := List.replicate 16 0, intg := 0, gset := 0, xfer := some none, joined := false }

/-- ENGINE_RESET_END (R276): engine `e` has been in reset for at most two rounds. -/
def execEngineResetEnd (e : Nat) (s : State) : Res State :=
  if 12 ≤ e ∨ s.fld (R.CEN_CE_STAT e) F.CEN_CE_STAT_RESETTING = 0 then done s
  else
    let s := (s.setFld (R.CEN_CE_STAT e) F.CEN_CE_STAT_RESETTING 0).setEval e none
    done ((List.range 208).foldl (fun s l => if s.engOf l = e ∧ (l < 192 ∨ (s.loopD s.ctlLive l).en) then s.setLoop l (s.loop l).cleared else s) s)

/-! ### Trace -/

/-- A write of CEN_TRC_CTL.ARM (R281). -/
def State.traceArm (s : State) : State :=
  let mode := s.fld R.CEN_TRC_CFG F.CEN_TRC_CFG_MODE
  let size := s.fld R.CEN_TRC_SPILL F.CEN_TRC_SPILL_SIZE
  let ofs := s.fld R.CEN_TRC_SPILL F.CEN_TRC_SPILL_OFS
  if mode = 0 ∨ mode = 3 then s
  else if mode = 2 ∧ (size = 0 ∨ (s.dramRegion 4).2 < (ofs + size) * 2 ^ 20) then s.setFld R.CEN_TRC_STAT F.CEN_TRC_STAT_CFG_ERR 1
  else
    let s := s.wr R.CEN_TRC_WPTR 0
    let w := fput (fput (fput (fput (s.rd R.CEN_TRC_STAT) F.CEN_TRC_STAT_WRAPPED 0) F.CEN_TRC_STAT_DONE 0) F.CEN_TRC_STAT_TRIGGERED 0)
      F.CEN_TRC_STAT_RUN 1
    { s.wr R.CEN_TRC_STAT w with trc := { mode := mode, post := 0, count := 0, copying := [], spill := 0 } }

/-- A write of CEN_TRC_CTL: a trigger in the same cycle as ARM is ignored, and STOP clears RUN (R281, R282). -/
def State.trcCtlWrite (s : State) (v : Word) : State :=
  let arm := fget v F.CEN_TRC_CTL_ARM = 1
  let s := if arm then s.traceArm else s
  let s := if fget v F.CEN_TRC_CTL_TRIGGER = 1 ∧ !arm then s.traceHit else s
  if fget v F.CEN_TRC_CTL_STOP = 1 then s.setFld R.CEN_TRC_STAT F.CEN_TRC_STAT_RUN 0 else s

/-- TRACE_ARM: a write of CEN_TRC_CTL with ARM = 1. -/
def execTraceArm (v : Word) (s : State) : Res State := hostOp s fun s => if fget v F.CEN_TRC_CTL_ARM = 1 then s.trcCtlWrite v else s

/-- TRACE_STOP: a write of CEN_TRC_CTL with STOP = 1. -/
def execTraceStop (v : Word) (s : State) : Res State := hostOp s fun s => if fget v F.CEN_TRC_CTL_STOP = 1 then s.trcCtlWrite v else s

/-- TRACE_TRIGGER: a write of CEN_TRC_CTL with TRIGGER = 1. The other trigger sources act in the commands that raise them. -/
def execTraceTrigger (v : Word) (s : State) : Res State := hostOp s fun s => if fget v F.CEN_TRC_CTL_TRIGGER = 1 then s.trcCtlWrite v else s

/-- TRACE_POST_DONE (R282): the entries after the trigger are written. -/
def execTracePostDone (s : State) : Res State :=
  if s.fld R.CEN_TRC_STAT F.CEN_TRC_STAT_RUN = 1 ∧ s.fld R.CEN_TRC_STAT F.CEN_TRC_STAT_TRIGGERED = 1 ∧ s.trc.post = 0 then
    done ((s.setFld R.CEN_TRC_STAT F.CEN_TRC_STAT_RUN 0).setFld R.CEN_TRC_STAT F.CEN_TRC_STAT_DONE 1)
  else done s

/-- TRACE_SPILL_COPY_DONE (R281): the oldest quarter under copy is in the spill ring. -/
def execTraceSpillCopyDone (s : State) : Res State :=
  match s.trc.copying with
  | [] => done s
  | q :: t =>
    let size := s.fld R.CEN_TRC_SPILL F.CEN_TRC_SPILL_SIZE
    let ofs := s.fld R.CEN_TRC_SPILL F.CEN_TRC_SPILL_OFS
    let s := s.dramPut ((s.dramRegion 4).1 + ofs * 2 ^ 20 + s.trc.spill) (s.sramBytes (0x2800000 + 0x100000 * q) 0x100000)
    done { s with trc := { s.trc with copying := t, spill := if size = 0 then 0 else (s.trc.spill + 2 ^ 20) % (size * 2 ^ 20) } }

end Sys2Proof.Machine
end

