-- ==== Sys2Proof/Machine/Tanoran.lean ====
section
/-! DEFINITION. The rows of the Tanoran instructions (chapters 04, 05 and 09). `unit` is a unit number of Table 16-2: a beam sequencer
BSQn or a control engine CEe. The row's instruction issues on that unit where it is the one at its PC; a beam sequencer that may not issue,
or whose PC holds another opcode, is left as it is. -/

namespace Sys2Proof.Machine

/-- The control engine that unit `unit` of Table 16-2 is, if it is one. -/
def ceUnit (unit : Nat) : Option Nat := if 0x400 ≤ unit ∧ unit < 0x40C then some (unit - 0x400) else none

/-- The instruction row of opcode `op` on unit `unit`. -/
def State.tanoran (s : State) (op unit : Nat) : State :=
  match bsqUnit unit, ceUnit unit with
  | some n, _ => s.beamRow op n
  | none, some e => s.ctlRow op e
  | none, none => s

/-- LDI (R100). LDI writes an immediate value to a register. -/
def execLdi (unit : Nat) (s : State) : Res State := done (s.tanoran 0x08 unit)

/-- LD (R102). LD loads a 32-bit word from scratch or the program windows. -/
def execLd (unit : Nat) (s : State) : Res State := done (s.tanoran 0x09 unit)

/-- ST (R102). ST stores a register to a scratch word. -/
def execSt (unit : Nat) (s : State) : Res State := done (s.tanoran 0x0A unit)

/-- ADD (R101). ADD adds two operands modulo 2^32 and sets the flags. -/
def execAdd (unit : Nat) (s : State) : Res State := done (s.tanoran 0x10 unit)

/-- SUB (R101). SUB subtracts two operands modulo 2^32 and sets the flags. -/
def execSub (unit : Nat) (s : State) : Res State := done (s.tanoran 0x11 unit)

/-- AND (R101). AND forms the bitwise AND of two operands. -/
def execAnd (unit : Nat) (s : State) : Res State := done (s.tanoran 0x12 unit)

/-- ORR (R101). ORR forms the bitwise OR of two operands. -/
def execOrr (unit : Nat) (s : State) : Res State := done (s.tanoran 0x13 unit)

/-- XOR (R101). XOR forms the bitwise exclusive OR of two operands. -/
def execXor (unit : Nat) (s : State) : Res State := done (s.tanoran 0x14 unit)

/-- SHL (R101). SHL shifts left by the low six bits of its second operand. -/
def execShl (unit : Nat) (s : State) : Res State := done (s.tanoran 0x15 unit)

/-- SHR (R101). SHR shifts right, logically or arithmetically. -/
def execShr (unit : Nat) (s : State) : Res State := done (s.tanoran 0x16 unit)

/-- CMP (R92). CMP compares two operands and sets Z, N and C. -/
def execCmp (unit : Nat) (s : State) : Res State := done (s.tanoran 0x17 unit)

/-- BR (R103). BR branches to PC + OFFSET. -/
def execBr (unit : Nat) (s : State) : Res State := done (s.tanoran 0x20 unit)

/-- BRC (R103). BRC branches when its condition holds. -/
def execBrc (unit : Nat) (s : State) : Res State := done (s.tanoran 0x21 unit)

/-- CAL (R103). CAL pushes the return address and branches. -/
def execCal (unit : Nat) (s : State) : Res State := done (s.tanoran 0x22 unit)

/-- RET (R103). RET pops the return stack. -/
def execRet (unit : Nat) (s : State) : Res State := done (s.tanoran 0x23 unit)

/-- LOP (R103). LOP decrements a counter and branches while it is nonzero. -/
def execLop (unit : Nat) (s : State) : Res State := done (s.tanoran 0x24 unit)

/-- HLT (R158). HLT closes the tile as halted, or ends a control program. -/
def execHlt (unit : Nat) (s : State) : Res State := done (s.tanoran 0x01 unit)

/-- JMP (R104). JMP moves to a target at JSPEED with the gates zero. -/
def execJmp (unit : Nat) (s : State) : Res State := done (s.tanoran 0x30 unit)

/-- MRK (R104). MRK moves to a target at SPEED while firing. -/
def execMrk (unit : Nat) (s : State) : Res State := done (s.tanoran 0x31 unit)

/-- ARC (R106). ARC moves on a circle about a centre while firing. -/
def execArc (unit : Nat) (s : State) : Res State := done (s.tanoran 0x32 unit)

/-- CUB (R107). CUB moves along a cubic Bezier curve while firing. -/
def execCub (unit : Nat) (s : State) : Res State := done (s.tanoran 0x33 unit)

/-- DWL (R108). DWL holds position for COUNT slots, firing or dark. -/
def execDwl (unit : Nat) (s : State) : Res State := done (s.tanoran 0x34 unit)

/-- PWR (R109). PWR applies level, mask and region from the next slot produced. -/
def execPwr (unit : Nat) (s : State) : Res State := done (s.tanoran 0x38 unit)

/-- RMP (R110). RMP starts a linear fade of the level towards TARGET over TIME slots. -/
def execRmp (unit : Nat) (s : State) : Res State := done (s.tanoran 0x39 unit)

/-- CRV (R111). CRV selects a level curve for the beamlets in CMASK. -/
def execCrv (unit : Nat) (s : State) : Res State := done (s.tanoran 0x3A unit)

/-- DLY (R112). DLY sets one of the five delays. -/
def execDly (unit : Nat) (s : State) : Res State := done (s.tanoran 0x3C unit)

/-- SKY (R112). SKY enables or disables skywriting and sets its parameters. -/
def execSky (unit : Nat) (s : State) : Res State := done (s.tanoran 0x3D unit)

/-- BRS (R113). BRS marks parallel brush passes with feeds between them. -/
def execBrs (unit : Nat) (s : State) : Res State := done (s.tanoran 0x40 unit)

/-- COL (R114). COL fires columns of the active column frame buffer. -/
def execCol (unit : Nat) (s : State) : Res State := done (s.tanoran 0x41 unit)

/-- WPM (R115). WPM arms a waymark and waits for it to fire. -/
def execWpm (unit : Nat) (s : State) : Res State := done (s.tanoran 0x48 unit)

/-- WTM (R116). WTM waits a number of ticks or until an absolute time. -/
def execWtm (unit : Nat) (s : State) : Res State := done (s.tanoran 0x49 unit)

/-- BAR (R117). BAR waits until COUNT tiles have reached the same barrier, then releases them aligned to the tick. -/
def execBar (unit : Nat) (s : State) : Res State := done (s.tanoran 0x4A unit)

/-- SIG (R118). SIG posts an event to TSC and may raise a host interrupt. -/
def execSig (unit : Nat) (s : State) : Res State := done (s.tanoran 0x4B unit)

/-- TIL (R119). TIL marks tile BEGIN, END or YIELD. -/
def execTil (unit : Nat) (s : State) : Res State := done (s.tanoran 0x50 unit)

/-- QRC (R120). QRC appends a quality record to the quality stream. -/
def execQrc (unit : Nat) (s : State) : Res State := done (s.tanoran 0x58 unit)

/-- MAC (R262). MAC multiplies and accumulates into ACC. -/
def execMac (unit : Nat) (s : State) : Res State := done (s.tanoran 0x80 unit)

/-- CLP (R263). CLP clamps a value to a limit pair. -/
def execClp (unit : Nat) (s : State) : Res State := done (s.tanoran 0x81 unit)

/-- INT (R264). INT adds the integral term to INTG, clamped. -/
def execInt (unit : Nat) (s : State) : Res State := done (s.tanoran 0x82 unit)

/-- PRE (R265). PRE presets the integrator, clamped. -/
def execPre (unit : Nat) (s : State) : Res State := done (s.tanoran 0x83 unit)

/-- SCH (R266). SCH selects a gain set by region and speed band. -/
def execSch (unit : Nat) (s : State) : Res State := done (s.tanoran 0x84 unit)

/-- OUT (R267). OUT holds a value as the evaluation's K. -/
def execOut (unit : Nat) (s : State) : Res State := done (s.tanoran 0x85 unit)

/-- TRC (R267). TRC queues a value for a trace channel. -/
def execTrc (unit : Nat) (s : State) : Res State := done (s.tanoran 0x86 unit)

end Sys2Proof.Machine
end

