-- ==== Sys2Proof/Machine/Camera.lean ====
section
/-! DEFINITION. The camera pipelines CAM0 to CAM3 (chapter 12, R337 to R355). -/

namespace Sys2Proof.Machine

def State.camFld (s : State) (c : Nat) (f : Fld) : Nat := s.fld (R.CAM_CFG c) f
def State.camOn (s : State) (c : Nat) : Bool := decide (c < 4) && s.camFld c F.CAM_CFG_EN = 1
def State.headCam (s : State) (c : Nat) : Bool := s.camFld c F.CAM_CFG_SRC = 1

/-! ## Sources (R337) -/

/-- Whether an enabled pipeline other than `c` has the same source. -/
def State.camShared (s : State) (c : Nat) (w : Word) : Bool :=
  let same (f : Fld) (d : Nat) : Bool := fget w f = s.camFld d f
  (List.range 4).any fun d => d ≠ c && s.camOn d && same F.CAM_CFG_SRC d &&
    (if fget w F.CAM_CFG_SRC = 0 then same F.CAM_CFG_PORT d else same F.CAM_CFG_HEAD d)

/-- The cases in which EN = 1 fails (R337). -/
def State.camRefused (s : State) (c : Nat) (w : Word) : Bool :=
  let h := fget w F.CAM_CFG_HEAD
  s.camShared c w ||
    (fget w F.CAM_CFG_SRC = 1 && (s.role h ≠ 0 || !bit (s.rd (R.LN_CAP h 2)).toNat 13))

/-- CAMTRGn takes its inactive level. -/
def State.camPin (s : State) (c : Nat) (on : Bool) : State :=
  s.emit (.pin 2 (s.camFld c F.CAM_CFG_PORT) (on != (s.camFld c F.CAM_CFG_TPOL = 1)) s.now)

def State.camPinOff (s : State) (c : Nat) : State :=
  let m := s.cam c
  if m.active then (s.setCam c { m with active := false, pulses := [] }).camPin c false
  else s.setCam c { m with pulses := [] }

/-- A write of CAMc_CFG (R5, R337). A pipeline that is disabled closes its frame as SHORT and drops the triggers whose instant has not
come (Table 12-4, R342; log entry 24). -/
def State.camCfgWrite (s : State) (c : Nat) (v : Word) : State :=
  if 4 ≤ c then s
  else if !s.unlocked then s.lockviol
  else
    let keep := fmask F.CAM_CFG_TAPMODE ||| fmask F.CAM_CFG_TPOL ||| fmask F.CAM_CFG_HPOL ||| fmask F.CAM_CFG_VPOL |||
      fmask F.CAM_CFG_PCLKNEG ||| fmask F.CAM_CFG_SYNC ||| fmask F.CAM_CFG_HEAD ||| fmask F.CAM_CFG_PORT ||| fmask F.CAM_CFG_SRC |||
      fmask F.CAM_CFG_EN
    let w := v &&& keep
    let bad := fget w F.CAM_CFG_EN = 1 && s.camRefused c w
    let w := if bad then fput w F.CAM_CFG_EN 0 else w
    let s := if fget w F.CAM_CFG_EN = 0 && s.camOn c then
        let s := (s.camClose c true).camPinOff c
        s.setCam c { s.cam c with due := [], compares := [] }
      else s
    let s := s.wr (R.CAM_CFG c) w
    if bad then s.setFld (R.CAM_STAT c) F.CAM_STAT_CFG_ERR 1 else s

/-- CAM_ENABLE (R337). -/
def execCamEnable (c : Nat) (v : Word) (s : State) : Res State := hostOp s fun s => s.camCfgWrite c v

/-! ## Triggers (R340 to R343) -/

/-- A write of CAMc_SNAP (Table 12-2). -/
def State.camSnapWrite (s : State) (c : Nat) (v : Word) : State :=
  if fget v F.CAM_SNAP_SNAP = 1 ∧ s.camOn c ∧ s.lfld (R.CAM_TRIG c) F.CAM_TRIG_SRC = 0 then
    s.camDecide c 0 0 (slotAfter (s.now * 65536) + s.lfld (R.CAM_TDLY c) F.CAM_TDLY_TDLY)
  else s

/-- CAM_SNAP (R341). -/
def execCamSnap (c : Nat) (v : Word) (ns : Nat) (s : State) : Res State := hostOp s fun s => (s.arrive ns).camSnapWrite c v

/-- The periodic triggers of tick boundary `k` (Table 12-2, SRC 1). -/
def State.camPeriodic (s : State) (k : Nat) : State :=
  (List.range 4).foldl (fun s c =>
    let per := (s.lv (R.CAM_PER c)).toNat
    if s.camOn c ∧ s.lfld (R.CAM_TRIG c) F.CAM_TRIG_SRC = 1 ∧ per ≠ 0 ∧ k % per = 0 then
      s.camDecide c 1 (k % 2 ^ 32) (1250 * k + s.lfld (R.CAM_TDLY c) F.CAM_TDLY_TDLY)
    else s) s

/-- The words of the exposure set that a trigger of slot `x` uses: those of a snapshot that goes live at a boundary not after it, else the
live ones (R344). -/
def State.camSetAt (s : State) (c x : Nat) : List Word :=
  let due := s.pend.find? fun p =>
    p.sets.contains (30 + c) && p.notReady.isEmpty && decide (1250 * (s.tick + 1) ≤ x) && decide (cdiv p.earliest 500 * 1250 ≤ x)
  (camSetRegs c).map fun r => match due with
    | some p => ((p.regs.find? fun y => y.1 = r).map Prod.snd).getD (s.lv r)
    | none => s.lv r

/-- CAM_TRIGGER (R340, R342): the earliest trigger decided acts. A port camera's pin goes active at its instant; a head camera gets its
message at once. -/
def execCamTrigger (c ns : Nat) (s : State) : Res State :=
  let s := s.arrive ns
  if !s.camOn c then done s
  else
    let m := s.cam c
    match m.due.find? fun t => m.due.all fun u => decide (t.at_ ≤ u.at_) with
    | none => done s
    | some t =>
      let t := { t with set := s.camSetAt c t.at_ }
      let rest := m.due.filter fun u => u.at_ ≠ t.at_
      let exp := fget (t.set.getD 4 0) F.CAM_EXP_EXP
      if s.headCam c then
        let h := s.camFld c F.CAM_CFG_HEAD
        let s := s.setCam c { m with due := rest, await := m.await ++ [t] }
        let at96 := ts96 (t.at_ * 2 / 5) + t.at_ * 2 % 5 * 65536 / 5
        if talks (s.laneState h) then
          done (s.sendMsg h 0 Mk.cmd 0x20 1 ([0, 32, 64].map (fun k => BitVec.ofNat 32 (at96 / 2 ^ k)) ++
            [BitVec.ofNat 32 (exp + 2 ^ 16 * t.tag)]) (.camera c t.tag))
        else done s
      else if s.now * 5 < t.at_ * 2 then done s
      else
        let s := s.setCam c { m with due := rest, await := m.await ++ [t], pulses := m.pulses ++ [(t.at_, t.at_ + 250 * exp)],
                                     active := true }
        done (if m.active then s else s.camPin c true)

/-- CAM_TRIGGER_PULSE_END (R342): no pulse of CAMTRGn is left. -/
def execCamTriggerPulseEnd (c ns : Nat) (s : State) : Res State :=
  let s := s.arrive ns
  let m := s.cam c
  if m.active && m.pulses.all fun p => decide (p.2 * 2 ≤ s.now * 5) then done (s.camPinOff c) else done s

/-- CAM_TRIGGER_WITHDRAW (R343): triggers that met no frame start within 100 ms of their instants. -/
def execCamTriggerWithdraw (c ns : Nat) (s : State) : Res State :=
  let s := s.arrive ns
  let m := s.cam c
  let gone (t : CamTrig) : Bool := decide (t.at_ + 250000000 ≤ s.now * 5 / 2)
  let n := (m.await.filter gone).length
  if n = 0 then done s else done ((s.setCam c { m with await := m.await.filter fun t => !gone t }).inc (R.CAM_TRGMISS c) n)

/-! ## Frames (R343 to R346) -/

/-- The tap slot of a frame that starts, while taps are due (R349). A frame too large for the area is not tapped (log entry 24). -/
def State.camTapPlace (s : State) (c : Nat) (w h : Nat) : Option Nat × State :=
  let m := s.cam c
  if m.taps = 0 then (none, s)
  else
    let k := tapPages w h
    let size := 256 * s.fld (R.CAM_TAPCFG c) F.CAM_TAPCFG_SIZE
    let p := if m.page + k ≤ size then m.page else 0
    let s := s.setCam c { m with taps := m.taps - 1 }
    if size < k then (none, s)
    else
      let next := if p + 2 * k ≤ size then p + k else 0
      (some p, (s.setCam c { s.cam c with page := next }).wr (R.CAM_TAPWP c) (BitVec.ofNat 32 next))

/-- A frame of pipeline `c` starts; `pick` finds its trigger among those that await frames (R343, R346). -/
def State.camStart (s : State) (c : Nat) (pick : CamTrig → Bool) : State :=
  let s := s.camClose c false
  let num := (s.fld (R.CAM_FNUM c) F.CAM_FNUM_FNUM + 1) % 2 ^ 32
  let s := s.wr (R.CAM_FNUM c) (BitVec.ofNat 32 num)
  let m := s.cam c
  let trig := m.await.find? pick
  let set := match trig with
    | some t => t.set
    | none => (camSetRegs c).map s.lv
  let f : CamFrame :=
    { num := num, trig := trig, set := set, lines := 0, nextLine := 0, openLine := none, segs := [], flags := 0, startAt := s.now,
      closeTs := 0, tap := none, tapLost := [] }
  let (tap, s) := s.camTapPlace c f.width f.height
  let await := match trig with
    | some t => m.await.filter fun u => u.at_ ≠ t.at_
    | none => m.await
  let s := s.setCam c { s.cam c with await := await, frame := some { f with tap := tap } }
  if trig.isNone then (s.camMark c Cf.untrig).inc (R.CAM_UNTRIG c) 1 else s

/-- CAM_FRAME_START (R346): VSYNC of a port camera becomes active. A head camera's frames start in CAM_BLOCK_RECEIVE. -/
def execCamFrameStart (c ns : Nat) (s : State) : Res State :=
  let s := s.arrive ns
  if !s.camOn c || s.headCam c then done s
  else done (s.camStart c fun t => decide (t.at_ * 2 < s.now * 5))

/-- Pixels of line `y` from pixel `x0` on enter the frame in progress, with the discards of Table 12-4; `lost` tells that the tap could
not write the line in time. -/
def State.camPixels (s : State) (c y x0 : Nat) (px : List Nat) (lost : Bool) : State :=
  match (s.cam c).frame with
  | none => s
  | some f =>
    if f.height ≤ y then
      if bit f.flags Cf.long then s else (s.camMark c Cf.long).inc (R.CAM_LONGCNT c) 1
    else
      let keep := (px.take (f.width - x0)).map fun p => p % 2 ^ f.fld 0 F.CAM_ESET_BITS
      let f' := { f with segs := f.segs ++ [(y, x0, keep)], lines := if f.segs.any (fun g => g.1 = y) then f.lines else f.lines + 1 }
      let s := s.setCam c { s.cam c with frame := some f' }
      let s := if f.width < x0 + px.length then s.camMark c Cf.lineErr else s
      if lost && f.tap.isSome && !f.tapLost.contains y then
        let s := (s.camMark c Cf.tapInc).inc (R.CAM_TAPDROP c) 1
        match (s.cam c).frame with
        | some g => s.setCam c { s.cam c with frame := some { g with tapLost := g.tapLost ++ [y] } }
        | none => s
      else s

/-- CAM_LINE_END (R338, R346): a line of a port camera ends with its pixels. -/
def execCamLineEnd (c : Nat) (px : List Nat) (lost : Bool) (ns : Nat) (s : State) : Res State :=
  let s := s.arrive ns
  if !s.camOn c || s.headCam c then done s
  else match (s.cam c).frame with
    | none => done s
    | some f =>
      let y := f.nextLine
      let s := s.setCam c { s.cam c with frame := some { f with nextLine := y + 1 } }
      let s := s.camPixels c y 0 px lost
      done (if f.height ≤ y then s else s.camJudge c px.length)

/-- The line order of a head camera: a line other than the one in progress or the next one makes a DROP (Table 12-4). -/
def State.camLine (s : State) (c line : Nat) : State :=
  match (s.cam c).frame with
  | none => s
  | some f =>
    if f.openLine = some line then s
    else
      let s := match f.openLine with
        | some y => s.camJudge c (f.got y)
        | none => s
      let s := if line = f.nextLine then s else (s.camMark c Cf.drop).camMark c Cf.incomplete
      match (s.cam c).frame with
      | some f => s.setCam c { s.cam c with frame := some { f with nextLine := line + 1,
                                                                   openLine := if line < f.height then some line else none } }
      | none => s

/-- CAM_BLOCK_RECEIVE (R339, R346): a CAM block of lane `n` with its pixels. -/
def execCamBlockReceive (n line : Nat) (fs fe drop : Bool) (tag seg : Nat) (px : List Nat) (lost : Bool) (ns : Nat) (s : State) :
    Res State :=
  let s := s.arrive ns
  match (List.range 4).find? fun c => s.camOn c && s.headCam c && s.camFld c F.CAM_CFG_HEAD = n && s.inService n with
  | none => done s
  | some c =>
    let s := if fs then s.camStart c fun t => t.tag = tag else s
    let s := if drop then (s.camMark c Cf.drop).camMark c Cf.incomplete else s
    let s := (s.camLine c line).camPixels c line (1024 * seg) px lost
    done (if fe then s.camClose c false else s)

/-- CAM_FRAME_CLOSE (R346): VSYNC of a port camera becomes inactive. -/
def execCamFrameClose (c ns : Nat) (s : State) : Res State :=
  let s := s.arrive ns
  if !s.camOn c || s.headCam c then done s else done (s.camClose c false)

/-- CAM_FRAME_TIMEOUT (Table 12-4): no pixel came for 100 ms after the start. -/
def execCamFrameTimeout (c ns : Nat) (s : State) : Res State :=
  let s := s.arrive ns
  match (s.cam c).frame with
  | none => done s
  | some f =>
    if f.startAt + 100000000 ≤ s.now ∧ f.segs.all (fun g => g.2.2.isEmpty) then done ((s.camMark c Cf.timeout).camClose c true) else done s

/-! ## Statistics (R351 to R355) -/

/-- The corrected pixels of a frame: column, line, value. -/
def CamFrame.pixels (m : CamFrame) : List (Nat × Nat × Nat) :=
  m.segs.flatMap fun g => (List.range g.2.2.length).map fun i => (g.2.1 + i, g.1, m.correct (g.2.2.getD i 0))

/-- Sums saturate at their width of `n` bytes (R9, R353). -/
def satBytes (v n : Nat) : List Byte := leBytes (min v (2 ^ (8 * n) - 1)) n

def histogram (px : List (Nat × Nat × Nat)) : List Byte :=
  (List.range 256).flatMap fun b => satBytes (px.filter fun p => p.2.2 / 256 = b).length 4

/-- The pixels of ROI `r`, with coordinates from its X0 and Y0. -/
def CamFrame.roi (m : CamFrame) (r : Nat) : List (Nat × Nat × Nat) :=
  let x (f : Fld) : Nat := m.fld (8 + 2 * r) f
  let y (f : Fld) : Nat := m.fld (9 + 2 * r) f
  (m.pixels.filter fun p => decide (x F.CAM_ROI_X_X0 ≤ p.1) && decide (p.1 ≤ x F.CAM_ROI_X_X1) &&
    decide (y F.CAM_ROI_Y_Y0 ≤ p.2.1) && decide (p.2.1 ≤ y F.CAM_ROI_Y_Y1)).map fun p =>
      (p.1 - x F.CAM_ROI_X_X0, p.2.1 - y F.CAM_ROI_Y_Y0, p.2.2)

def maxPc (px : List (Nat × Nat × Nat)) : Nat := px.foldl (fun v p => max v p.2.2) 0

/-- The first position of the peak in line order. -/
def peakAt (px : List (Nat × Nat × Nat)) : Nat × Nat :=
  let v := maxPc px
  match px.filter fun p => p.2.2 = v with
  | [] => (0, 0)
  | p :: t => t.foldl (fun a q => if q.2.1 < a.2 ∨ (q.2.1 = a.2 ∧ q.1 < a.1) then (q.1, q.2.1) else a) (p.1, p.2.1)

/-- The melt-pool block of one ROI (Table 12-7). `free` gives PEAK, PKX and PKY of a ROI that received no pixel, which the manual leaves
open (log entry 5). -/
def CamFrame.roiBlock (m : CamFrame) (r free : Nat) : List Byte :=
  if m.fld (8 + 2 * r) F.CAM_ROI_X_EN = 0 then List.replicate 64 0
  else
    let px := m.roi r
    let lo := px.filter fun p => decide (m.fld 7 F.CAM_THR_THLO ≤ p.2.2)
    let sum (g : Nat → Nat → Nat) : Nat := lo.foldl (fun v p => v + g p.1 p.2.1 * p.2.2) 0
    let pk := peakAt px
    let open_ (k v : Nat) : Nat := if px.isEmpty then (Config.freeWord (free + k)).toNat else v
    satBytes lo.length 4 ++ satBytes (sum fun _ _ => 1) 8 ++ satBytes (sum fun x _ => x) 8 ++ satBytes (sum fun _ y => y) 8 ++
      satBytes (sum fun x _ => x * x) 8 ++ satBytes (sum fun _ y => y * y) 8 ++ satBytes (sum fun x y => x * y) 8 ++
      leBytes (open_ 0 (maxPc px)) 2 ++ leBytes (open_ 1 pk.1) 2 ++ leBytes (open_ 2 pk.2) 2 ++
      satBytes (px.filter fun p => decide (m.fld 7 F.CAM_THR_THHI ≤ p.2.2)).length 2 ++ leBytes 0 4

/-- Position `v` of an extent `e` lies in part `i` of `n` (R354). -/
def inPart (e n i v : Nat) : Bool := decide (i * e / n ≤ v) && decide (v < (i + 1) * e / n)

def CamFrame.extent (m : CamFrame) (rows : Bool) : Nat :=
  if rows then m.fld 9 F.CAM_ROI_Y_Y1 + 1 - m.fld 9 F.CAM_ROI_Y_Y0 else m.fld 8 F.CAM_ROI_X_X1 + 1 - m.fld 8 F.CAM_ROI_X_X0

/-- The block of band `i` (R354). -/
def CamFrame.band (m : CamFrame) (px : List (Nat × Nat × Nat)) (i : Nat) : List Byte :=
  let rows := m.fld 16 F.CAM_GRID_BANDDIR = 1
  let mine := px.filter fun p => inPart (m.extent rows) (m.fld 16 F.CAM_GRID_NBAND) i (if rows then p.2.1 else p.1)
  satBytes (mine.foldl (fun v p => v + p.2.2) 0) 8 ++
    satBytes (mine.filter fun p => decide (p.2.2 < m.fld 7 F.CAM_THR_THLO)).length 4 ++
    satBytes (mine.filter fun p => decide (m.fld 7 F.CAM_THR_THHI < p.2.2)).length 4

/-- The mean of cell (i, j), or 0xFFFF where it received no pixel (R355). -/
def CamFrame.cell (m : CamFrame) (px : List (Nat × Nat × Nat)) (i j : Nat) : List Byte :=
  let mine := px.filter fun p => inPart (m.extent false) (m.fld 16 F.CAM_GRID_NX) i p.1 &&
    inPart (m.extent true) (m.fld 16 F.CAM_GRID_NY) j p.2.1
  let n := mine.length
  leBytes (if n = 0 then 0xFFFF else (2 * mine.foldl (fun v p => v + p.2.2) 0 + n) / (2 * n)) 2

/-- The body of a record from byte 1088 on (R353 to R355). The smallest and largest Pc of a ROI0 without pixels are open (log entry 5). -/
def CamFrame.body (m : CamFrame) (free : Nat) : List Byte :=
  let kind := m.fld 0 F.CAM_ESET_KIND
  if kind = 2 then
    let px := m.roi 0
    (List.range (m.fld 16 F.CAM_GRID_NBAND)).flatMap fun i => m.band px i
  else if kind = 1 ∧ m.fld 0 F.CAM_ESET_CODE = 1 then
    let px := m.roi 0
    let nx := m.fld 16 F.CAM_GRID_NX
    let cells := (List.range (nx * m.fld 16 F.CAM_GRID_NY)).flatMap fun k => m.cell px (k % nx) (k / nx)
    let open_ (k v : Nat) : Nat := if px.isEmpty then (Config.freeWord (free + k)).toNat else v
    cells ++ List.replicate (2048 - cells.length) 0 ++ leBytes (open_ 0 (px.foldl (fun v p => min v p.2.2) 65535)) 2 ++
      leBytes (open_ 1 (maxPc px)) 2
  else if kind = 1 then (List.range 4).flatMap fun r => m.roiBlock r (free + 3 * r)
  else []

/-- The statistics record of a frame (R351): header, histogram, body, and zeros up to the last byte that a body can fill. -/
def camRecord (m : CamFrame) (head : Bool) (free : Nat) : List Byte :=
  let b := camHeader m head ++ histogram m.pixels ++ m.body free
  b ++ List.replicate (3140 - b.length) 0

/-- CAM_RECORD_WRITE (R351): the record of the oldest closed frame is written, and FRAME sets. -/
def execCamRecordWrite (c : Nat) (s : State) : Res State :=
  if 4 ≤ c then done s
  else
    let m := s.cam c
    match m.closed with
    | [] => done s
    | f :: t =>
      let s := s.sramPut (0x3300000 + 0x40000 * c + 0x4000 * (f.num % 16)) (camRecord f (s.headCam c) s.free)
      done ({ (s.setCam c { m with closed := t }).setFld (R.CAM_STAT c) F.CAM_STAT_FRAME 1 with free := s.free + 12 })

/-! ## Taps (R349) -/

/-- A write of N to CAMc_TAP. -/
def State.camTapWriteN (s : State) (c : Nat) (v : Word) : State :=
  let n := fget v F.CAM_TAP_N
  let res (s : State) (st : Nat) : State := s.setFld (R.CAM_STAT c) F.CAM_STAT_RES st
  let mode := s.camFld c F.CAM_CFG_TAPMODE
  let ofs := s.fld (R.CAM_TAPCFG c) F.CAM_TAPCFG_OFS
  let size := s.fld (R.CAM_TAPCFG c) F.CAM_TAPCFG_SIZE
  let reg := (s.dramRegion 2).2
  let w := s.lfld (R.CAM_GEOM c) F.CAM_GEOM_WIDTH
  let h := s.lfld (R.CAM_GEOM c) F.CAM_GEOM_HEIGHT
  if 4 ≤ c then s
  else if n = 0 then res (s.setCam c { s.cam c with taps := 0 }) St.empty
  else if reg = 0 ∨ (mode ≠ 1 ∧ mode ≠ 2) ∨ reg < (ofs + size) * 2 ^ 20 ∨ 256 * size < tapPages w h then res s St.badParam
  else res (s.setCam c { s.cam c with taps := n }) St.done

/-- CAM_TAP (R349). -/
def execCamTap (c : Nat) (v : Word) (s : State) : Res State := hostOp s fun s => s.camTapWriteN c v

/-! ## Reset (R347) -/

/-- A UNIT_RESET of CAMc: the frame in progress closes as SHORT, triggers are withdrawn uncounted and product compares emptied. -/
def State.camReset (s : State) (c : Nat) : State :=
  let s := (s.camClose c true).camPinOff c
  s.setCam c { s.cam c with due := [], await := [], compares := [] }

end Sys2Proof.Machine
end

