-- ==== Sys2Proof/Machine/Time.lean ====
section
/-! DEFINITION. Device time, references, capture and SYNC pins, PTP and the Ethernet ports (chapter 13, R356 to R378). -/

namespace Sys2Proof.Machine

def State.setTim (s : State) (t : Tim) : State := { s with tim := t }
def State.setPtp (s : State) (p : Ptp) : State := { s with tim := { s.tim with ptp := p } }

/-- One second in units of 2⁻¹⁶ ns. -/
abbrev fineSec : Int := 65536000000000

/-- The low 96 bits that lay a signed time out as TS96: SEC in two's complement, NS and FRAC nonnegative (R373). -/
def tsOfFine (d : Int) : Nat :=
  let r := (d % fineSec).toNat
  wrap 48 (d / fineSec) * 2 ^ 48 + r / 65536 * 65536 + r % 65536

/-- The signed time that a TS96 layout gives (R373), in units of 2⁻¹⁶ ns. -/
def fineOfTs (t : Nat) : Int := sgn 48 (t / 2 ^ 48) * fineSec + ((t / 65536 % 2 ^ 32 * 65536 + t % 65536 : Nat) : Int)

/-! ## References (R357) -/

/-- The device switches to reference `r`. -/
def State.refSwitch (s : State) (r : Nat) : State :=
  let s := ((s.setFld R.TIM_STAT F.TIM_STAT_ACTIVE r).setFld R.TIM_STAT F.TIM_STAT_HOLDREF 0).setFld R.TIM_STAT F.TIM_STAT_NOREF 0
  ((s.setFld R.TIM_STAT F.TIM_STAT_REFSW 1).inc R.TIM_REFSWCNT 1).cairn 8 1 false (leBytes r 1)

/-- REFERENCE_LOST (R357): reference `r` is declared lost. -/
def execReferenceLost (r : Nat) (s : State) : Res State :=
  if 2 ≤ r ∨ !bit s.tim.present r then done s
  else
    let s := s.setTim { s.tim with present := setBit s.tim.present r false }
    if s.fld R.TIM_STAT F.TIM_STAT_ACTIVE ≠ r then done s
    else if s.fld R.TIM_REF_CFG F.TIM_REF_CFG_AUTO = 1 ∧ bit s.tim.present (1 - r) then done (s.refSwitch (1 - r))
    else
      let s := (s.setFld R.TIM_STAT F.TIM_STAT_HOLDREF 1).setFld R.TIM_STAT F.TIM_STAT_NOREF 1
      done (s.report 0x38 0xFFFF r 0 0)

/-- REFERENCE_RETURN (R357): it counts as present, for the next switch. -/
def execReferenceReturn (r : Nat) (s : State) : Res State :=
  if 2 ≤ r then done s
  else done ((s.setTim { s.tim with present := setBit s.tim.present r true }).setFld R.TIM_STAT F.TIM_STAT_NOREF 0)

/-- A write of TIM_REF_CFG: the FREQ fields are locked (R5); SEL switches to a reference that is present (R357). -/
def State.refCfgWrite (s : State) (v : Word) : State :=
  let w := fput (fput (s.rd R.TIM_REF_CFG) F.TIM_REF_CFG_AUTO (fget v F.TIM_REF_CFG_AUTO)) F.TIM_REF_CFG_SEL (fget v F.TIM_REF_CFG_SEL)
  let s := if s.unlocked then
      s.wr R.TIM_REF_CFG (fput (fput w F.TIM_REF_CFG_FREQ0 (fget v F.TIM_REF_CFG_FREQ0)) F.TIM_REF_CFG_FREQ1 (fget v F.TIM_REF_CFG_FREQ1))
    else (s.wr R.TIM_REF_CFG w).lockviol
  let r := fget v F.TIM_REF_CFG_SEL
  if bit s.tim.present r ∧ (s.fld R.TIM_STAT F.TIM_STAT_ACTIVE ≠ r ∨ s.fld R.TIM_STAT F.TIM_STAT_HOLDREF = 1) then s.refSwitch r else s

/-- REFERENCE_SELECT (R357). -/
def execReferenceSelect (v : Word) (s : State) : Res State := hostOp s fun s => s.refCfgWrite v

/-! ## The applied rate (R356) -/

/-- RCAP in units of 2⁻⁸ ppb. -/
def State.rateCap (s : State) : Int := (s.lfld R.TIM_PTP_LIM F.TIM_PTP_LIM_RCAP * 256000 : Nat)

/-- The commanded rate, limited to RCAP. -/
def State.rateCmd (s : State) : Int :=
  clampI (-s.rateCap) s.rateCap (if s.lfld R.TIM_PTP_CFG F.TIM_PTP_CFG_SERVO = 0 then intOf (s.rd R.TIM_RATE_SET) else s.tim.ptp.cmd)

/-- In one tick the applied rate moves towards the commanded one by at most 50 ppb per ms. -/
def State.rateTick (s : State) : State :=
  let r := s.tim.rate10
  let r' := r + clampI (-64) 64 (10 * s.rateCmd - r)
  (s.setTim { s.tim with rate10 := r' }).wr R.TIM_RATE (wordOf (tdivN r' 10))

/-! ## SYNCI captures (R359 to R361) -/

/-- An edge at input `n`: captured, stamped and passed on to what it triggers (R359 to R361). -/
def State.synciCapture (s : State) (n : Nat) (rising : Bool) (ns frac : Nat) : State :=
  let s := s.arrive ns
  let edge := s.fld (R.TIM_SYNCI_CFG n) F.TIM_SYNCI_CFG_EDGE
  if 4 ≤ n ∨ !(if rising then edge = 1 || edge = 3 else edge = 2 || edge = 3) then s
  else
    let t := s.now * 65536 + frac % 65536 / 8192 * 8192
    let near := match sget (fun _ => none) n s.tim.capAt with
      | some p => decide (t < p + 8 * 65536)
      | none => false
    if near then (s.inc R.TIM_CAPMISS 1)
    else
      let s := s.setTim { s.tim with capAt := sput (fun _ => none) n (some t) s.tim.capAt }
      let dly := sgn 24 (s.fld (R.TIM_SYNCI_CFG n) F.TIM_SYNCI_CFG_DLY)
      let c := ((t : Int) - rdiv (dly * 65536) 1000).toNat
      let ts := ts96 (c / 65536) + c % 65536
      let s := (List.range 3).foldl (fun s i => s.wr (R.TIM_SYNCI_TS n i) (BitVec.ofNat 32 (ts / 2 ^ (32 * i)))) s
      let s := s.inc (R.TIM_SYNCI_CNT n) 1
      let s := (List.range 8).foldl (fun s a => if s.fld (R.BLD_CA_CFG a) F.BLD_CA_CFG_SRC = 4 + n then s.caSwap a else s) s
      let s := (s.mapTrigger 3 n).camSource 3 n (c + 1100 * 65536)
      if s.fld R.TIM_START_CFG F.TIM_START_CFG_EN = 1 ∧ s.fld R.TIM_START_CFG F.TIM_START_CFG_SYNCI = n ∧ s.mode = .armed then
        let s := (s.setFld R.TIM_START_CFG F.TIM_START_CFG_EN 0).modeReq 3
        (match s.tsc.startAt with
          | some _ => if s.runMode then { s with tsc := { s.tsc with startAt := some (cdiv c 65536) } } else s
          | none => s)
      else s

/-- SYNCI_CAPTURE: an edge on SYNCIn. -/
def execSynciCapture (n : Nat) (rising : Bool) (ns frac : Nat) (s : State) : Res State := done (s.synciCapture n rising ns frac)

/-! ## SYNCO pulses (R363) -/

def State.syncoPin (s : State) (n : Nat) (on : Bool) : State :=
  (s.setTim { s.tim with on := setBit s.tim.on n on }).emit
    (.pin 3 n (on != (s.fld (R.TIM_SYNCO_CFG n) F.TIM_SYNCO_CFG_POL = 1)) s.now)

/-- A pulse of output `n` starts at slot `x`. -/
def State.syncoPulse (s : State) (n x : Nat) : State :=
  let w := (s.fld (R.TIM_SYNCO_CFG n) F.TIM_SYNCO_CFG_WIDTH + 1) * 250
  let s := s.setTim { s.tim with pulses := s.tim.pulses ++ [(n, x, x + w)] }
  if bit s.tim.on n then s else s.syncoPin n true

/-- A write of TIM_SYNCOn_CFG: MODE 0 and 3 make the output inactive; MODE 2 takes its instant, or skips one that has passed. -/
def State.syncoWrite (s : State) (n : Nat) (v : Word) : State :=
  if 4 ≤ n then s
  else
    let keep := fmask F.TIM_SYNCO_CFG_WIDTH ||| fmask F.TIM_SYNCO_CFG_POL ||| fmask F.TIM_SYNCO_CFG_MODE
    let s := s.wr (R.TIM_SYNCO_CFG n) (v &&& keep)
    let mode := fget v F.TIM_SYNCO_CFG_MODE
    let s := s.setTim { s.tim with armed := sput (fun _ => none) n none s.tim.armed }
    if mode = 0 ∨ mode = 3 then
      let s := s.setTim { s.tim with pulses := s.tim.pulses.filter fun p => p.1 ≠ n }
      if bit s.tim.on n then s.syncoPin n false else s
    else if mode = 2 then
      let at_ := (s.rd (R.TIM_SYNCO_AT_LO n)).toNat + (s.rd (R.TIM_SYNCO_AT_HI n)).toNat * 2 ^ 32
      let t := extendTs at_ s.now
      if t < 0 ∨ slotAfter t.toNat * 2 < s.now * 5 then s.setFld (R.TIM_SYNCO_CFG n) F.TIM_SYNCO_CFG_MODE 0
      else s.setTim { s.tim with armed := sput (fun _ => none) n (some (slotAfter t.toNat)) s.tim.armed }
    else s

/-- A MODE 2 instant of output `n` that a step of device time has jumped over is skipped. -/
def State.syncoPassed (s : State) (n : Nat) : State :=
  match sget (fun _ => none) n s.tim.armed with
  | some a =>
    if a * 2 < s.now * 5 then
      (s.setTim { s.tim with armed := sput (fun _ => none) n none s.tim.armed }).setFld (R.TIM_SYNCO_CFG n) F.TIM_SYNCO_CFG_MODE 0
    else s
  | none => s

/-- SYNCO_SCHEDULE (R363). -/
def execSyncoSchedule (n : Nat) (v : Word) (ns : Nat) (s : State) : Res State := hostOp s fun s => (s.arrive ns).syncoWrite n v

/-- SYNCO_PULSE_START (R363): the scheduled slot boundary of output `n` has come. -/
def execSyncoPulseStart (n ns : Nat) (s : State) : Res State :=
  let s := s.arrive ns
  let mode := s.fld (R.TIM_SYNCO_CFG n) F.TIM_SYNCO_CFG_MODE
  let come (x : Nat) : Bool := decide (x * 2 / 5 ≤ s.now)
  if 4 ≤ n ∨ s.mode = .boot then done s
  else if mode = 1 then
    let x := 1250 * s.tick + min 1249 (s.fld (R.TIM_SYNCO_PH n) F.TIM_SYNCO_PH_PH)
    if s.tick % ((s.rd (R.TIM_SYNCO_PER n)).toNat + 1) = 0 ∧ come x ∧ sget (fun _ => none) n s.tim.lastSync ≠ some x then
      done ((s.setTim { s.tim with lastSync := sput (fun _ => none) n (some x) s.tim.lastSync }).syncoPulse n x)
    else done s
  else match sget (fun _ => none) n s.tim.armed with
    | some x =>
      if mode = 2 ∧ come x then
        let s := s.setTim { s.tim with armed := sput (fun _ => none) n none s.tim.armed }
        done ((s.syncoPulse n x).setFld (R.TIM_SYNCO_CFG n) F.TIM_SYNCO_CFG_MODE 0)
      else done s
    | none => done s

/-- SYNCO_PULSE_END (R363): no pulse of output `n` is left. -/
def execSyncoPulseEnd (n ns : Nat) (s : State) : Res State :=
  let s := s.arrive ns
  let live := s.tim.pulses.filter fun p => p.1 ≠ n || decide (s.now * 5 < p.2.2 * 2)
  if bit s.tim.on n ∧ live.all fun p => p.1 ≠ n then done ((s.setTim { s.tim with pulses := live }).syncoPin n false) else done s

/-! ## Ethernet ports (R376, R377) -/

/-- Port `p` is enabled and its link is up. -/
def State.portUp (s : State) (p : Nat) : Bool :=
  decide (p < 2) && s.fld (R.TIM_P_CFG p) F.TIM_P_CFG_EN = 1 && s.fld (R.TIM_P_CFG p) F.TIM_P_CFG_SPEED ≠ 3 &&
    s.fld (R.TIM_P_STAT p) F.TIM_P_STAT_LINK = 1

def State.rxOk (s : State) (p : Nat) : State := s.inc (R.TIM_P_RXOK p) 1
def State.rxDrop (s : State) (p : Nat) : State := s.inc (R.TIM_P_RXDROP p) 1

/-- The port has the IPv4 address `ip` (R377). -/
def State.hasIp (s : State) (p ip : Nat) : Bool := ip ≠ 0 && (s.rd (R.TIM_P_IP p)).toNat = ip

/-- ARP_REQUEST_RECEIVE (R377): a request for address `ip`. -/
def execArpRequestReceive (p ip : Nat) (s : State) : Res State :=
  if !s.portUp p then done s
  else if s.hasIp p ip then done ((s.rxOk p).ethSend p (.net p 1 (leBytes ip 4)))
  else done (s.rxDrop p)

/-- ICMP_ECHO_RECEIVE (R377): an echo request to address `ip`. -/
def execIcmpEchoReceive (p ip : Nat) (data : List Byte) (s : State) : Res State :=
  if !s.portUp p then done s
  else if s.hasIp p ip then done ((s.rxOk p).ethSend p (.net p 2 data))
  else done (s.rxDrop p)

/-- ETH_FRAME_DROP (R376, R377): a frame with a bad frame check sequence, or of a kind on which the port does not act. -/
def execEthFrameDrop (p : Nat) (badFcs : Bool) (s : State) : Res State :=
  if !s.portUp p then done s else done (if badFcs then s.inc (R.TIM_P_RXFCS p) 1 else s.rxDrop p)

/-! ## PTP: ports and the best master clock (R364, R370) -/

namespace Sv
abbrev disabled : Nat := 0
abbrev listening : Nat := 1
abbrev acquiring : Nat := 2
abbrev slave : Nat := 3
abbrev holdover : Nat := 4
abbrev outOfRange : Nat := 5
abbrev master : Nat := 6
abbrev guard : Nat := 7
end Sv

def State.servo (s : State) : Nat := s.fld R.TIM_PTP_STAT F.TIM_PTP_STAT_STATE
def State.setServo (s : State) (v : Nat) : State := s.setFld R.TIM_PTP_STAT F.TIM_PTP_STAT_STATE v
def State.ptpCfg (s : State) (f : Fld) : Nat := s.lfld R.TIM_PTP_CFG f

/-- PTP runs on port `p`. -/
def State.ptpPort (s : State) (p : Nat) : Bool := s.portUp p && s.ptpCfg F.TIM_PTP_CFG_EN = 1 && bit (s.ptpCfg F.TIM_PTP_CFG_PORTEN) p

/-- The interval of 2^log seconds, in ns, of a 4-bit signed field of TIM_PTP_INT. -/
def State.ptpInt (s : State) (f : Fld) : Nat :=
  let l := sgn 4 (s.lfld R.TIM_PTP_INT f)
  if 0 ≤ l then 1000000000 * 2 ^ l.toNat else 1000000000 / 2 ^ (-l).toNat

/-- The device's clock identity: EUI-64 of port 0's MAC address (log entry 25). -/
def State.clockId (s : State) : Nat :=
  let m := (s.rd (R.TIM_P_MAC_LO 0)).toNat + (s.rd (R.TIM_P_MAC_HI 0)).toNat % 65536 * 2 ^ 32
  m / 2 ^ 24 * 2 ^ 40 + 0xFFFE * 2 ^ 24 + m % 2 ^ 24

/-- The device's own data set, in the order of comparison: the smaller is the better (log entry 25). -/
def State.ownKey (s : State) : List Nat :=
  [s.lfld R.TIM_PTP_DS F.TIM_PTP_DS_PRIO1, if s.ptpCfg F.TIM_PTP_CFG_SLAVEONLY = 1 then 255 else s.lfld R.TIM_PTP_DS F.TIM_PTP_DS_CLASS,
    0xFE, 0xFFFF, s.lfld R.TIM_PTP_DS F.TIM_PTP_DS_PRIO2, s.clockId, 0, s.clockId]

/-- Lexicographic order of two data sets. -/
def keyLess : List Nat → List Nat → Bool
  | a :: s, b :: t => decide (a < b) || (a = b && keyLess s t)
  | _, _ => false

/-- The masters that are heard well enough to be selected: two Announces, or one in profile 2 (log entry 25). -/
def State.qualified (s : State) : List Foreign :=
  s.tim.ptp.foreign.filter fun f => s.ptpPort f.port && (s.ptpCfg F.TIM_PTP_CFG_PROFILE = 2 || decide (2 ≤ f.heard)) &&
    decide (f.key.getD 6 0 < 255)

/-- The best of the qualified masters. -/
def bestForeign : List Foreign → Option Foreign
  | [] => none
  | f :: t => match bestForeign t with
    | none => some f
    | some g => if keyLess g.key f.key then some g else some f

def State.setPort (s : State) (p v : Nat) : State := s.setFld (R.TIM_P_STAT p) F.TIM_P_STAT_PSTATE v

/-- Announce interval times the receipt timeout, ns. -/
def State.annLimit (s : State) : Nat :=
  s.ptpInt F.TIM_PTP_INT_LOGANN * (s.lfld R.TIM_PTP_INT F.TIM_PTP_INT_ANNTMO + 1)

/-- HOLDOVER begins: the commanded rate is held at I (R370). -/
def State.holdover (s : State) : State :=
  (s.setPtp { s.tim.ptp with cmd := intOf (s.rd R.TIM_PTP_I), far := 0, good := 0 }).setServo Sv.holdover

/-- The Cairn record of R370: event 1 lost, 2 changed. -/
def State.masterRecord (s : State) (event gm : Nat) : State :=
  s.cairn 8 2 false (leBytes event 1 ++ leBytes gm 8)

/-- The servo's part when the best master clock selects `f` (R367, R370). -/
def State.follow (s : State) (f : Foreign) : State :=
  let gm := f.key.getD 5 0
  let old := (s.rd R.TIM_PTP_GM_LO).toNat + (s.rd R.TIM_PTP_GM_HI).toNat * 2 ^ 32
  let st := s.servo
  let fresh := st = Sv.listening || st = Sv.master
  let anew := match s.tim.ptp.parent with
    | some g => g.src ≠ f.src || g.port ≠ f.port
    | none => true
  let p := s.tim.ptp
  let s := s.setPtp (if anew then { p with parent := some f, syncAt := s.now, annAt := s.now, twoStep := none, last := none }
    else { p with parent := some f })
  let s := ((s.wr R.TIM_PTP_GM_LO (BitVec.ofNat 32 gm)).wr R.TIM_PTP_GM_HI (BitVec.ofNat 32 (gm / 2 ^ 32))).setFld
    R.TIM_PTP_STAT F.TIM_PTP_STAT_PORT f.port
  if fresh then (s.setPtp { s.tim.ptp with good := 0, far := 0, dSet := false, dFar := [] }).setServo Sv.acquiring
  else if gm ≠ old then ((s.setFld R.TIM_PTP_STAT F.TIM_PTP_STAT_GM_CHANGE 1).masterRecord 2 gm).holdover
  else s

/-- The state decision of both ports (R364, log entry 25). -/
def State.bmc (s : State) : State :=
  if s.ptpCfg F.TIM_PTP_CFG_EN = 0 then s
  else
    let slaveOnly := s.ptpCfg F.TIM_PTP_CFG_SLAVEONLY = 1
    let qs := s.qualified
    let best := (bestForeign qs).filter fun f => slaveOnly || keyLess f.key s.ownKey
    let waited (p : Nat) : Bool := decide (sget (fun _ => 0) p s.tim.ptp.since + s.annLimit ≤ s.now)
    let port (p : Nat) : Nat :=
      if !s.ptpPort p then 0
      else match best with
        | some f => if f.port = p then 3
                    else if slaveOnly || qs.any (fun g => g.port = p && g.key.getD 5 0 = f.key.getD 5 0) then 1 else 2
        | none => if slaveOnly || !(qs.any (fun g => g.port = p) || waited p) then 1 else 2
    let s := (s.setPort 0 (port 0)).setPort 1 (port 1)
    match best with
    | some f => s.follow f
    | none =>
      let s := s.setPtp { s.tim.ptp with parent := none }
      let leads := decide (s.fld (R.TIM_P_STAT 0) F.TIM_P_STAT_PSTATE = 2) || decide (s.fld (R.TIM_P_STAT 1) F.TIM_P_STAT_PSTATE = 2)
      if s.servo = Sv.listening ∧ leads then s.setServo Sv.master
      else if s.servo = Sv.master ∧ !leads then s.setServo Sv.listening
      else s

/-- A PTP message of domain `dom` arrives on port `p`: whether it is received, with the frame counted (R364, R377). -/
def State.ptpRx (s : State) (p dom : Nat) : Bool × State :=
  if !s.portUp p then (false, s)
  else if s.ptpPort p && s.ptpCfg F.TIM_PTP_CFG_DOMAIN = dom then (true, s.rxOk p)
  else (false, s.rxDrop p)

/-- PTP_ANNOUNCE_RECEIVE (R370): `key` gives the data set of the sender, as `Foreign.key`. -/
def execPtpAnnounceReceive (p dom src : Nat) (key : List Nat) (ns : Nat) (s : State) : Res State :=
  let (ok, s) := (s.arrive ns).ptpRx p dom
  if !ok ∨ src = s.clockId then done s
  else
    let t := s.tim.ptp
    let old := t.foreign.find? fun f => f.port = p && f.src = src
    let heard := match old with
      | some f => if f.at_ + 4 * s.ptpInt F.TIM_PTP_INT_LOGANN < s.now then 1 else 2
      | none => 1
    let f : Foreign := ⟨p, src, key, s.now, heard⟩
    let mine := match t.parent with
      | some g => g.port = p && g.src = src
      | none => false
    let s := s.setPtp { t with foreign := f :: t.foreign.filter (fun f => !(f.port = p && f.src = src)),
                               annAt := if mine then s.now else t.annAt }
    done s.bmc

/-- The parent `f` is lost: a record, holdover, and its data set is forgotten (R370). -/
def State.parentLost (s : State) (f : Foreign) : State :=
  let s := (s.setFld R.TIM_PTP_STAT F.TIM_PTP_STAT_MASTER_LOST 1).masterRecord 1
    ((s.rd R.TIM_PTP_GM_LO).toNat + (s.rd R.TIM_PTP_GM_HI).toNat * 2 ^ 32)
  let s := s.holdover
  let p := s.tim.ptp
  let s := s.setPtp { p with parent := none, foreign := p.foreign.filter (fun g => !(g.port = f.port && g.src = f.src)),
                             since := sput (fun _ => 0) f.port s.now p.since }
  s.bmc

/-- PTP_MASTER_LOST (R370): no valid Sync, or no Announce, came for its timeout; a port that listens may become a master. -/
def execPtpMasterLost (ns : Nat) (s : State) : Res State :=
  let s := s.arrive ns
  if s.ptpCfg F.TIM_PTP_CFG_EN = 0 then done s
  else
    let t := s.tim.ptp
    let sync := s.ptpInt F.TIM_PTP_INT_LOGSYNC * (s.lfld R.TIM_PTP_INT F.TIM_PTP_INT_SYNCTMO + 1)
    let s := s.setPtp { t with foreign := t.foreign.filter fun f => decide (s.now < f.at_ + s.annLimit) }
    match t.parent with
    | none => done s.bmc
    | some f =>
      if t.syncAt + sync ≤ s.now ∨ t.annAt + s.annLimit ≤ s.now then done (s.parentLost f) else done s

/-- The link of port `p` comes up or goes down (R376). -/
def State.linkChange (s : State) (p : Nat) (up : Bool) : State :=
  if 2 ≤ p ∨ s.fld (R.TIM_P_STAT p) F.TIM_P_STAT_LINK = b2n up then s
  else
    let s := (s.setFld (R.TIM_P_STAT p) F.TIM_P_STAT_LINK (b2n up)).setFld (R.TIM_P_STAT p) F.TIM_P_STAT_LINKCHG 1
    let t := s.tim.ptp
    let s := s.setPtp { t with since := sput (fun _ => 0) p s.now t.since }
    s.setPort p (if s.ptpPort p then 1 else 0)

/-- ETH_LINK_CHANGE (R376). -/
def execEthLinkChange (p : Nat) (up : Bool) (ns : Nat) (s : State) : Res State := done ((s.arrive ns).linkChange p up)

/-! ## The servo (R367 to R369) -/

/-- An automatic step of device time is queued. -/
def State.queueStep (s : State) (d : Int) (seq : Option Nat) : State :=
  s.setTim { s.tim with steps := s.tim.steps ++ [⟨d, seq, s.now, s.tick⟩] }

/-- |o| is beyond CAPTURE × 100 ns. -/
def State.beyond (s : State) (o : Int) : Bool :=
  decide (s.lfld R.TIM_PTP_LIM F.TIM_PTP_LIM_CAPTURE * 100 * 65536 < o.natAbs)

/-- OUT_OF_RANGE begins: the commanded rate is held at I (R369). -/
def State.outOfRange (s : State) : State :=
  ((s.setPtp { s.tim.ptp with cmd := intOf (s.rd R.TIM_PTP_I), far := 0 }).setFld R.TIM_PTP_STAT F.TIM_PTP_STAT_OUT_OF_RANGE 1).setServo
    Sv.outOfRange

/-- The update of R368. -/
def State.servoUpdate (s : State) (o : Int) : State :=
  let cap := s.rateCap
  let i := clampI (-cap) cap (intOf (s.rd R.TIM_PTP_I) - fdiv ((s.lv R.TIM_PTP_KI).toNat * o) (2 ^ 24))
  let c := clampI (-cap) cap (i - fdiv ((s.lv R.TIM_PTP_KP).toNat * o) (2 ^ 24))
  (s.setPtp { s.tim.ptp with cmd := c }).wr R.TIM_PTP_I (wordOf i)

/-- A valid offset `o` (R367 to R370). -/
def State.offset (s : State) (o : Int) : State :=
  let v := wrap 64 o
  let s := (s.wr R.TIM_PTP_OFS_LO (BitVec.ofNat 32 v)).wr R.TIM_PTP_OFS_HI (BitVec.ofNat 32 (v / 2 ^ 32))
  let st := s.servo
  let p := s.tim.ptp
  let far := if s.beyond o then p.far + 1 else 0
  if st = Sv.acquiring then
    if p.good + 1 < 8 then s.setPtp { p with good := p.good + 1 }
    else
      let s := ((s.setPtp { p with good := 0, far := 0 }).setFld R.TIM_PTP_STAT F.TIM_PTP_STAT_LOCKED 1).setServo Sv.slave
      if s.mode = .idle ∨ s.mode = .service ∨ s.mode = .safe then s.queueStep (-o) none
      else if s.beyond o then s.outOfRange
      else s
  else if st = Sv.slave then
    let s := (s.setPtp { p with far := far }).servoUpdate o
    if 4 ≤ far then s.outOfRange else s
  else if st = Sv.holdover then
    if far = 0 then ((s.setPtp { p with far := 0 }).setServo Sv.slave).servoUpdate o
    else if 4 ≤ far then s.outOfRange
    else s.setPtp { p with far := far }
  else s

/-- The offset of a Sync with origin `t1` and receipt `t2`: corrected for path delay and asymmetry (R366, R372). -/
def State.syncOffset (s : State) (p : Nat) (t1 t2 : Int) : State :=
  let a := rdiv ((s.rd (R.TIM_P_ASYM p)).toInt * 65536) 2000
  let t := s.tim.ptp
  (s.setPtp { t with last := some (t1, t2), syncAt := s.now, twoStep := none }).offset (t2 - t1 - t.d - a)

/-- The message comes from the master that port `p` follows. -/
def State.fromParent (s : State) (p src : Nat) : Bool :=
  match s.tim.ptp.parent with
  | some f => f.port = p && f.src = src && s.fld (R.TIM_P_STAT p) F.TIM_P_STAT_PSTATE = 3
  | none => false

/-- PTP_SYNC_RECEIVE (R366): `t1` is the origin time with the correction, or the correction alone of a two-step Sync. A two-step Sync
whose Follow_Up is still missing is discarded, and the count of consecutive offsets begins again. -/
def execPtpSyncReceive (p dom src seq : Nat) (twoStep : Bool) (t1 : Int) (ns frac : Nat) (s : State) : Res State :=
  let (ok, s) := (s.arrive ns).ptpRx p dom
  if !ok ∨ !s.fromParent p src then done s
  else
    let t2 : Int := s.fine frac
    let t := s.tim.ptp
    let s := if t.twoStep.isSome then s.setPtp { t with twoStep := none, good := 0, far := 0 } else s
    if twoStep then done (s.setPtp { s.tim.ptp with twoStep := some (p, seq, t1, t2) })
    else done (s.syncOffset p t1 t2)

/-- PTP_FOLLOW_UP_RECEIVE (R366): `t1` is the precise origin time with the correction. -/
def execPtpFollowUpReceive (p dom src seq : Nat) (t1 : Int) (ns : Nat) (s : State) : Res State :=
  let (ok, s) := (s.arrive ns).ptpRx p dom
  if !ok ∨ !s.fromParent p src then done s
  else match s.tim.ptp.twoStep with
    | some (q, n, corr, t2) => if q = p ∧ n = seq then done (s.syncOffset p (t1 + corr) t2) else done s
    | none => done s

/-! ## Path delay (R371) -/

/-- A measurement `m` of the mean path delay. -/
def State.pathDelay (s : State) (m : Int) : State :=
  let p := s.tim.ptp
  let show_ (s : State) : State := s.wr R.TIM_PTP_MPD (wordOf (rdiv (s.tim.ptp.d * 1000) 65536))
  if !p.dSet then show_ (s.setPtp { p with d := m, dSet := true, dFar := [] })
  else
    let far := decide (s.lfld R.TIM_PTP_PD F.TIM_PTP_PD_PDSTEP * 65536 < (m - p.d).natAbs)
    let d := p.d + fdiv (m - p.d) 16
    let list := if far then p.dFar ++ [m] else []
    if list.length < 4 then show_ (s.setPtp { p with d := d, dFar := list })
    else
      let mean := fdiv (list.foldl (· + ·) 0) 4
      let ps (x : Int) : Nat := wrap 32 (rdiv (x * 1000) 65536)
      let s := (s.setPtp { p with d := mean, dFar := [] }).setFld R.TIM_PTP_STAT F.TIM_PTP_STAT_PATH_STEP 1
      let s := (show_ s).cairn 8 3 false (leBytes (ps d) 4 ++ leBytes (ps mean) 4)
      let g := s.lfld R.TIM_PTP_PD F.TIM_PTP_PD_GUARD
      if g = 0 ∨ s.servo ≠ Sv.slave then s
      else (s.setPtp { s.tim.ptp with guardEnd := s.now + g * s.ptpInt F.TIM_PTP_INT_LOGSYNC, cmd := intOf (s.rd R.TIM_PTP_I),
                                      far := 0 }).setServo Sv.guard

/-- A delay response gives one measurement of the path delay (R371). -/
def State.delayResponse (s : State) (p dom seq : Nat) (t : Int) (ns frac : Nat) : State :=
  let (ok, s) := (s.arrive ns).ptpRx p dom
  if !ok then s
  else
    let q := s.tim.ptp
    match q.req.find? fun r => r.1 = p && r.2.1 = seq with
    | none => s
    | some r =>
      let s := s.setPtp { q with req := q.req.filter fun x => !(x.1 = p && x.2.1 = seq) }
      if s.ptpCfg F.TIM_PTP_CFG_PROFILE ≠ 0 then
        if s.fld (R.TIM_P_STAT p) F.TIM_P_STAT_PSTATE = 3 then (s.pathDelay (((s.fine frac : Int) - r.2.2 - t) / 2)) else s
      else match q.last with
        | some (t1, t2) => (s.pathDelay ((t2 - t1 + (t - r.2.2)) / 2))
        | none => s

/-- PTP_DELAY_RESPONSE_RECEIVE (R371). Under the end-to-end mechanism `t` is the time at which the master received the request, less the
correction; under the peer-to-peer mechanism it is the peer's turnaround time, and the response arrives at (ns, frac). -/
def execPtpDelayResponseReceive (p dom seq : Nat) (t : Int) (ns frac : Nat) (s : State) : Res State := done (s.delayResponse p dom seq t ns frac)

/-- PTP_GUARD_END (R371). -/
def execPtpGuardEnd (ns : Nat) (s : State) : Res State :=
  let s := s.arrive ns
  done (if s.servo = Sv.guard ∧ s.tim.ptp.guardEnd ≤ s.now then s.setServo Sv.slave else s)

/-! ## Sending (R366) -/

/-- PTP_PDELAY_REQ_RECEIVE (R366): a one-step Pdelay_Resp with the turnaround in its correctionField. -/
def execPtpPdelayReqReceive (p dom seq ns frac : Nat) (s : State) : Res State :=
  let x := s.arrive ns
  let (ok, s) := x.ptpRx p dom
  if !ok then done s
  else if s.ptpCfg F.TIM_PTP_CFG_PROFILE = 0 then done (x.rxDrop p)
  else done (s.ethSend p (.ptp p 3 seq [s.fine frac]))

/-- PTP_DELAY_REQ_RECEIVE (R364): a master under the end-to-end mechanism answers with the receive time. -/
def execPtpDelayReqReceive (p dom seq ns frac : Nat) (s : State) : Res State :=
  let x := s.arrive ns
  let (ok, s) := x.ptpRx p dom
  if !ok then done s
  else if s.ptpCfg F.TIM_PTP_CFG_PROFILE ≠ 0 ∨ s.fld (R.TIM_P_STAT p) F.TIM_P_STAT_PSTATE ≠ 2 then done (x.rxDrop p)
  else done (s.ethSend p (.ptp p 9 seq [s.fine frac]))

/-- The device sends a PTP message of type `type` on port `p`, if one is due (R366). -/
def State.ptpTransmit (s : State) (p type ns frac : Nat) : State :=
  let s := s.arrive ns
  let st := s.fld (R.TIM_P_STAT p) F.TIM_P_STAT_PSTATE
  let e2e := s.ptpCfg F.TIM_PTP_CFG_PROFILE = 0
  let due : Bool := match type with
    | 0 => st = 2
    | 11 => st = 2
    | 1 => st = 3 && e2e
    | 2 => !e2e
    | _ => false
  let k := 16 * p + type
  let gap := s.ptpInt (if type = 0 then F.TIM_PTP_INT_LOGSYNC else if type = 11 then F.TIM_PTP_INT_LOGANN else F.TIM_PTP_INT_LOGPDELAY)
  let q := s.tim.ptp
  let early : Bool := match sget (fun _ => none) k q.txAt with
    | some x => decide (s.now < x + gap)
    | none => false
  if !s.ptpPort p ∨ !due ∨ early then s
  else
    let seq := sget (fun _ => 0) k q.txSeq
    let t : Int := s.fine frac
    let req := if type = 1 ∨ type = 2 then q.req.filter (fun r => r.1 ≠ p) ++ [(p, seq, t)] else q.req
    let s := s.setPtp { q with req := req, txSeq := sput (fun _ => 0) k ((seq + 1) % 65536) q.txSeq,
                               txAt := sput (fun _ => none) k (some s.now) q.txAt }
    let fields : List Int := if type = 11 then
       (match s.tim.ptp.parent with
          | some f => f.key.set 6 (f.key.getD 6 0 + 1)
          | none => s.ownKey).map fun n : Nat => (n : Int)
      else [t]
    (s.ethSend p (.ptp p type seq fields))

/-- PTP_MESSAGE_TRANSMIT (R366): at its interval port `p` sends its message of type 0 Sync, 1 Delay_Req, 2 Pdelay_Req or 11 Announce. -/
def execPtpMessageTransmit (p type ns frac : Nat) (s : State) : Res State := done (s.ptpTransmit p type ns frac)

/-! ## Steps of device time (R358, R373, R374) and asymmetry (R375) -/

/-- TIME_STEP (R373): command `n`. -/
def execTimeStep (n : Nat) (s : State) : Res State :=
  done (s.runCmd 0x18 n fun c s =>
    let ts := c.arg 0 + c.arg 1 * 2 ^ 32 + c.arg 2 * 2 ^ 64
    let m := s.mode
    if !tsValid ts then s.endCmd c St.badParam 0 0
    else if fineOfTs ts = 0 then s.endCmd c St.empty 0 0
    else if m = .armed ∨ m = .expose ∨ m = .hold ∨ m = .degraded then s.endCmd c St.notReady 0 0
    else (s.putCmd { c with wait := .timeStep }).queueStep (fineOfTs ts) (some n))

/-- An instant in ns that marks the start of a duration moves with device time, so that the duration is unchanged. -/
def moved (d : Int) (t : Nat) : Nat := ((t : Int) + d).toNat

/-- Running durations are kept across a step of `d` ns. -/
def State.moveTimers (s : State) (d : Int) : State :=
  let m := moved d
  let s := (List.range 32).foldl (fun s n =>
    let l := s.lane n
    s.setLane n { l with since := m l.since, out := l.out.map fun x => { x with sentAt := m x.sentAt } }) s
  let p := s.tim.ptp
  let foreign := p.foreign.map fun f => { f with at_ := m f.at_ }
  let since := (List.range 2).foldl (fun x k => sput (fun _ => 0) k (m (sget (fun _ => 0) k x)) x) p.since
  let txAt := (List.range 32).foldl (fun x k => sput (fun _ => none) k ((sget (fun _ => none) k x).map m) x) p.txAt
  let s := s.setPtp { p with foreign := foreign, syncAt := m p.syncAt, annAt := m p.annAt, guardEnd := m p.guardEnd, since := since,
                             txAt := txAt, twoStep := none, last := none, req := [] }
  { s with lnk := { s.lnk with timeAt := m s.lnk.timeAt }, glb := { s.glb with pauseAt := m s.glb.pauseAt },
           recd := { s.recd with qBufSince := m s.recd.qBufSince }, flt := { s.flt with ceSince := s.flt.ceSince.map m },
           cal := { s.cal with since := m s.cal.since } }

/-- Lanes in the HEAD and ARRAY roles that are in DELAY, AUTH or SERVICE enter ACQUIRE (R374). -/
def State.stepLanes (s : State) : State :=
  (List.range 32).foldl (fun s n => if framing (s.laneState n) && s.role n ≠ 2 then s.laneTo n Ln.acquire 1 else s) s

/-- TIME_STEP_APPLY (R358, R373, R374): the oldest step that waits takes effect at the tick boundary just reached. -/
def execTimeStepApply (s : State) : Res State :=
  match s.tim.steps with
  | [] => done s
  | x :: rest =>
    if s.tick ≤ x.tick then done s
    else
      let host := x.seq.isSome
      let rest := rest.filter fun y => !(host && y.seq.isNone && y.at_ = x.at_)
      let now := (((s.now : Int) * 65536 + x.offset) / 65536).toNat
      let d : Int := (now : Int) - s.now
      let s := s.stepLanes
      let s := s.moveTimers d
      let s := s.setTim { s.tim with steps := rest.map fun y => { y with tick := now / 500 } }
      let s := { s with now := now, tick := now / 500 }
      let s := (List.range 4).foldl (fun s n => s.syncoPassed n) s
      let s := if s.servo = Sv.outOfRange then s.setServo Sv.slave else s
      let s := (s.setFld R.TIM_STAT F.TIM_STAT_STEPPED 1).cairn 8 4 true (leBytes (tsOfFine x.offset) 12)
      done (match x.seq with
        | some n => s.endSeq n St.done 0 0
        | none => s)

/-- TIME_ASYM (R375): command `n`. -/
def execTimeAsym (n : Nat) (s : State) : Res State :=
  done (s.runCmd 0x19 n fun c s =>
    let v := BitVec.ofNat 32 (c.arg 0)
    if 1 < c.target ∨ 10000000 < v.toInt.natAbs then s.endCmd c St.badParam 0 0
    else (s.wr (R.TIM_P_ASYM c.target) v).endCmd c St.done 0 0)

end Sys2Proof.Machine
end

