-- ==== Sys2Proof/Machine/Commit.lean ====
section
/-! DEFINITION. Shadow sets and commits (R77 to R79, Table 3-8): snapshot, the checks of every set, go-live, and the copies that follow
or precede it (R165, R213, R270, R384). -/

namespace Sys2Proof.Machine

/-! ## Bulk copies in SRAM -/

/-- The nonzero bytes of `n` bytes from `a`, by offset. -/
def srange (m : Sparse Byte) (a n : Nat) : List (Nat × Byte) :=
  (m.filter fun p => decide (a ≤ p.1) && decide (p.1 < a + n)).map fun p => (p.1 - a, p.2)

/-- SRAM with the `n` bytes from `dst` replaced by the given nonzero bytes and zeros. -/
def State.sramFill (s : State) (dst n : Nat) (bs : List (Nat × Byte)) : State :=
  let out (k : Nat) : Bool := !(decide (dst ≤ k) && decide (k < dst + n))
  let m := bs.foldl (fun m p => sput zeroByte (dst + p.1) p.2 m) (s.mem.sram.filter fun p => out p.1)
  { s with mem := { s.mem with sram := m, sramBad := s.mem.sramBad.filter fun p => out (8 * p.1) } }

/-- `n` bytes of SRAM copied from `src` to `dst`. -/
def State.sramCopy (s : State) (src dst n : Nat) : State := s.sramFill dst n (srange s.mem.sram src n)

/-! ## The registers of each set -/

def mapSetRegs (p : Nat) : List Nat :=
  [R.MAP_GEOM p, R.MAP_FRAME p, R.MAP_TIMING p, R.MAP_GUARD p] ++
    (List.range 16).flatMap fun k => [R.MAP_SEQ_A p k, R.MAP_SEQ_B p k]

def fieldRegs (h : Nat) : List Nat := [R.TSC_H_FXMIN h, R.TSC_H_FYMIN h, R.TSC_H_FXMAX h, R.TSC_H_FYMAX h]

def axfSetRegs : List Nat :=
  (List.range 8).flatMap (fun a => [R.AXF_AX_CFG a, R.AXF_AX_CFG2 a, R.AXF_AX_HYST a, R.AXF_AX_IDXPER a, R.AXF_AX_IDXREF_LO a,
    R.AXF_AX_IDXREF_HI a]) ++
  (List.range 4).flatMap (fun d => [R.AXF_PDET_CFG d, R.AXF_PDET_REJOFS d, R.AXF_PDET_REJOUT d]) ++
  (List.range 4).map fun m => R.AXF_MD_CFG m

def timSetRegs : List Nat :=
  [R.TIM_PTP_CFG, R.TIM_PTP_INT, R.TIM_PTP_KP, R.TIM_PTP_KI, R.TIM_PTP_LIM, R.TIM_PTP_PD, R.TIM_PTP_DS]

def thmSetRegs : List Nat :=
  [R.THM_CFG, R.THM_THR_LVL 0, R.THM_THR_DYN 0, R.THM_THR_EXP 0, R.THM_THR_LVL 1, R.THM_THR_DYN 1, R.THM_THR_EXP 1, R.THM_FLWIN]

/-- The shadow registers of a set of Table 3-8. -/
def setRegs (id : Nat) : List Nat :=
  if id = 0 then (List.range 6).flatMap fun n => [R.GLB_DRAM_BASE n, R.GLB_DRAM_SIZE n]
  else if id = 3 then R.CEN_GSCOUNT :: (List.range 7).map fun i => R.CEN_SPDBAND i
  else if 4 ≤ id ∧ id < 28 then fieldRegs (id - 4)
  else if id = 28 ∨ id = 29 then mapSetRegs (id - 28)
  else if 30 ≤ id ∧ id < 34 then camSetRegs (id - 30)
  else if id = 34 then axfSetRegs
  else if id = 35 then timSetRegs
  else if id = 36 then thmSetRegs
  else []

/-- What the judgement of a commit of one set finds: a busy cause, a content failure, or a pass (R77). -/
inductive Judge where
  | pass
  | busy (cause : Nat)
  | bad (cause index : Nat)
  deriving DecidableEq, Repr

/-- The lowest cause of a list of (cause, index) pairs, and its lowest index. -/
def lowestCause (fs : List (Nat × Nat)) : Judge :=
  match fs with
  | [] => .pass
  | f :: t =>
    let b := t.foldl (fun a x => if x.1 < a.1 ∨ (x.1 = a.1 ∧ x.2 < a.2) then x else a) f
    .bad b.1 b.2

/-- The lowest index of a list of (cause, index) pairs, and its lowest cause. -/
def lowestIndex (fs : List (Nat × Nat)) : Judge :=
  match fs with
  | [] => .pass
  | f :: t =>
    let b := t.foldl (fun a x => if x.2 < a.2 ∨ (x.2 = a.2 ∧ x.1 < a.1) then x else a) f
    .bad b.1 b.2

/-- A failure with a cause at an index, where a condition holds. -/
def failIf (c : Bool) (cause index : Nat) : List (Nat × Nat) := if c then [(cause, index)] else []

/-! ## Set 0: the DRAM partition (R30) -/

def State.dramCheck (s : State) : Judge :=
  let r (n : Nat) : Nat × Nat := (s.fld (R.GLB_DRAM_BASE n) F.GLB_DRAM_BASE_BASE, s.fld (R.GLB_DRAM_SIZE n) F.GLB_DRAM_SIZE_SIZE)
  let cap := s.fld R.GLB_DRAM_CAP F.GLB_DRAM_CAP_CAP
  let meets (a b : Nat) : Bool := a ≠ b && (r a).2 ≠ 0 && (r b).2 ≠ 0 && decide ((r a).1 < (r b).1 + (r b).2) &&
    decide ((r b).1 < (r a).1 + (r a).2)
  lowestIndex ((List.range 6).flatMap fun n =>
    failIf ((List.range 6).any (meets n)) 1 n ++ failIf ((r n).2 ≠ 0 && decide (cap < (r n).1 + (r n).2)) 2 n ++
      failIf (n = 4 && decide ((r 4).2 < 64)) 3 n)

/-! ## Set 1: the tile pool (R162 to R165) -/

/-- Staging slots in DRAM region 3. -/
def State.nslots (s : State) : Nat := min 255 ((s.dramRegion 3).2 / (36 * 2 ^ 20))

/-- DRAM address of staging slot `k`, from 1. -/
def State.slotBase (s : State) (k : Nat) : Nat := (s.dramRegion 3).1 + (k - 1) * (36 * 2 ^ 20)

/-- The tile count of a layer's image (R162). -/
def State.imageTiles (s : State) (layer : Nat) : Nat :=
  s.tsc.written.foldl (fun n p => if p.1 / 65536 = layer && p.2 then max n (p.1 % 65536 + 1) else n) 0

/-- Descriptor `i` of a layer's image. -/
def State.imageTile (s : State) (layer i : Nat) : TileD :=
  if layer = 0 then s.tileD i
  else tileOf (leNat (s.dramBytes (s.slotBase layer + 32 * 2 ^ 20 + 64 * i) 64))

/-- The program word at word address `w` as it will stand after the commit. -/
def State.imageWord (s : State) (layer w : Nat) : Nat :=
  if layer ≠ 0 ∧ sget (fun _ => false) (layer * 8192 + w / 512) s.tsc.pages = true then leNat (s.dramBytes (s.slotBase layer + 8 * w) 8)
  else s.sramNat (8 * w) 8

/-- The tiles on which tile `t` depends (R163). -/
def depsOf (ts : List TileD) (t : TileD) : List Nat :=
  (if t.dt then [t.depTile] else []) ++
    (if t.de then (List.range ts.length).filter fun j => match ts[j]? with
      | some u => u.pv && u.postEvt = t.depEvt
      | none => false
    else [])

/-- The tiles that a list of tiles depends on, directly or through others. -/
def depClosure (ts : List TileD) : Nat → List Nat → List Nat → List Nat
  | 0, seen, _ => seen
  | _ + 1, seen, [] => seen
  | k + 1, seen, front =>
    let next := (front.flatMap fun i => match ts[i]? with
      | some t => depsOf ts t
      | none => []).eraseDups.filter fun i => !seen.contains i
    depClosure ts k (seen ++ next) next

/-- Tile `i` lies on a dependency cycle. -/
def onCycle (ts : List TileD) (i : Nat) : Bool := (depClosure ts (ts.length + 1) [] [i]).contains i

/-- The commit-time causes of a tile (Table 6-2). -/
def State.tileFaults (s : State) (layer : Nat) (ts : List TileD) (i : Nat) (t : TileD) : List (Nat × Nat) :=
  if sget (fun _ => false) (layer * 65536 + i) s.tsc.written = false then [(9, i)]
  else
    let outside := (List.range 24).any fun h => bit t.elig h &&
      !(decide ((s.field h).x0 ≤ t.b.x0) && decide (t.b.x1 ≤ (s.field h).x1) && decide ((s.field h).y0 ≤ t.b.y0) &&
        decide (t.b.y1 ≤ (s.field h).y1))
    failIf (s.imageWord layer t.entry ≠ 0x50) 5 i ++ failIf outside 6 i ++
      failIf (t.dt && (decide (ts.length ≤ t.depTile) || t.depTile = i)) 7 i ++ failIf (onCycle ts i) 8 i ++
      failIf (match ts with
        | u :: _ => u.cal != t.cal
        | [] => false) 10 i

def State.poolBusy (s : State) : Bool :=
  (List.range s.ntiles).any fun i =>
    [Ts.running, Ts.interrupted, Ts.detour, Ts.parked, Ts.yielded].contains (s.tileState i)

def State.poolCheck (s : State) (layer : Nat) : Judge :=
  if s.poolBusy || s.tsc.copying.isSome then .busy 0
  else
    let ts := (List.range (s.imageTiles layer)).map (s.imageTile layer)
    lowestIndex ((List.range ts.length).flatMap fun i => match ts[i]? with
      | some t => s.tileFaults layer ts i t
      | none => [])

/-- Set 1 goes live: `n` tiles, no posted event, status words and contexts afresh (R164). -/
def State.poolLive (s : State) (layer n : Nat) : State :=
  let s := (List.range 8).foldl (fun s i => s.wr (R.TSC_EVT i) 0) s
  let s := { s with tsc := { s.tsc with ctxs := [], committed := true, copying := none,
                                        written := s.tsc.written.filter fun p => p.1 / 65536 ≠ layer } }
  let s := ((s.wr R.TSC_NTILES (BitVec.ofNat 32 n)).wr R.TSC_PARKCNT 0).setFld R.TSC_STAT F.TSC_STAT_COMMITTED 1
  let s := s.sramFill 0x3640000 0x40000 []
  (List.range n).foldl (fun s i =>
    let t := s.tileD i
    s.setStatus i (BitVec.ofNat 32 (if t.twin then Ts.template else if t.dt || t.de then Ts.waiting else Ts.ready))) s

/-- The staged pages and descriptors of slot `k` are copied into SRAM (R165). -/
def State.stagingCopy (s : State) (k : Nat) : State :=
  let base := s.slotBase k
  let s := (List.range 8192).foldl (fun s p =>
    if sget (fun _ => false) (k * 8192 + p) s.tsc.pages then s.sramFill (4096 * p) 4096 (srange s.mem.dram (base + 4096 * p) 4096) else s) s
  let s := s.sramFill 0x2000000 (64 * s.imageTiles k) (srange s.mem.dram (base + 32 * 2 ^ 20) (64 * s.imageTiles k))
  { s with tsc := { s.tsc with pages := s.tsc.pages.filter fun p => p.1 / 8192 ≠ k } }

/-! ## Set 2: curves and density tables (R213, R214) -/

/-- The failures of the nonzero bytes of the half: cause 1 with a head, 0 where none is named. -/
def State.curveFaults (s : State) (half : Nat) (o : Nat) : List (Nat × Nat) :=
  if o < 0xC0000 then
    let h := o / 0x8000
    failIf (decide (1028 ≤ o % 0x800) || decide (65536 < s.sramNat (half + o / 4 * 4) 4)) 1 h
  else if o < 0xC0060 then failIf (decide (2 ≤ o % 4)) 1 ((o - 0xC0000) / 4)
  else failIf (decide (o < 0xC1000) || decide (0xC1400 ≤ o) || decide (o % 64 < 4)) 1 0

/-- A curve that a beamlet of the head's sequencer has selected loses its PRESENT bit. -/
def State.curveGone (s : State) (h : Nat) : Bool :=
  let q := s.seq (s.seqOf h)
  (List.range 8).any fun b =>
    let k := q.shape.curves / 2 ^ (4 * b) % 16
    s.present s.curveLive h k && !s.present s.curveShadow h k

def State.bldCheck (s : State) : Judge :=
  if s.fld R.BLD_STAT F.BLD_STAT_COPYING = 1 then .busy 3
  else lowestCause ((srange s.mem.sram s.curveShadow 0x100000).flatMap (fun p => s.curveFaults s.curveShadow p.1) ++
    (List.range 24).flatMap fun h => failIf (s.curveGone h) 2 h)

/-! ## Set 3: gain sets and control programs (R270, R271) -/

/-- A source or destination code of an auxiliary loop is reserved (Table 9-7). -/
def auxReserved (d : LoopD) : Bool := decide (16 < d.src0) || decide (16 < d.src1) || decide (8 < d.dest)

def State.cenCheck (s : State) : Judge :=
  if s.fld R.CEN_STAT F.CEN_STAT_COPYING = 1 then .busy 6
  else
    let b := s.ctlShadow
    let n := s.fld R.CEN_GSCOUNT F.CEN_GSCOUNT_COUNT
    let d (l : Nat) : LoopD := s.loopD b l
    let word (p i : Nat) : Nat := s.sramNat (b + 0x400 * p + 8 * i) 8
    let lim (g o : Nat) : Int := s.sramInt (b + 0x10000 + 0x100 * g + o)
    let thr (i : Nat) : Nat := (s.rd (R.CEN_SPDBAND i)).toNat
    let shares (l : Nat) : Bool := (List.range 16).any fun k =>
      192 + k ≠ l && (d (192 + k)).en && (d (192 + k)).eng = (d l).eng && (d (192 + k)).grp = (d l).grp
    lowestCause (
      ((List.range 208).flatMap fun l => failIf ((d l).en && !ctlProgOk (word (d l).prog) 128) 1 l) ++
      ((List.range (min n 256)).flatMap fun g =>
        failIf ((List.range 8).any fun p => decide (lim g (0x4C + 8 * p) < lim g (0x48 + 8 * p))) 2 g) ++
      failIf ((List.range 6).any fun i => decide (thr (i + 1) < thr i)) 3 0 ++
      ((List.range 16).flatMap fun k =>
        let e := d (192 + k)
        failIf (e.en && (decide (11 < e.eng) || decide (4 < e.grp) || auxReserved e || shares (192 + k))) 4 (192 + k)) ++
      failIf (n = 0 || decide (256 < n)) 5 0 ++
      ((List.range 208).flatMap fun l => failIf (d l).reserved 7 l))

/-! ## Sets 4 to 27: correction of a head (R384) -/

/-- What Table 14-2 judges at the snapshot. -/
def State.geoBusy (s : State) (h : Nat) (timed : Bool) : Judge :=
  if s.cal.kind = 1 && s.cal.heads.contains h then .busy 4
  else if timed then .busy 5
  else if s.cal.copying.contains h then .busy 6
  else .pass

def inField (b : Bounds) (f : Bounds) : Bool :=
  decide (f.x0 ≤ b.x0) && decide (b.x1 ≤ f.x1) && decide (f.y0 ≤ b.y0) && decide (b.y1 ≤ f.y1)

/-- The content check of a bank with its field bounds: causes 1 to 3. -/
def State.geoCheck (s : State) (h : Nat) (bank : Sparse Byte) (f : Bounds) : Judge :=
  let par (i : Nat) : Int := sgn 32 (leNat (readBytes bank (0xFF00 + 4 * i) 4))
  let tiles := (List.range s.ntiles).any fun i =>
    !finalState (s.tileState i) && bit (s.tileD i).elig h && !inField (s.tileD i).b f
  lowestCause (failIf (tiles || decide (f.x1 < f.x0) || decide (f.y1 < f.y0)) 1 0 ++
    failIf (par 1 * par 5 - par 2 * par 4 = 0) 2 0 ++
    failIf (bank.any fun p => (decide (0xC60C ≤ p.1) && decide (p.1 < 0xFF00)) || decide (0xFF20 ≤ p.1)) 3 0)

/-! ## Sets 28 and 29: mirror-array ports (R301, R302) -/

def State.mapCheck (s : State) (p : Nat) : Judge :=
  if (s.map p).unlatched then .busy 8
  else
    let f (o : Nat) (x : Fld) : Nat := s.fld o x
    let l (o : Nat) (x : Fld) : Nat := s.lfld o x
    let w := f (R.MAP_GEOM p) F.MAP_GEOM_WIDTH
    let h := f (R.MAP_GEOM p) F.MAP_GEOM_HEIGHT
    let npl := f (R.MAP_FRAME p) F.MAP_FRAME_NPL
    let vb := f (R.MAP_FRAME p) F.MAP_FRAME_VB
    let z := f (R.MAP_FRAME p) F.MAP_FRAME_FSIZE
    let tset := f (R.MAP_TIMING p) F.MAP_TIMING_TSET
    let trst := f (R.MAP_TIMING p) F.MAP_TIMING_TRST
    let gd := f (R.MAP_GUARD p) F.MAP_GUARD_GUARD
    let ks := List.range (min npl 16)
    let plen (k : Nat) : Nat := f (R.MAP_SEQ_B p k) F.MAP_SEQ_B_PLEN
    let top := ks.foldl (fun v k => max v (f (R.MAP_SEQ_A p k) F.MAP_SEQ_A_PLANE)) 0
    let badClass (c : Nat) : Bool := !s.classOf p c
    lowestCause (
      failIf (w % 256 ≠ 0 || w = 0 || decide (4096 < w) || h % 4 ≠ 0 || h = 0 || decide (2560 < h)) 1 0 ++
      failIf (npl = 0 || decide (16 < npl) || vb = 0) 2 0 ++
      failIf ((ks.foldl (fun v k => v + plen k) 0) % 1250 ≠ 0) 3 0 ++
      failIf (ks.any fun k => decide (plen k < 208333) || decide (plen k < trst + 250 * (h / 4) + 1250 * (vb + 1)) ||
        decide (plen k < tset + gd + 1)) 4 0 ++
      failIf (z = 0 || decide (z * 2 ^ 20 < (top + 1) * h * w / 8) || decide ((s.dramRegion p).2 < z * 2 ^ 20)) 5 0 ++
      failIf (ks.any fun k => (List.range 4).any fun c => bit (f (R.MAP_SEQ_A p k) F.MAP_SEQ_A_CMASK) c && badClass c) 6 0 ++
      failIf (p = 1 && s.tiled) 7 0 ++
      failIf (s.fld (R.MAP_STAT p) F.MAP_STAT_RUN = 1 &&
        (w ≠ l (R.MAP_GEOM p) F.MAP_GEOM_WIDTH || h ≠ l (R.MAP_GEOM p) F.MAP_GEOM_HEIGHT ||
          z ≠ l (R.MAP_FRAME p) F.MAP_FRAME_FSIZE || trst ≠ l (R.MAP_TIMING p) F.MAP_TIMING_TRST ||
          vb ≠ l (R.MAP_FRAME p) F.MAP_FRAME_VB)) 9 0)

/-- The deciding instant of a commit of port `p`: after V_n of a running frame it applies one frame later (R301). -/
def State.mapDecide (s : State) (p : Nat) : State :=
  let m := s.map p
  if m.cur.isSome && !m.next.isEmpty then
    ((s.setMap p { m with lateDue := true }).setFld (R.MAP_STAT p) F.MAP_STAT_LATE 1).inc (R.MAP_LATECOMMIT p) 1
  else s.setMap p { m with lateDue := false }

/-! ## Sets 30 to 33: exposure sets (R345) -/

def State.camCheck (s : State) (c : Nat) : Judge :=
  let f (o : Nat) (x : Fld) : Nat := s.fld o x
  let w := f (R.CAM_GEOM c) F.CAM_GEOM_WIDTH
  let h := f (R.CAM_GEOM c) F.CAM_GEOM_HEIGHT
  let bits := f (R.CAM_ESET c) F.CAM_ESET_BITS
  let kind := f (R.CAM_ESET c) F.CAM_ESET_KIND
  let code := f (R.CAM_ESET c) F.CAM_ESET_CODE = 1
  let src := f (R.CAM_TRIG c) F.CAM_TRIG_SRC
  let en (r : Nat) : Bool := f (R.CAM_ROI_X c r) F.CAM_ROI_X_EN = 1
  let x0 (r : Nat) : Nat := f (R.CAM_ROI_X c r) F.CAM_ROI_X_X0
  let x1 (r : Nat) : Nat := f (R.CAM_ROI_X c r) F.CAM_ROI_X_X1
  let y0 (r : Nat) : Nat := f (R.CAM_ROI_Y c r) F.CAM_ROI_Y_Y0
  let y1 (r : Nat) : Nat := f (R.CAM_ROI_Y c r) F.CAM_ROI_Y_Y1
  let ew := x1 0 + 1 - x0 0
  let eh := y1 0 + 1 - y0 0
  let nband := f (R.CAM_GRID c) F.CAM_GRID_NBAND
  let nx := f (R.CAM_GRID c) F.CAM_GRID_NX
  let ny := f (R.CAM_GRID c) F.CAM_GRID_NY
  let across := if f (R.CAM_GRID c) F.CAM_GRID_BANDDIR = 1 then eh else ew
  lowestCause (
    failIf (w % 16 ≠ 0 || decide (w < 16) || decide (4096 < w) || h = 0 || decide (4096 < h)) 1 0 ++
    failIf (decide (bits < 8) || decide (16 < bits) || decide (3 ≤ kind)) 2 0 ++
    failIf (src = 6 || src = 7 || f (R.CAM_EXP c) F.CAM_EXP_EXP = 0 || (src = 1 && s.rd (R.CAM_PER c) = 0)) 3 0 ++
    failIf (((List.range 4).any fun r => en r && (decide (x1 r < x0 r) || decide (y1 r < y0 r) || decide (w ≤ x1 r) || decide (h ≤ y1 r))) ||
      ((kind = 1 || kind = 2) && !en 0)) 4 0 ++
    failIf ((kind = 2 && (nband = 0 || decide (64 < nband) || decide (across < nband))) ||
      (kind = 1 && code && (nx = 0 || decide (32 < nx) || ny = 0 || decide (32 < ny) || decide (ew < nx) || decide (eh < ny)))) 5 0)

/-! ## Set 34: axes and waymarks (R336) -/

/-- A sequencer waits on a waymark of axis `a`, or products of the axis are open. -/
def State.axisBusy (s : State) (a : Nat) : Bool :=
  ((List.range 26).any fun n => match (s.seq n).act with
    | .waitWm x _ _ _ => x = a
    | _ => false) ||
  ((List.range 4096).any fun r =>
    (s.prodState r = 1 || s.prodState r = 2) && s.pdFld (s.sramNat (prodAddr r + 2) 1 % 4) F.AXF_PDET_CFG_AXIS = a)

def State.axfCheck (s : State) : Judge :=
  let f (o : Nat) (x : Fld) : Nat := s.fld o x
  let type (a : Nat) : Nat := f (R.AXF_AX_CFG a) F.AXF_AX_CFG_TYPE
  let on (a : Nat) : Bool := f (R.AXF_AX_CFG a) F.AXF_AX_CFG_EN = 1
  let cfg2 (a : Nat) : Nat := (s.rd (R.AXF_AX_CFG2 a)).toNat
  let pd (d : Nat) (x : Fld) : Nat := f (R.AXF_PDET_CFG d) x
  let md (m : Nat) (x : Fld) : Nat := f (R.AXF_MD_CFG m) x
  lowestCause (
    ((List.range 8).flatMap fun a =>
      failIf (decide (4 ≤ type a) || (f (R.AXF_AX_CFG a) F.AXF_AX_CFG_IDXMODE ≠ 0 && (type a = 2 || type a = 3)) ||
        (type a = 2 && (decide (cfg2 a % 64 < 8) || decide (48 < cfg2 a % 64) || decide (cfg2 a / 256 % 256 < 7)))) 1 a ++
      failIf (on a && f (R.AXF_AX_HYST a) F.AXF_AX_HYST_HYST = 0) 2 a ++
      failIf (decide (4096 < f (R.AXF_AX_CFG a) F.AXF_AX_CFG_WMLEN)) 3 a ++
      failIf (type a ≠ s.lfld (R.AXF_AX_CFG a) F.AXF_AX_CFG_TYPE && s.axisBusy a) 4 a) ++
    ((List.range 4).flatMap fun d =>
      failIf (pd d F.AXF_PDET_CFG_EN = 1 && (decide (intOf (s.rd (R.AXF_PDET_REJOFS d)) ≤ 0) || !on (pd d F.AXF_PDET_CFG_AXIS))) 5 d) ++
    ((List.range 4).flatMap fun m =>
      failIf (md m F.AXF_MD_CFG_EN = 1 && (!on (md m F.AXF_MD_CFG_AXIS) || (List.range 4).any fun k =>
        k ≠ m && md k F.AXF_MD_CFG_EN = 1 && md k F.AXF_MD_CFG_NODE = md m F.AXF_MD_CFG_NODE)) 6 m))

/-- Set 34 goes live: a change of TYPE sets the counter to 0 and clears REFD; mode 3 awaits its first index (R319, R336). `old` gives the live
words before. -/
def State.axfLive (s : State) (old : Nat → Word) : State :=
  (List.range 8).foldl (fun s a =>
    let was := old (R.AXF_AX_CFG a)
    let now := s.lv (R.AXF_AX_CFG a)
    let s := if fget was F.AXF_AX_CFG_TYPE ≠ fget now F.AXF_AX_CFG_TYPE then
        ((s.setAxis a { Axis.reset with judge := true, pubT := (s.axis a).pubT }).setPos a 0).setFld (R.AXF_AX_STAT a) F.AXF_AX_STAT_REFD 0
      else s
    s.setAxis a { s.axis a with refDue := decide (fget now F.AXF_AX_CFG_IDXMODE = 3) }) s

/-! ## Set 35: PTP (R379) -/

def State.timCheck (s : State) : Judge :=
  let f (o : Nat) (x : Fld) : Nat := s.fld o x
  let log (x : Fld) : Int := sgn 4 (f R.TIM_PTP_INT x)
  let cfg (x : Fld) : Nat := f R.TIM_PTP_CFG x
  let range (v lo hi : Int) : Bool := decide (v < lo) || decide (hi < v)
  let named (p : Nat) : Bool := bit (cfg F.TIM_PTP_CFG_PORTEN) p && f (R.TIM_P_CFG p) F.TIM_P_CFG_EN = 0
  lowestCause (
    failIf (cfg F.TIM_PTP_CFG_PROFILE = 3 || (cfg F.TIM_PTP_CFG_PROFILE = 2 && cfg F.TIM_PTP_CFG_UDP = 1)) 1 0 ++
    failIf (range (log F.TIM_PTP_INT_LOGSYNC) (-7) 1 || range (log F.TIM_PTP_INT_LOGANN) (-3) 4 ||
      range (log F.TIM_PTP_INT_LOGPDELAY) (-3) 4) 2 0 ++
    failIf (f R.TIM_PTP_LIM F.TIM_PTP_LIM_CAPTURE = 0 || f R.TIM_PTP_LIM F.TIM_PTP_LIM_RCAP = 0 ||
      decide (200 < f R.TIM_PTP_LIM F.TIM_PTP_LIM_RCAP)) 3 0 ++
    failIf ((cfg F.TIM_PTP_CFG_EN = 1 && cfg F.TIM_PTP_CFG_PORTEN = 0) || named 0 || named 1) 4 0)

/-- Set 35 goes live: a change of EN, PROFILE, UDP or PORTEN restarts the servo in LISTENING with I = 0. -/
def State.timLive (s : State) (was : Word) : State :=
  let now := s.lv R.TIM_PTP_CFG
  let same (x : Fld) : Bool := fget was x = fget now x
  if same F.TIM_PTP_CFG_EN && same F.TIM_PTP_CFG_PROFILE && same F.TIM_PTP_CFG_UDP && same F.TIM_PTP_CFG_PORTEN then s
  else
    let s := s.setPtp { Ptp.reset with since := sput (fun _ => 0) 0 s.now (sput (fun _ => 0) 1 s.now []), txSeq := s.tim.ptp.txSeq }
    let s := ((s.wr R.TIM_PTP_I 0).setFld R.TIM_PTP_STAT F.TIM_PTP_STAT_LOCKED 0).setServo
      (if fget now F.TIM_PTP_CFG_EN = 1 then Sv.listening else Sv.disabled)
    (List.range 2).foldl (fun s p => s.setPort p (if s.ptpPort p then 1 else 0)) s

/-! ## Set 36: thermal thresholds (R397) -/

def State.thmCheck (s : State) : Judge :=
  let v (o : Nat) (x : Fld) : Int := sgn 16 (s.fld o x)
  let any2 (k : Nat → Bool) : Bool := k 0 || k 1
  lowestCause (
    failIf (any2 (fun g => decide (v (R.THM_THR_LVL g) F.THM_THR_LVL_HOT < v (R.THM_THR_LVL g) F.THM_THR_LVL_WARN)) ||
      decide (125 * 256 ≤ v (R.THM_THR_LVL 0) F.THM_THR_LVL_HOT)) 1 0 ++
    failIf (any2 (fun g => decide (v (R.THM_THR_EXP g) F.THM_THR_EXP_EXPMAX < v (R.THM_THR_EXP g) F.THM_THR_EXP_EXPMIN)) ||
      decide (v R.THM_FLWIN F.THM_FLWIN_FLMAX < v R.THM_FLWIN F.THM_FLWIN_FLMIN)) 2 0 ++
    failIf (any2 fun g => s.fld (R.THM_THR_DYN g) F.THM_THR_DYN_RISE = 0 || s.fld (R.THM_THR_DYN g) F.THM_THR_DYN_HYST = 0) 3 0)

/-! ## Any set -/

/-- A timed commit of the set has taken its snapshot and is not yet live (R79). -/
def State.timedPending (s : State) (id : Nat) : Bool := s.pend.any fun p => p.timed && p.sets.contains id && p.failed.isNone

/-- The cause that a block records for a pending timed commit; 0 where it has no code (R79). -/
def pendingCause (id : Nat) : Nat :=
  if id = 28 ∨ id = 29 then 8 else if 30 ≤ id ∧ id < 34 then 6 else if id = 34 then 7 else if id = 35 then 5 else if id = 36 then 4 else 0

/-- The judgement of a commit of set `id` at its snapshot; `layer` is the image of set 1 (R77, R79). -/
def State.judge (s : State) (id layer : Nat) : Judge :=
  let timed := s.timedPending id
  if 4 ≤ id ∧ id < 28 then s.geoBusy (id - 4) timed
  else
    let j : Judge :=
      if id = 0 then s.dramCheck
      else if id = 1 then s.poolCheck layer
      else if id = 2 then s.bldCheck
      else if id = 3 then s.cenCheck
      else if id = 28 ∨ id = 29 then s.mapCheck (id - 28)
      else if 30 ≤ id ∧ id < 34 then s.camCheck (id - 30)
      else if id = 34 then s.axfCheck
      else if id = 35 then s.timCheck
      else s.thmCheck
    if !timed then j
    else match j with
      | .busy c => .busy (min c (pendingCause id))
      | _ => .busy (pendingCause id)

/-- COMMIT_REJECT of a set, with its cause and index (R77, R79). -/
def State.setReject (s : State) (id cause index : Nat) : State :=
  let put (r : Nat) (rej c : Fld) : State := (s.setFld r rej 1).setFld r c cause
  if id = 0 then (put R.GLB_DRAM_STAT F.GLB_DRAM_STAT_COMMIT_REJECT F.GLB_DRAM_STAT_REJ_CAUSE).setFld
    R.GLB_DRAM_STAT F.GLB_DRAM_STAT_REJ_REGION index
  else if id = 1 then (s.setFld R.TSC_STAT F.TSC_STAT_COMMIT_REJECT 1).wr R.TSC_REJ (BitVec.ofNat 32 (index * 2 ^ 16 + cause))
  else if id = 2 then (put R.BLD_STAT F.BLD_STAT_COMMIT_REJECT F.BLD_STAT_REJ_CAUSE).setFld R.BLD_STAT F.BLD_STAT_REJ_HEAD index
  else if id = 3 then (put R.CEN_STAT F.CEN_STAT_COMMIT_REJECT F.CEN_STAT_REJ_CAUSE).setFld R.CEN_STAT F.CEN_STAT_REJ_INDEX index
  else if id < 28 then put (R.GEO_H_STAT (id - 4)) F.GEO_H_STAT_COMMIT_REJECT F.GEO_H_STAT_REJ_CAUSE
  else if id < 30 then put (R.MAP_STAT (id - 28)) F.MAP_STAT_COMMIT_REJECT F.MAP_STAT_REJ_CAUSE
  else if id < 34 then put (R.CAM_STAT (id - 30)) F.CAM_STAT_COMMIT_REJECT F.CAM_STAT_REJ_CAUSE
  else if id = 34 then (put R.AXF_STAT F.AXF_STAT_COMMIT_REJECT F.AXF_STAT_REJ_CAUSE).setFld R.AXF_STAT F.AXF_STAT_REJ_INDEX index
  else if id = 35 then put R.TIM_STAT F.TIM_STAT_COMMIT_REJECT F.TIM_STAT_REJ_CAUSE
  else put R.THM_STAT F.THM_STAT_COMMIT_REJECT F.THM_STAT_REJ_CAUSE

/-- COMMITTED of a set that goes live. -/
def State.setCommitted (s : State) (id : Nat) : State :=
  if id = 0 then s.setFld R.GLB_DRAM_STAT F.GLB_DRAM_STAT_COMMITTED 1
  else if id = 1 then s.setFld R.TSC_STAT F.TSC_STAT_COMMITTED 1
  else if id = 2 then s.setFld R.BLD_STAT F.BLD_STAT_COMMITTED 1
  else if id = 3 then s.setFld R.CEN_STAT F.CEN_STAT_COMMITTED 1
  else if id < 28 then s.setFld (R.GEO_H_STAT (id - 4)) F.GEO_H_STAT_COMMITTED 1
  else if id < 30 then s.setFld (R.MAP_STAT (id - 28)) F.MAP_STAT_COMMITTED 1
  else if id < 34 then s.setFld (R.CAM_STAT (id - 30)) F.CAM_STAT_COMMITTED 1
  else if id = 34 then s.setFld R.AXF_STAT F.AXF_STAT_COMMITTED 1
  else if id = 35 then s.setFld R.TIM_STAT F.TIM_STAT_COMMITTED 1
  else s.setFld R.THM_STAT F.THM_STAT_COMMITTED 1

/-- What the block of a set does at a snapshot that passes so far: BLD and CEN hold shadow writes (R213, R270), GEO fills its standby bank
(R384), a mirror-array port decides the frame served (R301). -/
def State.snapshot (s : State) (id : Nat) (timed : Bool) : State :=
  if id = 2 then { s with bld := { s.bld with holding := true } }
  else if id = 3 then { s with cen := { s.cen with holding := true } }
  else if 4 ≤ id ∧ id < 28 then
    let h := id - 4
    let c := s.cal
    { s with cal := { c with copying := c.copying ++ [h], banks := sput (fun _ => []) h (srange s.mem.sram (geoShadow h) 0x10000) c.banks } }
  else if id = 28 ∨ id = 29 then
    let s := s.setMap (id - 28) { s.map (id - 28) with unlatched := true }
    if timed then s else s.mapDecide (id - 28)
  else s

/-- Held shadow writes of BLD are applied to the shadow half, in order (R213). -/
def State.bldFlush (s : State) : State :=
  let base := s.curveShadow
  let s := s.bld.held.foldl (fun s p => s.sramPut (base + p.1) p.2) s
  { s with bld := { s.bld with held := [], holding := false } }

def State.cenFlush (s : State) : State :=
  let base := s.ctlShadow
  let s := s.cen.held.foldl (fun s p => s.sramPut (base + p.1) p.2) s
  { s with cen := { s.cen with held := [], holding := false } }

/-- The writes held for head `h` during its copy are applied, in order (R384). -/
def State.geoFlush (s : State) (h : Nat) : State :=
  let mine (x : Bool × Nat × List Byte) : Bool :=
    if x.1 then (fieldRegs h).contains x.2.1 else decide (geoShadow h ≤ x.2.1) && decide (x.2.1 < geoShadow h + 0x10000)
  let s := (s.cal.held.filter mine).foldl (fun s x =>
    if x.1 then s.wr x.2.1 (BitVec.ofNat 32 (leNat x.2.2)) else s.sramPut x.2.1 x.2.2) s
  { s with cal := { s.cal with held := s.cal.held.filter fun x => !mine x, copying := s.cal.copying.filter (· ≠ h) } }

/-- A snapshot that will not go live is dropped: what its blocks held or awaited ends. -/
def State.unsnap (s : State) (sets : List Nat) : State :=
  sets.foldl (fun s id =>
    if id = 2 then (if s.pend.any (fun p => p.sets.contains 2) || s.fld R.BLD_STAT F.BLD_STAT_COPYING = 1 then s else s.bldFlush)
    else if id = 3 then (if s.pend.any (fun p => p.sets.contains 3) || s.fld R.CEN_STAT F.CEN_STAT_COPYING = 1 then s else s.cenFlush)
    else if id = 28 ∨ id = 29 then s.setMap (id - 28) { s.map (id - 28) with unlatched := false }
    else s) s

/-- The word of a register in a snapshot. -/
def Pending.word (p : Pending) (r : Nat) : Word := ((p.regs.find? fun x => x.1 = r).map Prod.snd).getD 0

/-- The live copy of a register (R77). -/
def State.setLive (s : State) (r : Nat) (w : Word) : State := { s with live := sput regReset r w s.live }

/-- Set 30 + c goes live at this boundary: a trigger that awaits its frame and whose instant is not before it uses the new set (R344). -/
def State.camRetarget (s : State) (c : Nat) : State :=
  let set := (camSetRegs c).map s.lv
  s.setCam c { s.cam c with await := (s.cam c).await.map fun t =>
    if s.now * 5 ≤ t.at_ * 2 then { t with set := set } else t }

/-- Set `id` of a snapshot goes live (R77). -/
def State.goLiveSet (s : State) (p : Pending) (id : Nat) : State :=
  let old := s.lv
  let entry (l : Nat) : LoopD := s.loopD s.ctlLive l
  let entry' (l : Nat) : LoopD := s.loopD s.ctlShadow l
  let s1 := (setRegs id).foldl (fun s r => s.setLive r (p.word r)) s
  if id = 0 then
    let r := (List.range 6).map fun n =>
      (fget (p.word (R.GLB_DRAM_BASE n)) F.GLB_DRAM_BASE_BASE, fget (p.word (R.GLB_DRAM_SIZE n)) F.GLB_DRAM_SIZE_SIZE)
    ({ s1 with glb := { s1.glb with dramLive := r } }).setCommitted 0
  else if id = 1 then s1.poolLive (s1.tsc.copying.getD 0) p.tiles
  else if id = 2 then
    if s1.fld R.BLD_STAT F.BLD_STAT_COPYING = 1 then s1
    else ((s1.setFld R.BLD_STAT F.BLD_STAT_SHADOW (1 - s1.fld R.BLD_STAT F.BLD_STAT_SHADOW)).setFld
      R.BLD_STAT F.BLD_STAT_COPYING 1).setCommitted 2
  else if id = 3 then
    if s1.fld R.CEN_STAT F.CEN_STAT_COPYING = 1 then s1
    else
      let changed := (List.range 208).filter fun l => (entry l).prog ≠ (entry' l).prog || (!(entry l).en && (entry' l).en)
      let s2 := changed.foldl (fun s l => s.setLoop l (s.loop l).cleared) s1
      ((s2.setFld R.CEN_STAT F.CEN_STAT_SHADOW (1 - s2.fld R.CEN_STAT F.CEN_STAT_SHADOW)).setFld
        R.CEN_STAT F.CEN_STAT_COPYING 1).setCommitted 3
  else if id < 28 then (s1.sramFill (geoLive (id - 4)) 0x10000 (sget (fun _ => []) (id - 4) s1.cal.banks)).setCommitted id
  else if id < 30 then
    let s2 := if p.timed then s1.mapDecide (id - 28) else s1
    let m := s2.map (id - 28)
    (s2.setMap (id - 28) { m with served := if m.lateDue then 2 else 1, lateDue := false }).setCommitted id
  else if 30 ≤ id ∧ id < 34 then (s1.camRetarget (id - 30)).setCommitted id
  else if id = 34 then (s1.axfLive old).setCommitted 34
  else if id = 35 then (s1.timLive (old R.TIM_PTP_CFG)).setCommitted 35
  else s1.setCommitted id

/-- A pending snapshot goes live, and the command that waits for it ends. -/
def State.goLive (s : State) (p : Pending) : State :=
  let s := { s with pend := s.pend.filter fun x => x.id ≠ p.id }
  let s := p.sets.foldl (fun s id => s.goLiveSet p id) s
  match p.seq with
  | some n => match s.cmd n with
    | some c => s.endCmd c St.done (if c.op = 0x0B then p.tiles else 0) 0
    | none => s
  | none => s

/-- A snapshot is ready for the tick boundary at `t` ns. -/
def Pending.ready (p : Pending) (t : Nat) : Bool := p.notReady.isEmpty && p.failed.isNone && decide (p.earliest ≤ t)

/-- Everything ready goes live at the tick boundary at `t` ns, in the order of the snapshots. -/
def State.goLiveAll (s : State) (t : Nat) : State := (s.pend.filter fun p => p.ready t).foldl State.goLive s

/-- The preparation of set `id` has ended for the snapshots that wait for it. -/
def State.nowReady (s : State) (id : Nat) : State :=
  { s with pend := s.pend.map fun p => { p with notReady := p.notReady.filter (· ≠ id) } }

/-- A failed mask whose checks have all ended ends its command (R78). -/
def State.endFailed (s : State) : State :=
  (s.pend.filter fun p => p.failed.isSome && p.notReady.isEmpty).foldl (fun s p =>
    let s := { s with pend := s.pend.filter fun x => x.id ≠ p.id }
    let s := s.unsnap p.sets
    match p.seq, p.failed with
    | some n, some (id, st) => s.endSeq n st id 0
    | _, _ => s) s

/-- The lower of two failures, by set ID (R78). -/
def lowerFail (a : Option (Nat × Nat)) (id st : Nat) : Option (Nat × Nat) :=
  match a with
  | some (i, t) => if id < i then some (id, st) else some (i, t)
  | none => some (id, st)

/-- A commit of the sets of a list takes its snapshot and is judged (R77, R78). `earliest` is the time from which it may go live, `layer` the
image of set 1. The result tells the lowest set that failed at the snapshot, if any. -/
def State.commit (s : State) (ids : List Nat) (seq : Option Nat) (timed : Bool) (earliest layer : Nat) : State :=
  let js := ids.map fun id => (id, s.judge id layer)
  let regs := ids.flatMap fun id => (setRegs id).map fun r => (r, s.rd r)
  let tiles := s.imageTiles layer
  let failed := js.foldl (fun a x => match x.2 with
    | .pass => a
    | .busy _ => lowerFail a x.1 St.notReady
    | .bad _ _ => lowerFail a x.1 St.commitReject) none
  let s := js.foldl (fun s x => match x.2 with
    | .pass => s
    | .busy c => s.setReject x.1 c 0
    | .bad c i => s.setReject x.1 c i) s
  let passed := (js.filter fun x => x.2 = .pass).map Prod.fst
  let copies := passed.filter fun id => decide (4 ≤ id) && decide (id < 28)
  let hold := if failed.isSome then copies else passed
  let s := hold.foldl (fun s id => s.snapshot id timed) s
  let staged := layer ≠ 0 && failed.isNone
  let s := if staged then { s with tsc := { s.tsc with copying := some layer } } else s
  let p : Pending := ⟨s.nextPend, hold, if staged then 1 :: copies else copies, seq, timed, earliest, regs, tiles, failed⟩
  ({ s with nextPend := s.nextPend + 1, pend := s.pend ++ [p] }).endFailed

/-! ## Register commits -/

/-- A write of GO = 1 to the COMMIT register of set `id` (R78). -/
def State.regCommit (s : State) (id : Nat) : State := s.commit [id] none false 0 0

/-- DRAM_COMMIT (R29, R30): GLB_DRAM_COMMIT is writable in IDLE and SERVICE only. -/
def State.dramCommitWrite (s : State) (v : Word) : State :=
  if !s.unlocked then s.lockviol else if fget v F.GLB_DRAM_COMMIT_GO = 1 then s.regCommit 0 else s

/-- DRAM_COMMIT (R30): Writing GLB_DRAM_COMMIT.GO checks the DRAM region shadow set and makes it live if it passes. -/
def execDramCommit (v : Word) (s : State) : Res State := hostOp s fun s => s.dramCommitWrite v

/-- BLD_COMMIT (R214). -/
def execBldCommit (v : Word) (s : State) : Res State := hostOp s fun s => if fget v F.BLD_COMMIT_GO = 1 then s.regCommit 2 else s

/-- CEN_COMMIT (R271). -/
def execCenCommit (v : Word) (s : State) : Res State := hostOp s fun s => if fget v F.CEN_COMMIT_GO = 1 then s.regCommit 3 else s

/-- GEO_COMMIT (R384): set 4 + h. -/
def execGeoCommit (h : Nat) (v : Word) (s : State) : Res State :=
  hostOp s fun s => if h < 24 ∧ fget v F.GEO_H_COMMIT_GO = 1 then s.regCommit (4 + h) else s

/-- MAP_COMMIT (R302): set 28 + p. -/
def execMapCommit (p : Nat) (v : Word) (s : State) : Res State :=
  hostOp s fun s => if p < 2 ∧ fget v F.MAP_COMMIT_GO = 1 then s.regCommit (28 + p) else s

/-- CAM_COMMIT (R344): set 30 + c. -/
def execCamCommit (c : Nat) (v : Word) (ns : Nat) (s : State) : Res State :=
  hostOp s fun s =>
    let s := s.arrive ns
    if c < 4 ∧ fget v F.CAM_COMMIT_GO = 1 then s.regCommit (30 + c) else s

/-- AXF_COMMIT (R336). -/
def execAxfCommit (v : Word) (s : State) : Res State := hostOp s fun s => if fget v F.AXF_COMMIT_GO = 1 then s.regCommit 34 else s

/-- TIM_COMMIT (R379). -/
def execTimCommit (v : Word) (s : State) : Res State := hostOp s fun s => if fget v F.TIM_COMMIT_GO = 1 then s.regCommit 35 else s

/-- THM_COMMIT (R397). -/
def execThmCommit (v : Word) (s : State) : Res State := hostOp s fun s => if fget v F.THM_COMMIT_GO = 1 then s.regCommit 36 else s

/-! ## The COMMIT and COMMIT_LAYER commands -/

/-- The modes that permit a commit of set `id` by command (Table 3-6; log entry 26). -/
def setMode (id : Nat) (m : Mode) : Bool :=
  if id = 0 then m = .idle || m = .service
  else if id = 1 then m = .idle || m = .armed || m = .hold
  else m ≠ .boot

/-- COMMIT (R75, R78): command `n`. -/
def execCommit (n : Nat) (s : State) : Res State :=
  done (s.runCmd 0x02 n fun c s =>
    let mask := c.arg 0 + c.arg 1 * 2 ^ 32
    let ids := (List.range 64).filter (bit mask)
    if mask = 0 then s.endCmd c St.empty 0 0
    else if ids.any fun id => decide (36 < id) then s.endCmd c St.badParam 0 0
    else if !ids.all fun id => setMode id s.mode then s.endCmd c St.wrongMode 0 0
    else
      let at_ := extendTs c.at64 s.now
      let late := c.timed && decide (at_ ≤ (s.now : Int) * 65536)
      let s := s.putCmd { c with wait := .commit, late := late }
      s.commit ids (some n) c.timed (if c.timed then cdiv at_.toNat 65536 else 0) 0)

/-- COMMIT_LAYER (R165): command `n`. -/
def execCommitLayer (n : Nat) (s : State) : Res State :=
  done (s.runCmd 0x0B n fun c s =>
    let k := c.arg 0
    if s.nslots < k then s.endCmd c St.badParam 0 0
    else (s.putCmd { c with wait := if k = 0 then .commit else .copy }).commit [1] (some n) false 0 k)

/-- STAGING_COPY_COMPLETE (R165): the copy of a staged layer ends, and set 1 is ready. -/
def execStagingCopyComplete (s : State) : Res State :=
  match s.tsc.copying with
  | none => done s
  | some k => if (s.pend.any fun p => p.notReady.contains 1) then done ((s.stagingCopy k).nowReady 1) else done s

/-- COMMIT_GO_LIVE (R77, R78): the snapshots that are ready go live at the next tick boundary. The commit with identity `i` is named; the
boundary itself is begun by TICK_BOUNDARY. -/
def execCommitGoLive (i : Nat) (s : State) : Res State :=
  let t := (s.tick + 1) * 500
  match s.pend.find? fun p => p.id = i && p.ready t with
  | some p => done (({ s with now := max s.now t }).goLive p)
  | none => done s

/-- CURVE_COPY_COMPLETE (R213): the live half has been copied, held writes are applied, and a LOAD_TABLE that waits for room goes on. -/
def execCurveCopyComplete (s : State) : Res State :=
  if s.fld R.BLD_STAT F.BLD_STAT_COPYING = 0 then done s
  else
    let s := (s.sramCopy s.curveLive s.curveShadow 0x100000).setFld R.BLD_STAT F.BLD_STAT_COPYING 0
    let s := s.bldFlush
    done (s.setCmds (s.hq.cmds.map fun c => if c.op = 0x0A ∧ c.wait = .copy then { c with wait := .run } else c))

/-- CONTROL_COPY_COMPLETE (R270). -/
def execControlCopyComplete (s : State) : Res State :=
  if s.fld R.CEN_STAT F.CEN_STAT_COPYING = 0 then done s
  else
    let s := (s.sramCopy s.ctlLive s.ctlShadow 0x80000).setFld R.CEN_STAT F.CEN_STAT_COPYING 0
    let s := s.cenFlush
    done (s.setCmds (s.hq.cmds.map fun c => if c.op = 0x0A ∧ c.wait = .copy then { c with wait := .run } else c))

/-- A snapshot that waits for set `id` fails with it. -/
def Pending.fail (p : Pending) (id : Nat) : Pending :=
  if p.notReady.contains id then { p with failed := lowerFail p.failed id St.commitReject } else p

/-- GEO_COPY_COMPLETE (R384): the bank of head `h` is filled, its content is checked, and held writes are applied. -/
def execGeoCopyComplete (h : Nat) (s : State) : Res State :=
  if !s.cal.copying.contains h then done s
  else
    let id := 4 + h
    let bank := sget (fun _ => []) h s.cal.banks
    let word (r : Nat) : Word := match s.pend.find? fun p => p.notReady.contains id with
      | some p => p.word r
      | none => 0
    let f : Bounds := ⟨intOf (word (R.TSC_H_FXMIN h)), intOf (word (R.TSC_H_FYMIN h)), intOf (word (R.TSC_H_FXMAX h)),
      intOf (word (R.TSC_H_FYMAX h))⟩
    let j := s.geoCheck h bank f
    let s := match j with
      | .bad c _ =>
        let s := s.setReject id c 0
        { s with pend := s.pend.map fun (p : Pending) => p.fail id }
      | _ => s
    done ((s.geoFlush h).nowReady id).endFailed

end Sys2Proof.Machine
end

