-- ==== Sys2Proof/Machine/Calibration.lean ====
section
/-! DEFINITION. Registration and trim runs (R385 to R393), and the housekeeping rounds of THM (R390, R394 to R396). -/

namespace Sys2Proof.Machine

/-! ## Temperatures (R390, R394) -/

/-- A Q8.8 value as it reads. -/
def q88 (v : Nat) : Int := sgn 16 v

/-- The value of a broken channel. -/
abbrev brokenTemp : Nat := 0x7FFF

/-- Channel `c` is in use: a die sensor, or a remote diode named by REMEN. -/
def State.chanUsed (s : State) (c : Nat) : Bool :=
  decide (c < 8) || (decide (c < 12) && bit (s.lfld R.THM_CFG F.THM_CFG_REMEN) (c - 8))

def State.chanBroken (s : State) (c : Nat) : Bool := s.fld (R.THM_CH_COND c) F.THM_CH_COND_BROKEN = 1

/-- The Q8.8 word of a temperature source (R390); none for a code without one. The flag tells that it can be trusted. -/
def State.sourceTemp (s : State) (src : Nat) : Option (Nat × Bool) :=
  if src < 12 then some (s.fld (R.THM_CH_TEMP src) F.THM_CH_TEMP_TEMP, s.chanUsed src && !s.chanBroken src)
  else if 16 ≤ src ∧ src < 24 then
    let j := src - 16
    some ((s.rd (R.AXF_AI j)).toNat / 256 % 65536,
      s.fld (R.AXF_AI_CFG j) F.AXF_AI_CFG_EN = 1 && !bit (s.fld R.AXF_AI_STAT F.AXF_AI_STAT_STALE) j)
  else none

/-- TREF of head `h` is recorded and valid; its rerun flag may set again (R390, R392). -/
def State.setTref (s : State) (h v : Nat) : State :=
  let s := (s.setFld (R.CAL_H_TREF h) F.CAL_H_TREF_TREF v).setFld (R.CAL_H_TREF h) F.CAL_H_TREF_VALID 1
  { s with cal := { s.cal with flagged := setBit s.cal.flagged h false } }

/-- TREF_WRITE (R392). -/
def execTrefWrite (h : Nat) (v : Word) (s : State) : Res State :=
  hostOp s fun s => if h < 24 then s.setTref h (fget v F.CAL_H_TREF_TREF) else s

/-! ## The fit of R387 -/

/-- The coefficients of d over one denominator: p0, p1, p2, q0, q1, q2. -/
structure Fit where
  p0 : Int
  p1 : Int
  p2 : Int
  q0 : Int
  q1 : Int
  q2 : Int
  den : Nat
  deriving DecidableEq, Repr

def sumOf (l : List (Int × Int × Int × Int)) (f : Int × Int × Int × Int → Int) : Int := l.foldl (fun a x => a + f x) 0

/-- The least-squares fit through the fiducials found (point x, y in nm, offset in units of 2⁻³² nm), with the points centred; none where they
span no area. It is exact (log entry 19). -/
def fitOf (l : List (Int × Int × Int × Int)) : Option Fit :=
  let n : Int := l.length
  let sx := sumOf l (·.1)
  let sy := sumOf l (·.2.1)
  let u (x : Int × Int × Int × Int) : Int := n * x.1 - sx
  let v (x : Int × Int × Int × Int) : Int := n * x.2.1 - sy
  let uu := sumOf l fun x => u x * u x
  let uv := sumOf l fun x => u x * v x
  let vv := sumOf l fun x => v x * v x
  let d := uu * vv - uv * uv
  if d ≤ 0 then none
  else
    let part (e : Int × Int × Int × Int → Int) : Int × Int × Int :=
      let ue := sumOf l fun x => u x * e x
      let ve := sumOf l fun x => v x * e x
      let n1 := ue * vv - ve * uv
      let n2 := ve * uu - ue * uv
      (sumOf l e * d - n * n1 * sx - n * n2 * sy, n * n * n1, n * n * n2)
    let p := part (·.2.2.1)
    let q := part (·.2.2.2)
    some ⟨p.1, p.2.1, p.2.2, q.1, q.2.1, q.2.2, (n * d).toNat * 2 ^ 32⟩

/-- d at a point given in half nm, over the denominator 2 × den. -/
def Fit.at2 (f : Fit) (x2 y2 : Int) : Int × Int :=
  (2 * f.p0 + f.p1 * x2 + f.p2 * y2, 2 * f.q0 + f.q1 * x2 + f.q2 * y2)

/-- n × (den × RMS)² of the residuals (R388). -/
def Fit.squares (f : Fit) (l : List (Int × Int × Int × Int)) : Nat :=
  let k : Int := (f.den / 2 ^ 32 : Nat)
  l.foldl (fun a x =>
    let rx := x.2.2.1 * k - (f.p0 + f.p1 * x.1 + f.p2 * x.2.1)
    let ry := x.2.2.2 * k - (f.q0 + f.q1 * x.1 + f.q2 * x.2.1)
    a + (rx * rx + ry * ry).toNat) 0

/-- The RMS residual in nm, rounded to the nearest (log entry 27). -/
def Fit.rms (f : Fit) (l : List (Int × Int × Int × Int)) : Nat :=
  (isqrt (4 * f.squares l / (l.length * f.den * f.den)) + 1) / 2

/-- The binary64 pattern of num ÷ den, rounded to nearest even. -/
def binary64 (num : Int) (den : Nat) : Nat :=
  if num = 0 then 0
  else
    let a := num.natAbs
    let e : Int := (Nat.log2 a : Int) - Nat.log2 den
    let e := if 0 ≤ e then (if a < den * 2 ^ e.toNat then e - 1 else e) else if a * 2 ^ (-e).toNat < den then e - 1 else e
    -- 2^e ≤ a ÷ den < 2^(e + 1); the significand is a ÷ den × 2^(52 − e)
    let sh : Int := 52 - e
    let n := if 0 ≤ sh then a * 2 ^ sh.toNat else a
    let d := if 0 ≤ sh then den else den * 2 ^ (-sh).toNat
    let m := n / d
    let r := 2 * (n % d)
    let m := if d < r ∨ (r = d ∧ m % 2 = 1) then m + 1 else m
    (if num < 0 then 2 ^ 63 else 0) + ((e + 1022) * 2 ^ 52).toNat + m

/-- A0′ to B2′ of R387 from the live A0 to B2, over den × 2²⁸ for A0 and B0 and over den for the others. -/
def Fit.params (f : Fit) (a : Nat → Int) : List Int :=
  let d : Int := f.den
  let off (i : Nat) : Int := rdivAway (a i * d * 2 ^ 28 + a (i + 1) * f.p0 + a (i + 2) * f.q0) (f.den * 2 ^ 28)
  let c1 (i : Nat) : Int := rdivAway (a (i + 1) * (d + f.p1) + a (i + 2) * f.q1) f.den
  let c2 (i : Nat) : Int := rdivAway (a (i + 1) * f.p2 + a (i + 2) * (d + f.q2)) f.den
  [off 0, c1 0, c2 0, off 3, c1 3, c2 3]

/-- The first failing check of Table 14-3, or 1. -/
def State.fitCode (s : State) (h : Nat) (l : List (Int × Int × Int × Int)) : Nat :=
  let n := l.length
  if n < s.fld R.CAL_CFG F.CAL_CFG_MINFID ∨ n < 3 then 2
  else match fitOf l with
    | none => 7
    | some f =>
      let b := s.field h
      let c := f.at2 (b.x0 + b.x1) (b.y0 + b.y1)
      let ofs := s.fld R.CAL_LIM0 F.CAL_LIM0_MAXOFS * 1000 * 2 * f.den
      let beyond (v : Int) (lim : Nat) : Bool := decide (lim * f.den < v.natAbs * 1000000)
      let res := s.fld R.CAL_LIM0 F.CAL_LIM0_MAXRES * f.den
      if ofs * ofs < (c.1 * c.1 + c.2 * c.2).toNat then 3
      else if beyond f.p1 (s.fld R.CAL_LIM1 F.CAL_LIM1_MAXSCALE) || beyond f.q2 (s.fld R.CAL_LIM1 F.CAL_LIM1_MAXSCALE) then 4
      else if beyond f.p2 (s.fld R.CAL_LIM1 F.CAL_LIM1_MAXROT) || beyond f.q1 (s.fld R.CAL_LIM1 F.CAL_LIM1_MAXROT) then 5
      else if n * (res * res) < f.squares l then 6
      else 1

/-! ## The result of a head (R388) -/

/-- A write of GEO's shadow copy, held while the copy of the head's set is under way (R384). -/
def State.geoPut (s : State) (h a : Nat) (bs : List Byte) : State :=
  if s.cal.copying.contains h then { s with cal := { s.cal with held := s.cal.held ++ [(false, a, bs)] } }
  else s.sramPut a bs

/-- A result of the run: CAL_Hh_RES and one Cairn record. A head without a fit has no coefficients and no residual: they are free values
(log entry 5). -/
def State.calResult (s : State) (h code n : Nat) (f : Option Fit) (rms : Nat) : State :=
  let co := match f with
    | some f => [f.p0, f.p1, f.p2, f.q0, f.q1, f.q2].flatMap fun v => leBytes (binary64 v f.den) 8
    | none => (List.range 12).flatMap fun i => leBytes (Config.freeWord (s.free + i)).toNat 4
  let rms := if f.isSome then rms else (Config.freeWord (s.free + 12)).toNat
  let s := { s with free := s.free + 13 }
  let s := s.wr (R.CAL_H_RES h) (BitVec.ofNat 32 (code * 2 ^ 28 + n % 64 * 2 ^ 16 + min rms 65535))
  s.cairn 9 1 false (leBytes h 1 ++ leBytes code 1 ++ leBytes n 1 ++ leBytes rms 4 ++ co)

/-- The commit of set 4 + h that AUTOCOMMIT makes would be rejected (R384; log entry 27). -/
def State.geoRejects (s : State) (h : Nat) : Bool :=
  let fld : Bounds := ⟨intOf (s.rd (R.TSC_H_FXMIN h)), intOf (s.rd (R.TSC_H_FYMIN h)), intOf (s.rd (R.TSC_H_FXMAX h)),
    intOf (s.rd (R.TSC_H_FYMAX h))⟩
  s.geoBusy h (s.timedPending (4 + h)) ≠ .pass || s.geoCheck h (srange s.mem.sram (geoShadow h) 0x10000) fld ≠ .pass

/-- The head in progress is done: its fit is judged, an accepted one is written to the shadow copy, and the head leaves the run. -/
def State.calHeadEnd (s : State) (h : Nat) : State :=
  let l := s.cal.found
  let code := s.fitCode h l
  let f := fitOf l
  let s := { s with cal := { s.cal with heads := s.cal.heads.filter (· ≠ h), todo := [], trig := none, found := [] } }
  match f with
  | none => s.calResult h code l.length none 0
  | some f =>
    if code = 2 then s.calResult h code l.length none 0
    else if code ≠ 1 then s.calResult h code l.length (some f) (f.rms l)
    else
      let ps := f.params (s.geoPar (geoLive h))
      -- a parameter that falls outside its format is a free value (log entry 5)
      let word (i : Nat) (v : Int) : Nat := if fits32 v then wrap 32 v else (Config.freeWord (s.free + i)).toNat
      let bs := (List.range 6).flatMap fun i => leBytes (word i (ps.getD i 0)) 4
      let s := { s.geoPut h (geoShadow h + 0xFF00) bs with free := s.free + 6 }
      let s : State := match s.sourceTemp (s.fld (R.CAL_H_TSRC h) F.CAL_H_TSRC_SRC) with
        | some (t, _) => s.setTref h t
        | none => s
      let auto := decide (s.fld R.CAL_CFG F.CAL_CFG_AUTOCOMMIT = 1)
      let bad := auto && s.geoRejects h
      let s := if auto then s.regCommit (4 + h) else s
      let s := if bad then s else { s with cal := { s.cal with passed := setBit s.cal.passed h true } }
      s.calResult h (if bad then 9 else 1) l.length (some f) (f.rms l)

/-! ## The run (R385, R386) -/

/-- Whether the head can take part (R385). -/
def State.calReady (s : State) (h : Nat) : Bool := s.inService h && (s.held h).isNone && !(s.seq (s.seqOf h)).running

/-- The fiducials inside the field of head `h`. -/
def State.fidsOf (s : State) (h : Nat) : List Nat :=
  let b := s.field h
  (List.range s.cal.fids.length).filter fun i =>
    let p := s.cal.fids.getD i (0, 0)
    decide (b.x0 ≤ p.1) && decide (p.1 ≤ b.x1) && decide (b.y0 ≤ p.2) && decide (p.2 ≤ b.y1)

/-- The head in progress jumps to fiducial `i`; the settle time begins where the jump ends. Where JSPEED is 0 it cannot, and the fiducial
counts as not found (log entry 27). -/
def State.calJump (s : State) (h i : Nat) : Option State :=
  let n := s.seqOf h
  let q := (s.seq n).prune s.tick
  let first := max (s.tick + 3) (cdiv q.cursor 1250)
  let p := q.pointAt (first - 1)
  let q := { q with cursor := 1250 * first, pos := p, tv := 0 }
  let f := s.cal.fids.getD i (0, 0)
  match q.jump (decide (s.fld (R.BSQ_H_JPROF h) F.BSQ_H_JPROF_EN = 1), s.fld (R.BSQ_H_JPROF h) F.BSQ_H_JPROF_ACC) ⟨f.1, f.2, p.z⟩ .jump with
  | .error _ => none
  | .ok q =>
    let s := (s.setSeq n q).wr R.CAL_RUN (BitVec.ofNat 32 (2 ^ 31 + h * 2 ^ 24 + i))
    some { s with cal := { s.cal with trig := none, since := cdiv q.cursor 1250 * 500 } }

/-- The head in progress jumps to the first fiducial of the list that it can reach; none where there is no such one. -/
def State.calNextFid (s : State) (h : Nat) : List Nat → Option State
  | [] => none
  | i :: t => match s.calJump h i with
    | some s => some { s with cal := { s.cal with todo := i :: t } }
    | none => s.calNextFid h t

/-- The run goes on with its next head, or ends: a head that cannot take part is passed over with code 8. The measure bounds the heads. -/
def State.calNext : Nat → State → State
  | 0, s => s
  | k + 1, s =>
    match s.cal.heads with
    | [] => s.calEnd St.done
    | h :: t =>
      if !s.calReady h then State.calNext k (({ s with cal := { s.cal with heads := t } }).calResult h 8 0 none 0)
      else
        let s := { s with cal := { s.cal with found := [], trig := none } }
        match s.calNextFid h (s.fidsOf h) with
        | some s => s
        | none => State.calNext k (s.calHeadEnd h)

/-- The fiducial in progress is done. -/
def State.calStep (s : State) : State :=
  match s.cal.heads with
  | [] => s
  | h :: _ => match s.calNextFid h (s.cal.todo.drop 1) with
    | some s => s
    | none => State.calNext 25 (s.calHeadEnd h)

/-- CALIBRATE (R385, R393): command `n`. -/
def execCalibrate (n : Nat) (s : State) : Res State :=
  done (s.runCmd 0x28 n fun c s =>
    let kind := c.arg 0
    let mask := c.arg 1
    let cam := s.fld R.CAL_CFG F.CAL_CFG_CAM
    if kind ≠ 1 ∧ kind ≠ 2 then s.endCmd c St.badParam 0 0
    else if mask = 0 then s.endCmd c St.empty 0 0
    else if (if kind = 1 then 2 ^ 24 else 2 ^ 8) ≤ mask then s.endCmd c St.badParam 0 0
    else if s.cal.kind ≠ 0 then s.endCmd c St.notReady 0 0
    else if kind = 1 then
      if s.fld (R.CAM_CFG cam) F.CAM_CFG_SRC ≠ 1 ∨ s.lfld (R.CAM_ESET cam) F.CAM_ESET_KIND ≠ 1 ∨
          s.lfld (R.CAM_ROI_X cam 0) F.CAM_ROI_X_EN ≠ 1 then s.endCmd c St.notReady 0 0
      else
        let heads := (List.range 24).filter (bit mask)
        let s := (s.putCmd { c with wait := .calibrate }).setFld R.CAL_RUN F.CAL_RUN_BUSY 1
        State.calNext 25 { s with cal := { s.cal with kind := 1, seq := n, heads := heads, todo := [], trig := none, found := [], passed := 0,
                                                      binding := s.fld (R.CAM_CFG cam) F.CAM_CFG_HEAD } }
    else
      let axes := (List.range 8).filter (bit mask)
      let s := (s.putCmd { c with wait := .calibrate }).setFld R.CAL_RUN F.CAL_RUN_BUSY 1
      let e : Extremes := ⟨32767, -32768, 32767, -32768, 0, true⟩
      let ex := (axes.filter fun a => s.axType a = 1).foldl (fun m a => sput (fun _ => none) a (some e) m) []
      { s with cal := { s.cal with kind := 2, seq := n, heads := axes, todo := [], trig := none, found := [], passed := 0, since := s.now,
                                   extremes := ex } })

/-- FIDUCIAL_SETTLE_EXPIRY (R386): the pipeline is bound to the head and takes one frame on a host trigger. A pipeline that is disabled, or
drops the trigger, finds no fiducial (log entry 27). -/
def execFiducialSettleExpiry (ns : Nat) (s : State) : Res State :=
  let s := s.arrive ns
  match s.cal.heads with
  | [] => done s
  | h :: _ =>
    if s.cal.kind ≠ 1 ∨ s.cal.trig.isSome ∨ s.now < s.cal.since + s.fld R.CAL_CFG F.CAL_CFG_SETTLE * 1000 then done s
    else
      let cam := s.fld R.CAL_CFG F.CAL_CFG_CAM
      let s := s.setFld (R.CAM_CFG cam) F.CAM_CFG_HEAD h
      let x := slotAfter (s.now * 65536) + s.lfld (R.CAM_TDLY cam) F.CAM_TDLY_TDLY
      let s := if s.camOn cam then s.camDecide cam 0 0 x else s
      match (s.cam cam).due.find? fun t => t.at_ = x with
      | some t => done { s with cal := { s.cal with trig := some (t.tag, (s.rd (R.CAM_FNUM cam)).toNat) } }
      | none => done s.calStep

/-- The record of the frame with trigger tag `tag` after frame number `num`, if one of the 16 record slots holds it. -/
def State.fidRecord (s : State) (cam tag num : Nat) : Option (List Byte) :=
  let now := (s.rd (R.CAM_FNUM cam)).toNat
  (((List.range 16).map fun i => (num + 1 + i) % 2 ^ 32).filter fun k => decide ((k + 2 ^ 32 - num) % 2 ^ 32 ≤ (now + 2 ^ 32 - num) % 2 ^ 32)).findSome? fun k =>
    let r := s.sramBytes (0x3300000 + 0x40000 * cam + 0x4000 * (k % 16)) 1120
    let at_ (o n : Nat) : Nat := leNat ((r.drop o).take n)
    if at_ 0 4 = k ∧ at_ 60 4 = k ∧ at_ 35 1 = tag ∧ !bit (at_ 7 1) Cf.untrig then some r else none

/-- The offset of R386 that a record gives, in units of 2⁻³² nm; none where the fiducial is not found. A record that holds no melt-pool block,
or a SUM of 0, gives none (log entry 27). -/
def State.fidOffset (s : State) (r : List Byte) : Option (Int × Int) :=
  let at_ (o n : Nat) : Nat := leNat ((r.drop o).take n)
  let area := at_ 1088 4
  let sum := at_ 1092 8
  if at_ 6 1 ≠ 1 ∨ area < 16 ∨ bit (at_ 7 1) Cf.incomplete ∨ sum = 0 then none
  else
    let pix : Int := (s.rd R.CAL_PIX).toNat
    let off (m : Nat) (c : Fld) : Int := rdivAway (((m : Int) * 16 - s.fld R.CAL_CTR c * sum) * pix * 65536) (16 * sum)
    let ex := off (at_ 1100 8) F.CAL_CTR_CX
    let ey := off (at_ 1108 8) F.CAL_CTR_CY
    let on (f : Fld) : Bool := s.fld R.CAL_CFG f = 1
    let e : Int × Int := if on F.CAL_CFG_SWAP then (ey, ex) else (ex, ey)
    some (if on F.CAL_CFG_NEGX then -e.1 else e.1, if on F.CAL_CFG_NEGY then -e.2 else e.2)

/-- The record of the frame triggered for a fiducial is judged, once it stands (R386, R387). -/
def State.fiducialFrame (s : State) : State :=
  let cam := s.fld R.CAL_CFG F.CAL_CFG_CAM
  match s.cal.trig, s.cal.todo with
  | some (tag, num), i :: _ =>
    let m := s.cam cam
    match s.fidRecord cam tag num with
    | some r =>
      let p := s.cal.fids.getD i (0, 0)
      match s.fidOffset r with
      | some e => ({ s with cal := { s.cal with found := s.cal.found ++ [(p.1, p.2, e.1, e.2)] } }).calStep
      | none => s.calStep
    | none =>
      let mine (t : CamTrig) : Bool := t.tag = tag
      let open_ := m.due.any mine || m.await.any mine || (m.frame.any fun f => f.trig.any mine) || m.closed.any fun f => f.trig.any mine
      (if open_ then s else s.calStep)
  | _, _ => s

/-- FIDUCIAL_FRAME_RESULT (R386 to R388): the record of the fiducial's frame is read, or its trigger has been withdrawn. -/
def execFiducialFrameResult (s : State) : Res State := done s.fiducialFrame

/-- TRIM_RUN_END (R393): after 1 s of recording, the trims of each axis are written, or FAIL is set. A gain without a finite value is a free
value within its limits (log entry 5). -/
def execTrimRunEnd (ns : Nat) (s : State) : Res State :=
  let s := s.arrive ns
  if s.cal.kind ≠ 2 ∨ s.now < s.cal.since + 1000000000 then done s
  else
    let s := s.cal.heads.foldl (fun s a =>
      let fail (s : State) : State := s.setFld (R.CAL_AX_TSTAT a) F.CAL_AX_TSTAT_FAIL 1
      match sget (fun _ => none) a s.cal.extremes with
      | none => fail s
      | some e =>
        if e.travel < 65536 ∨ !e.valid then fail s
        else
          let cd := (e.cMax - e.cMin).toNat
          let gain : Nat := if cd = 0 then (Config.freeWord s.free).toNat else (rdivAway (16384 * (e.sMax - e.sMin)) cd).toNat
          let t0 := wrap 16 (tdivN (e.cMax + e.cMin) 2) * 2 ^ 16 + wrap 16 (tdivN (e.sMax + e.sMin) 2)
          let s := (s.draw.wr (R.CAL_AX_TRIM0 a) (BitVec.ofNat 32 t0)).setFld (R.CAL_AX_TRIM1 a) F.CAL_AX_TRIM1_CGAIN (clampN 0x2000 0x7FFF gain)
          let s := s.setFld (R.CAL_AX_TSTAT a) F.CAL_AX_TSTAT_DONE 1
          { s with cal := { s.cal with passed := setBit s.cal.passed a true } }) s
    done (s.calEnd St.done)

/-! ## Housekeeping (R390, R394 to R396) -/

/-- The conditions of a channel, as bits WARN, RISE, HOT, EXPOUT, BROKEN of THM_CHc_COND, and CRIT in bit 5. -/
def condBits (w r h x b c : Bool) : Nat := b2n w + 2 * b2n r + 4 * b2n h + 8 * b2n x + 16 * b2n b + 32 * b2n c

/-- A threshold condition with its hysteresis (R395): present from the threshold on, it clears when the value has stayed HYST below it for 16
rounds. The count is of rounds so far. -/
def hystCond (was : Bool) (v thr hyst : Int) (broken : Bool) (low : Nat) : Bool × Nat :=
  if broken || decide (thr ≤ v) then (true, 0)
  else if !was then (false, 0)
  else if v ≤ thr - hyst then (if 15 ≤ low then (false, 0) else (true, low + 1))
  else (true, 0)

/-- Channel `c` takes its value of a round; `bad` tells a failed self-test or an open or shorted diode. The result is the channel's conditions, with
CRIT in bit 5. The register holds the value saturated to Q8.8 (log entry 28). -/
def State.chanRound (s : State) (c : Nat) (raw : Int) (bad : Bool) : Nat × State :=
  let ch := sget (fun _ => Chan.reset) c s.chans
  let g := if c < 8 then 0 else 1
  let lv (r : Nat) (f : Fld) : Int := q88 (s.lfld r f)
  let cond := s.rd (R.THM_CH_COND c)
  let isBad := bad || (g = 0 && (decide (raw < -60 * 256) || decide (150 * 256 < raw)))
  let v := satI 16 raw
  let wasBroken := fget cond F.THM_CH_COND_BROKEN = 1
  let good := if isBad then 0 else if wasBroken then ch.goodRounds + 1 else 0
  let broken := isBad || (wasBroken && decide (good < 16))
  let t : Nat := if broken then brokenTemp else wrap 16 v
  let (w, wl) := hystCond (fget cond F.THM_CH_COND_WARN = 1) v (lv (R.THM_THR_LVL g) F.THM_THR_LVL_WARN) (lv (R.THM_THR_DYN g) F.THM_THR_DYN_HYST)
    broken ch.warnLow
  let (h, hl) := hystCond (fget cond F.THM_CH_COND_HOT = 1) v (lv (R.THM_THR_LVL g) F.THM_THR_LVL_HOT) (lv (R.THM_THR_DYN g) F.THM_THR_DYN_HYST)
    broken ch.hotLow
  let rise := match ch.hist[99]? with
    | some p => !broken && p ≠ brokenTemp && decide (lv (R.THM_THR_DYN g) F.THM_THR_DYN_RISE < v - q88 p)
    | none => false
  let out := bit (s.lfld R.THM_CFG F.THM_CFG_EXPW) c &&
    (broken || decide (v < lv (R.THM_THR_EXP g) F.THM_THR_EXP_EXPMIN) || decide (lv (R.THM_THR_EXP g) F.THM_THR_EXP_EXPMAX < v))
  let crit := if g = 0 ∧ !broken ∧ 125 * 256 ≤ v then min 2 (ch.critRounds + 1) else 0
  let ch : Chan := { hist := t :: ch.hist.take 99, goodRounds := if broken then good else 0, critRounds := crit, warnLow := wl, hotLow := hl }
  let s := { s with chans := sput (fun _ => Chan.reset) c ch s.chans }
  let s := s.setFld (R.THM_CH_TEMP c) F.THM_CH_TEMP_TEMP t
  let mx := s.fld (R.THM_CH_MAX c) F.THM_CH_MAX_MAX
  let s := s.setFld (R.THM_CH_MAX c) F.THM_CH_MAX_MAX (if q88 mx < q88 t then t else mx)
  let b := condBits w rise h out broken (decide (crit = 2))
  (b, s.wr (R.THM_CH_COND c) (BitVec.ofNat 32 (b % 32)))

/-- The conditions of Table 14-4 by their bit in the channel's conditions: THM_STAT bit and Cairn condition code (Table 15-2). -/
def thermalKinds : List (Nat × Fld × Nat) :=
  [(0, F.THM_STAT_WARN, 1), (1, F.THM_STAT_RISE, 2), (2, F.THM_STAT_HOT, 3), (5, F.THM_STAT_CRIT, 4), (3, F.THM_STAT_EXPWIN, 5),
    (4, F.THM_STAT_BROKEN, 6)]

/-- The conditions of channel `c` that are new set their bits and make their records; a new CRIT is a fatal fault (R395). -/
def State.thermalNew (s : State) (c now was : Nat) : State :=
  let s := thermalKinds.foldl (fun s k =>
    if bit now k.1 && !bit was k.1 then
      (s.setFld R.THM_STAT k.2.1 1).cairn 10 1 (decide (k.2.2 = 4)) (leBytes c 1 ++ leBytes k.2.2 1 ++
        leBytes (s.fld (R.THM_CH_TEMP c) F.THM_CH_TEMP_TEMP) 2)
    else s) s
  if bit now 5 && !bit was 5 then s.report 0x50 0xFFFF c 0 0 else s

/-- An action code of Table 14-4: 0 record, 1 PAUSE, 2 ENTER_SAFE. -/
def State.thermalAct (s : State) (code : Nat) : State :=
  if code = 1 then s.selfPause else if code = 2 then s.opEnterSafe.2 else s

/-- The drift check of head `h` (R390). -/
def State.driftCheck (s : State) (h : Nat) : State :=
  let src := s.rd (R.CAL_H_TSRC h)
  let ref := s.rd (R.CAL_H_TREF h)
  match s.sourceTemp (fget src F.CAL_H_TSRC_SRC) with
  | some (t, true) =>
    let d := (q88 t - q88 (fget ref F.CAL_H_TREF_TREF)).natAbs
    if fget src F.CAL_H_TSRC_EN = 1 ∧ fget ref F.CAL_H_TREF_VALID = 1 ∧ fget src F.CAL_H_TSRC_DRIFT < d ∧ !bit s.cal.flagged h then
      let s := (s.setFld (R.GEO_H_STAT h) F.GEO_H_STAT_RERUN 1).cairn 9 2 false
        (leBytes h 4 ++ leBytes t 2 ++ leBytes (fget ref F.CAL_H_TREF_TREF) 2)
      let s := { s with cal := { s.cal with flagged := setBit s.cal.flagged h true } }
      if fget src F.CAL_H_TSRC_ACT = 1 then s.selfPause else s
    else s
  | _ => s

/-- THM_STAT.FLWIN: the highest die channel lies within FLMIN to FLMAX and no die channel is broken (R396). -/
def State.flashWindow (s : State) : Bool :=
  let top := (List.range 8).foldl (fun m c => max m (q88 (s.fld (R.THM_CH_TEMP c) F.THM_CH_TEMP_TEMP))) (-32768)
  (List.range 8).all (fun c => !s.chanBroken c) && decide (q88 (s.lfld R.THM_FLWIN F.THM_FLWIN_FLMIN) ≤ top) &&
    decide (top ≤ q88 (s.lfld R.THM_FLWIN F.THM_FLWIN_FLMAX))

/-! ## The page program under way (R396, R401, R402, R405, R482) -/

/-- A record of a P kind (Table 15-2, Table 16-6). -/
def Cairn.pKind (c : Cairn) : Bool :=
  let b (i : Nat) : Nat := (c.payload.getD i 0).toNat
  c.src = 1 || (c.src = 2 && c.code = 1) || c.src = 4 || (c.src = 8 && c.code = 4) || (c.src = 10 && b 1 = 4) ||
    (c.src = 11 && c.code = 4) || (c.src = 12 && b 2 = 3) || c.src = 13 || c.src = 14

/-- The rank of a waiting record in a power-fail flush (Table 15-3). -/
def Cairn.rank (c : Cairn) : Nat :=
  if c.src = 14 then 0 else if c.src = 2 ∧ c.code = 1 then 1 else if c.pKind then 2 else 3

/-- The record that is programmed next (R482, Table 15-3). -/
def Rec.nextRecord (r : Rec) : Option Cairn :=
  match r.staging with
  | [] => none
  | c :: t => some (if r.powerFail then t.foldl (fun a x => if x.rank < a.rank then x else a) c else c)

/-- A page program may be under way (R396, R405, R406). -/
def State.mayProgram (s : State) : Bool :=
  !s.recd.stopped && (if s.recd.powerFail then !s.recd.flushEnd else s.flashOpen)

/-- The absolute circulating slot of a record: its SEQ, moved on by the slots that failed programs spent (R402, R406; log entry 28). -/
def Rec.slotOf (r : Rec) (seq : Nat) : Nat := (seq + r.skip) % 2 ^ 32

/-- The absolute slot that the next record takes. -/
def State.writePoint (s : State) : Nat :=
  s.recd.slotOf (match s.recd.staging with
    | c :: _ => c.seq
    | [] => (s.rd R.REC_SEQ).toNat)

/-- Erased slots from absolute slot `x` on. -/
def Rec.room (r : Rec) (x : Nat) : Nat := (r.erased + 2 ^ 32 - x) % 2 ^ 32

/-- The page program that is under way is kept: a change of order or of permission does not touch a write that has started (R396). -/
def State.latchProgram (s : State) : State :=
  if s.recd.busy.isSome || !s.mayProgram then s
  else match s.recd.nextRecord with
    | none => s
    | some c => { s with recd := { s.recd with busy := some (c.seq, s.recd.powerFail) } }

/-- A sector erase is under way while fewer than four whole sectors ahead of the write point are erased and flash writes are permitted (R402,
R405). -/
def State.erasing (s : State) : Bool :=
  let x := s.writePoint
  !s.recd.powerFail && s.flashOpen && decide (s.recd.room x < 64 + (16 - x % 16))

/-- As `latchProgram`, for a change that comes from outside REC: while a sector is erased no page program is under way (log entry 28). -/
def State.keepProgram (s : State) : State := if s.erasing then s else s.latchProgram

/-! ## The housekeeping round -/

/-- HOUSEKEEPING_ROUND (R390, R394 to R396): the values of the twelve channels in 1/256 °C, and in bit c of `bad` a failed self-test or
excitation check of channel c. -/
def execHousekeepingRound (temps : List Int) (bad ns : Nat) (s : State) : Res State :=
  let s := s.arrive ns
  let was (c : Nat) : Nat := (s.rd (R.THM_CH_COND c)).toNat % 32 +
    32 * b2n (decide ((sget (fun _ => Chan.reset) c s.chans).critRounds = 2))
  let used := (List.range 12).filter s.chanUsed
  let r := used.foldl (fun (a : List (Nat × Nat) × State) c =>
    let (b, s) := a.2.chanRound c (temps.getD c 0) (bit bad c)
    (a.1 ++ [(c, b)], s)) ([], s)
  let s := ((List.range 12).filter fun c => !used.contains c).foldl (fun s c => s.wr (R.THM_CH_COND c) 0) r.2
  let s := s.keepProgram.setFld R.THM_STAT F.THM_STAT_FLWIN (b2n s.flashWindow)
  let s := r.1.foldl (fun s x => s.thermalNew x.1 x.2 (was x.1)) s
  let on (k : Nat) : Bool := r.1.any fun x => bit x.2 k
  let hot := s.lfld R.THM_CFG F.THM_CFG_ACT_HOT
  let s :=
    if on 5 then s
    else if on 2 then s.thermalAct hot
    else if on 1 then s.thermalAct (s.lfld R.THM_CFG F.THM_CFG_ACT_RISE)
    else if on 3 && s.runMode then s.thermalAct hot
    else s
  done ((List.range 24).foldl State.driftCheck s)

end Sys2Proof.Machine
end

