-- ==== Sys2Proof/Machine/Records.lean ====
section
/-! DEFINITION. Cairn records in flash (R399 to R408, R482) and the quality-record ring's registers (R414, R415). -/

namespace Sys2Proof.Machine

/-! ## Flushing (R401 to R406, R482) -/

/-- REC_OLDEST names the oldest SEQ that the circulating area holds (R402). -/
def State.oldestSync (s : State) : State :=
  let n := (s.rd R.REC_SEQ).toNat
  let age := s.recd.circSlots.foldl (fun m p => match p.2 with
    | some c => max m ((n + 2 ^ 32 - c.seq) % 2 ^ 32)
    | none => m) 0
  s.wr R.REC_OLDEST (BitVec.ofNat 32 (n + 2 ^ 32 - age))

/-- A record keeps its place in staging with changed data. -/
def State.putCairn (s : State) (c : Cairn) : State :=
  { s with recd := { s.recd with staging := s.recd.staging.map fun d => if d.seq = c.seq then c else d } }

/-- The permanent copy of record `c` is programmed (R401, R482). -/
def State.permDone (s : State) (c : Cairn) : State :=
  let n := (s.rd R.REC_PCOUNT).toNat
  let s := { s with recd := { s.recd with fails := 0, permSlots := sput (fun _ => none) n (some { c with permDone := true }) s.recd.permSlots } }
  (s.putCairn { c with permDone := true }).wr R.REC_PCOUNT (BitVec.ofNat 32 (n + 1))

/-- The circulating copy of record `c` is programmed, and the record leaves staging. -/
def State.circDone (s : State) (c : Cairn) : State :=
  let x := s.recd.slotOf c.seq % 65536
  let r := s.recd
  let s := { s with recd := { r with fails := 0, staging := r.staging.filter fun d => d.seq ≠ c.seq,
                                     circSlots := sput (fun _ => none) x (some { c with permDone := true }) r.circSlots } }
  s.recSync.oldestSync

/-- A page program failed at flash address `a`: it is recorded, and after three in a row flushing stops (R406). -/
def State.programFailed (s : State) (a : Nat) : State :=
  let s := { s with recd := { s.recd with fails := s.recd.fails + 1 } }
  let s := (s.inc R.REC_FLASHFAIL 1).cairn 11 4 true (leBytes a 4)
  if s.recd.fails = 3 then
    ({ s with recd := { s.recd with stopped := true } }.setFld R.REC_STAT F.REC_STAT_FLASHERR 1).report 0x40 0xFFFF a 0 0
  else s

/-- FLASH_PAGE_PROGRAM_DONE (R401, R406, R482): the page program under way ends, that of its record's next copy. -/
def execFlashPageProgramDone (ok : Bool) (ns : Nat) (s : State) : Res State :=
  let s := (s.arrive ns).latchProgram
  match s.recd.busy with
  | none => done s
  | some (seq, pf) =>
  match s.recd.staging.find? fun c => c.seq = seq with
    | none => done s
    | some c =>
      let n := (s.rd R.REC_PCOUNT).toNat
      let full := c.perm && !c.permDone && decide (4096 ≤ n)
      let c := { c with perm := c.perm && !full, pfl := c.pfl || pf }
      let idle := { s with recd := { s.recd with busy := none } }
      let s := if full then (idle.setFld R.REC_STAT F.REC_STAT_PFULL 1).putCairn c else idle
      if c.perm && !c.permDone then
        if ok then done (s.permDone c)
        else done ((s.wr R.REC_PCOUNT (BitVec.ofNat 32 (n + 1))).programFailed ((s.rd R.REC_PBASE).toNat + 256 * n))
      else
        let x := s.recd.slotOf c.seq
        if s.recd.room x = 0 ∨ 65536 < s.recd.room x then done s
        else if ok then done (s.circDone c)
        else
          let s := { s with recd := { s.recd with skip := s.recd.skip + 1 } }
          done (s.programFailed ((s.rd R.REC_CBASE).toNat + 256 * (x % 65536)))

/-- FLASH_ERASE_DONE (R402, R405): the erase of the sector ahead of the erased ones ends. -/
def execFlashEraseDone (ns : Nat) (s : State) : Res State :=
  let s := s.arrive ns
  let r := s.recd
  if !s.erasing then done s
  else
    let i := r.erased % 65536
    let gone := r.circSlots.filter fun p => !(decide (i ≤ p.1) && decide (p.1 < i + 16))
    done ({ s with recd := { r with erased := (r.erased + 16) % 2 ^ 32, circSlots := gone } }).oldestSync

/-- A write of REC_CTL (R406). -/
def State.recCtlWrite (s : State) (v : Word) : State :=
  if fget v F.REC_CTL_RETRY = 1 then { s with recd := { s.recd with stopped := false, fails := 0 } } else s

/-- FLASH_RETRY (R406). -/
def execFlashRetry (v : Word) (s : State) : Res State := hostOp s fun s => s.recCtlWrite v

/-- OPERATING_TIME_RECORD (R399): one record after every 3600 s of OPTIME. -/
def execOperatingTimeRecord (ns : Nat) (s : State) : Res State :=
  let s := s.arrive ns
  let t := (s.rd R.REC_OPTIME).toNat
  let hour := t / 3600 * 3600
  if hour ≤ s.recd.opAt then done s
  else done ({ s with recd := { s.recd with opAt := hour } }.cairn 11 2 false [])

/-! ## Reading records (R407, R408) -/

/-- The circulating records from SEQ `first` on, in SEQ order, each from flash or from staging (R407): at most `n`. -/
def State.circRecords (s : State) (first n : Nat) : List Cairn :=
  let next := (s.rd R.REC_SEQ).toNat
  let oldest := (s.rd R.REC_OLDEST).toNat
  let age (q : Nat) : Nat := (next + 2 ^ 32 - q) % 2 ^ 32
  let from_ := if age oldest < age first then age oldest else age first
  let held := s.recd.circSlots.filterMap (·.2) ++ s.recd.staging
  let cs := held.filter fun c => decide (age c.seq ≤ from_) && decide (0 < age c.seq)
  ((cs.mergeSort fun a b => decide (age b.seq ≤ age a.seq)).take n)

/-- At most `n` permanent records from slot `first` on, below REC_PCOUNT; an invalid slot is skipped. -/
def State.permRecords (s : State) (first n : Nat) : List Cairn :=
  ((List.range ((s.rd R.REC_PCOUNT).toNat - first)).filterMap fun i => sget (fun _ => none) (first + i) s.recd.permSlots).take n

/-- RECORD_READ (R407, R408): command `n`. -/
def execRecordRead (n : Nat) (s : State) : Res State :=
  done (s.runCmd 0x20 n fun c s =>
    let count := c.arg 2
    if count = 0 then s.endCmd c St.empty 0 0
    else if c.len ≠ 256 * count ∨ 1 < c.arg 0 ∨ !s.dataFits c c.addr c.len then s.endCmd c St.badParam 0 0
    else
      let rs := if c.arg 0 = 0 then s.permRecords (c.arg 1) count else s.circRecords (c.arg 1) count
      (s.dataOut c c.addr (rs.flatMap cairnImage)).endCmd c St.done rs.length 0)

/-! ## The quality-record ring (R414, R415) -/

/-- QS_BUFFER_FLUSH (R414): the buffer is full, or FLUSH ms old. -/
def execQsBufferFlush (ns : Nat) (s : State) : Res State :=
  let s := s.arrive ns
  let r := s.recd
  if r.qBuf.isEmpty ∨ s.now < r.qBufSince + s.fld R.REC_QS_CFG F.REC_QS_CFG_FLUSH * 1000000 then done s
  else done s.flushQuality

/-- Enabling the ring fails (R415). -/
def State.ringBad (s : State) : Bool :=
  let ofs := s.fld R.REC_QS_AREA F.REC_QS_AREA_OFS
  let size := s.fld R.REC_QS_AREA F.REC_QS_AREA_SIZE
  let so := s.fld R.CEN_TRC_SPILL F.CEN_TRC_SPILL_OFS
  let sz := s.fld R.CEN_TRC_SPILL F.CEN_TRC_SPILL_SIZE
  size = 0 || decide ((s.dramRegion 4).2 < (ofs + size) * 2 ^ 20) ||
    (s.fld R.CEN_TRC_CFG F.CEN_TRC_CFG_MODE = 2 && decide (ofs < so + sz) && decide (so < ofs + size))

/-- A write of REC_QS_CFG (R5, R415). -/
def State.qsCfgWrite (s : State) (v : Word) : State :=
  if !s.unlocked then s.lockviol
  else
    let w := v &&& (fmask F.REC_QS_CFG_FLUSH ||| fmask F.REC_QS_CFG_SBC ||| fmask F.REC_QS_CFG_EN)
    if fget w F.REC_QS_CFG_EN = 1 ∧ s.fld R.REC_QS_CFG F.REC_QS_CFG_EN = 0 then
      if s.ringBad then (s.wr R.REC_QS_CFG (fput w F.REC_QS_CFG_EN 0)).setFld R.REC_QS_STAT F.REC_QS_STAT_CFG_ERR 1
      else ((s.wr R.REC_QS_CFG w).wr R.REC_QS_WPTR 0).wr R.REC_QS_RPTR 0
    else s.wr R.REC_QS_CFG w

/-- QS_ENABLE (R415). -/
def execQsEnable (v : Word) (s : State) : Res State := hostOp s fun s => s.qsCfgWrite v

/-- A host write of REC_QS_RPTR (R415). -/
def State.qsRptrWrite (s : State) (v : Word) : State :=
  if v.toNat % 8 ≠ 0 ∨ s.ring.2 ≤ v.toNat then s.setFld R.REC_QS_STAT F.REC_QS_STAT_CFG_ERR 1 else s.wr R.REC_QS_RPTR v

/-- QS_RPTR_WRITE (R415). -/
def execQsRptrWrite (v : Word) (s : State) : Res State := hostOp s fun s => s.qsRptrWrite v

end Sys2Proof.Machine
end

