-- ==== Sys2Proof/Machine/Faults.lean ====
section
/-! DEFINITION. Staying in service (chapter 16): core pairs (R420 to R423, R76), spare sequencers (R424 to R426), UNIT_RESET (R417 to R419)
and memory errors (R428 to R430). -/

namespace Sys2Proof.Machine

/-! ## Degradation causes that follow a condition (R48) -/

/-- A spare serves a head. -/
def State.spareServes (s : State) : Bool := (List.range 24).any fun h => s.seqOf h ≠ h

/-- MCP-B is active, or MCP-A is active and its partner has failed. -/
def State.standbyLost (s : State) : Bool :=
  let a := s.fld R.FLT_MCP F.FLT_MCP_A_STATE
  let b := s.fld R.FLT_MCP F.FLT_MCP_B_STATE
  b = 0 || (a = 0 && b = 2)

/-- The cause bits whose conditions exist set (R48). -/
def State.degrSync (s : State) : State :=
  let s := if s.standbyLost then s.degrade F.GLB_DEGR_CAUSE_STANDBY_MCP else s
  let s := if s.spareServes then s.degrade F.GLB_DEGR_CAUSE_SPARE_BSQ else s
  if s.rd R.TSC_PARKCNT ≠ 0 then s.degrade F.GLB_DEGR_CAUSE_PARKED else s

/-! ## Core pairs -/

/-- The state of pair `p` in FLT_MCP: 0 active, 1 standby, 2 failed, 3 testing. -/
def State.mcpState (s : State) (p : Nat) : Nat :=
  s.fld R.FLT_MCP (if p = 0 then F.FLT_MCP_A_STATE else F.FLT_MCP_B_STATE)

/-- Pair `p` takes a state; an active pair shows in ACTIVE. -/
def State.setMcp (s : State) (p v : Nat) : State :=
  let s := s.setFld R.FLT_MCP (if p = 0 then F.FLT_MCP_A_STATE else F.FLT_MCP_B_STATE) v
  let s := if v = 0 then s.setFld R.FLT_MCP F.FLT_MCP_ACTIVE p else s
  { s with flt := { s.flt with mcpHealthy := setBit s.flt.mcpHealthy p (decide (v < 2)) } }

/-- Whether what a started command does is already in the hands of hardware when its core pair fails (R421). -/
def State.effectMade (s : State) (c : Cmd) : Bool :=
  if c.op = 0x02 ∨ c.op = 0x0B then s.pend.any fun p => p.seq = some c.seq && p.failed.isNone
  else c.op = 0x01 && c.wait = .pause

/-- A snapshot no longer has a command that waits for it. -/
def Pending.orphan (p : Pending) (n : Nat) : Pending := if p.seq = some n then { p with seq := none } else p

/-- The exchange of a lane goes on without its command, and a medium message without its own (R420). -/
def Lane.orphan (l : Lane) : Lane :=
  let go (m : Msg) : Msg := match m.who with
    | .medium _ => { m with who := .nothing }
    | _ => m
  { l with out := l.out.map go, wait := l.wait.map go, auth := l.auth.map fun a => { a with seq := none } }

/-- The started commands end with TARGET_RESET as their core pair fails (R76, R420, R421). -/
def State.coreLost (s : State) : State :=
  let s := s.calEnd St.targetReset
  let s := (s.hq.cmds.filter fun c => c.started).foldl (fun s c =>
    let made := s.effectMade c
    let s := { s with pend := s.pend.map fun (p : Pending) => p.orphan c.seq,
                      tim := { s.tim with steps := s.tim.steps.filter fun t => t.seq ≠ some c.seq } }
    s.endCmd c St.targetReset 0 (b2n made)) s
  let s := (List.range 32).foldl (fun s n => s.setLane n (s.lane n).orphan) s
  let s := s.setFld R.LCS_STAT F.LCS_STAT_UPDATING 0
  { s with hq := { s.hq with sbc := [] }, lcs := { s.lcs with update := none },
           flt := { s.flt with handover := [], resets := s.flt.resets.map fun r => (r.1, []) } }

/-- Pair `p` fails with fault `code` (R420, R423). -/
def State.mcpFail (s : State) (p code : Nat) : State :=
  let st := s.mcpState p
  let o := 1 - p
  if st = 0 then
    let s := (s.setMcp p 2).bumpEpoch (1 + p)
    if s.mcpState o = 1 then
      let s := ((s.setMcp o 0).inc R.FLT_TAKEOVERS 1).coreLost
      s.degrSync.report code (1 + p) 0 0 0
    else s.coreLost.degrSync.report 0x03 (1 + p) 0 0 0
  else if st = 1 then ((s.setMcp p 2).bumpEpoch (1 + p)).degrSync.report 0x02 (1 + p) 0 0 0
  else s

/-- The active pair. -/
def State.activeMcp (s : State) : Nat := s.fld R.FLT_MCP F.FLT_MCP_ACTIVE

/-- MCP_LOCKSTEP_MISMATCH (R420). -/
def execMcpLockstepMismatch (ns : Nat) (s : State) : Res State :=
  let s := s.arrive ns
  done (if s.mcpState s.activeMcp = 0 then s.mcpFail s.activeMcp 0x01 else s)

/-- MCP_WATCHDOG_EXPIRY (R420). -/
def execMcpWatchdogExpiry (ns : Nat) (s : State) : Res State :=
  let s := s.arrive ns
  done (if s.mcpState s.activeMcp = 0 then s.mcpFail s.activeMcp 0x04 else s)

/-- MCP_STANDBY_MISMATCH (R423). -/
def execMcpStandbyMismatch (ns : Nat) (s : State) : Res State :=
  let s := s.arrive ns
  let p := 1 - s.activeMcp
  done (if s.mcpState p = 1 then s.mcpFail p 0x02 else s)

/-! ## Units in reset (R417, R419) -/

/-- The unit is in reset. -/
def State.inReset (s : State) (t : Nat) : Bool := s.flt.resets.any fun r => r.1 = t

/-- Command `n` waits for the self-test of unit `t`. -/
def State.joinReset (s : State) (t n : Nat) : State :=
  let go (r : Nat × List Nat) : Nat × List Nat := if r.1 = t then (t, r.2 ++ [n]) else r
  { s with flt := { s.flt with resets := s.flt.resets.map go } }

/-- Unit `t` goes into reset, and the commands `ns` wait for its self-test. -/
def State.beginReset (s : State) (t : Nat) (ns : List Nat) : State :=
  let s := s.bumpEpoch t
  { s with flt := { s.flt with resets := s.flt.resets ++ [(t, ns)] } }

/-- The command waits for a self-test. -/
def State.waitTest (s : State) (c : Cmd) : State := s.putCmd { c with wait := .selfTest }

/-! ### Firmware activation (R441, R442) -/

/-- A field of an image header (Table 17-3). -/
def hdr (image : List Byte) (o n : Nat) : Nat := leNat ((image.drop o).take n)

/-- FW_UPDATE ends. -/
def State.fwEnd (s : State) (u : FwUpdate) (status result : Nat) : State :=
  let s := s.setFld R.LCS_STAT F.LCS_STAT_UPDATING 0
  ({ s with lcs := { s.lcs with update := none } }).endSeq u.seq status result 0

/-- LCS_SVN is burned up to the image's SVN, where VFUSE permits it (R441, R454). -/
def State.burnSvn (s : State) (svn : Nat) : State :=
  if (s.rd R.LCS_SVN).toNat < svn ∧ s.fld R.PWR_STAT F.PWR_STAT_VFUSE_LOW = 0 then s.wr R.LCS_SVN (BitVec.ofNat 32 svn) else s

/-- Pair `p` has ended the self-test that activates an image, if it runs one. -/
def State.fwTested (s : State) (p : Nat) (pass : Bool) : State :=
  match s.lcs.update with
  | none => s
  | some u =>
    if u.pair ≠ p ∨ (u.step ≠ 1 ∧ u.step ≠ 3) then s
    else if !pass then s.fwEnd u St.done 0
    else
      let s := s.cairn 13 2 true (leBytes p 4 ++ leBytes (hdr u.image 12 4) 4)
      if u.step = 1 then { s with lcs := { s.lcs with update := some { u with step := 2 } } }
      else (s.burnSvn (hdr u.image 8 4)).fwEnd u St.done (hdr u.image 12 4)

/-- The commands for which a planned handover is due. -/
def State.handoverDue (s : State) : List Nat :=
  s.flt.handover ++ (match s.lcs.update with
    | some u => if u.step = 2 then [u.seq] else []
    | none => [])

/-- The planned handover of the active pair: its partner becomes active, and it goes into reset (R422). The commands that asked for it end
on the new pair. -/
def State.handOver (s : State) : State :=
  let p := s.activeMcp
  let t := 1 + p
  let ns := s.flt.handover
  let up : Option FwUpdate := s.lcs.update.map fun u => if u.step = 2 then { u with step := 3, pair := p } else u
  let s := { s with flt := { s.flt with handover := [] }, lcs := { s.lcs with update := up } }
  let s := ((s.setMcp p 3).beginReset t []).setMcp (1 - p) 0
  ns.foldl (fun s n => s.endSeq n St.done ((s.unitEpoch t).getD 0) 0) s.degrSync

/-- MCP_HANDOVER (R422): every other started command has ended. -/
def execMcpHandover (s : State) : Res State :=
  let w := s.handoverDue
  done (if w.isEmpty ∨ (s.hq.cmds.any fun c => c.started && !w.contains c.seq) ∨ s.mcpState (1 - s.activeMcp) ≠ 1 then s
    else s.handOver)

/-! ### The tile scheduler and the compressor -/

/-- TSC is reset (R417): status words, contexts and posted events cleared, commits of set 1 ended. -/
def State.tscReset (s : State) : State :=
  let gone := s.pend.filter fun p => p.sets.contains 1 || p.notReady.contains 1
  let s := { s with pend := s.pend.filter fun p => !(p.sets.contains 1 || p.notReady.contains 1) }
  let s := gone.foldl (fun s p => match p.seq with
    | some n => s.endSeq n St.targetReset 0 0
    | none => s) s
  let s := (List.range 24).foldl (fun s h => s.closeTile h Ts.aborted) s
  let s := s.tsc.jobList.foldl (fun s j => s.prodFlag j.rcd 1) s
  let s := { s with tsc := { s.tsc with jobList := [], ctxs := [], active := [], joining := [], barriers := [], committed := false,
                                        svcGo := false, startAt := none, copying := none, urgentSeen := [] } }
  let s := (List.range 8).foldl (fun s i => s.wr (R.TSC_EVT i) 0) (s.wr R.TSC_PARKCNT 0)
  (s.sramFill 0x3640000 0x40000 []).sramFill 0x3620000 0x20000 []

/-- SBC is reset (R417): expansions end with their commands, and the records being compressed are lost and counted. -/
def State.sbcReset (s : State) : State :=
  let js := s.hq.sbc
  let s := { s with hq := { s.hq with sbc := [] } }
  let s := js.foldl (fun s j => s.endSeq j.seq St.targetReset 0 0) s
  let rs := s.recd.qBuf
  ({ s with recd := { s.recd with qBuf := [] } }).dropQuality rs

/-- A mirror-array port is reset (R306). -/
def State.mapReset (s : State) (p : Nat) : State :=
  (s.mapPorts p).foldl (fun s p =>
    let s := s.mapStopNow p 4
    let q := (s.map p).queue
    let s := s.setMap p { s.map p with queue := [] }
    (q.foldl (fun s b => s.releaseBuf p b) s).syncDepth p) s

/-- The head whose sequencer is `n`, if one is. -/
def State.headOfSeq (s : State) (n : Nat) : Option Nat := (List.range 24).find? fun h => s.seqOf h = n

/-- UNIT_RESET of the unit `t` that has no self-test: its effect, at once. -/
def State.resetNow (s : State) (t : Nat) : State :=
  if t = 0x10 then s.tscReset.bumpEpoch t
  else if t = 0x11 then s.sbcReset.bumpEpoch t
  else if t < 0x400 then
    let n := t - 0x300
    let s := s.setFld (R.LN_CFG n) F.LN_CFG_EN 0
    let st := s.laneState n
    let s := if st = Ln.disabled ∨ st = Ln.test then s else s.laneTo n Ln.disabled 4
    let s := s.setFld (R.LN_CFG n) F.LN_CFG_EN 1
    if s.laneState n ≠ Ln.disabled then s
    else if s.fld (R.LN_CFG n) F.LN_CFG_TEST = 1 then s.laneTo n Ln.test 4
    else s.laneUp n 4
  else if t < 0x500 then
    let e := t - 0x400
    if s.fld (R.CEN_CE_STAT e) F.CEN_CE_STAT_RESETTING = 1 then s
    else ((s.setFld (R.CEN_CE_STAT e) F.CEN_CE_STAT_RESETTING 1).setEval e none).bumpEpoch t
  else if t < 0x600 then (s.mapReset (t - 0x500)).bumpEpoch t
  else (s.camReset (t - 0x600)).bumpEpoch t

/-- UNIT_RESET (R417): command `n`. -/
def execUnitReset (n : Nat) (s : State) : Res State :=
  done (s.runCmd 0x30 n fun c s =>
    let t := c.target
    let wait (s : State) : State := if s.inReset t then (s.waitTest c).joinReset t n else (s.waitTest c).beginReset t [n]
    let quiet := s.mode = .idle || s.mode = .service
    if (epochPlace t).isNone then s.endCmd c St.badParam 0 0
    else if s.mode = .boot then s.endCmd c St.wrongMode 0 0
    else if t = 1 ∨ t = 2 then
      let p := t - 1
      if s.mcpState p = 0 then
        if !quiet then s.endCmd c St.wrongMode 0 0
        else if s.mcpState (1 - p) ≠ 1 then s.endCmd c St.notReady 0 0
        else
          let s := s.waitTest c
          { s with flt := { s.flt with handover := s.flt.handover ++ [n] } }
      else wait (if s.inReset t then s else s.setMcp p 3)
    else if t = 0x10 ∧ !quiet then s.endCmd c St.wrongMode 0 0
    else if 0x100 ≤ t ∧ t < 0x200 then
      let q := t - 0x100
      let holds := match s.headOfSeq q with
        | some h => s.bsqState q = 0 && (s.held h).isSome
        | none => false
      if holds then s.endCmd c St.notReady 0 0
      else wait (if s.inReset t then s else s.setBsqState q 3)
    else if 0x200 ≤ t ∧ t < 0x300 then
      let h := t - 0x200
      let r := s.fld (R.FLT_GSG h) F.FLT_GSG_RETIRED
      let s := if s.inReset t then s
        else { s with flt := { s.flt with rejoin := s.flt.rejoin ++ ((List.range 3).filter (bit r)).map fun c => (3 * h + c, s.tick + 2) } }
      wait s
    else
      let s := s.resetNow t
      s.endCmd c St.done ((s.unitEpoch t).getD 0) 0)

/-- Sequencer `n` is marked failed. -/
def State.bsqFailed (s : State) (n : Nat) : State := (s.setBsqState n 2).bumpEpoch (0x100 + n)

/-- The free spare of lower index (R425). -/
def State.freeSpare (s : State) : Option Nat := (List.range 26).find? fun n => s.bsqState n = 1

/-- Spare `m` is assigned to head `h` with the state `q`. -/
def State.assignSpare (s : State) (h m : Nat) (q : Seq) : State :=
  (((s.setBsqState m 0).setSeqOf h m).setSeq m { q with head := h }).inc R.FLT_TAKEOVERS 1

/-- A sequencer leaves self-test. One that served a head returns to it, or, when it fails, a spare takes the head, or the head is
removed with CAUSE 2; one that served none becomes a spare. -/
def State.bsqTested (s : State) (n : Nat) (pass : Bool) : State :=
  let q : Seq := { s.seq n with arch := Arch.reset, shape := Shape.reset, act := .ready }
  let s := s.setSeq n q
  if pass then s.setBsqState n (if (s.headOfSeq n).isSome then 0 else 1)
  else
    let s := s.setBsqState n 2
    match s.headOfSeq n with
    | none => s
    | some h => match s.freeSpare with
      | some m => (s.assignSpare h m q).degrSync
      | none => s.removeHead h 2

/-- UNIT_SELF_TEST_DONE (R417, R423): the self-test of unit `unit` ends. `ok` is 1 for a pass; for a GSG bit c tells that copy c passed. -/
def execUnitSelfTestDone (unit ok ns : Nat) (s : State) : Res State :=
  let s := s.arrive ns
  match s.flt.resets.find? fun r => r.1 = unit with
  | none => done s
  | some (_, ws) =>
    let s := { s with flt := { s.flt with resets := s.flt.resets.filter fun r => r.1 ≠ unit } }
    let pass := ok ≠ 0
    let finish (s : State) (failed : Bool) : State :=
      ws.foldl (fun s n => s.endSeq n St.done ((s.unitEpoch unit).getD 0 + 256 * b2n failed) 0) s
    if unit = 1 ∨ unit = 2 then
      let p := unit - 1
      if pass then done ((finish (s.setMcp p (if s.mcpState (1 - p) = 0 then 1 else 0)).degrSync false).fwTested p true)
      else done ((finish ((s.setMcp p 2).degrSync.report 0x02 unit 0 0 0) true).fwTested p false)
    else if 0x100 ≤ unit ∧ unit < 0x11A then done (finish (s.bsqTested (unit - 0x100) pass) (!pass))
    else if 0x200 ≤ unit ∧ unit < 0x218 then
      let h := unit - 0x200
      let bad := s.flt.rejoin.any fun r => r.1 / 3 = h && !bit ok (r.1 % 3)
      done (finish { s with flt := { s.flt with rejoin := s.flt.rejoin.filter fun r => r.1 / 3 ≠ h || bit ok (r.1 % 3) } } bad)
    else done s

/-- Retired copies that passed their self-test rejoin the vote at the boundary of tick `k` (Table 16-2). A copy still in its self-test
waits. -/
def State.gsgRejoin (s : State) (k : Nat) : State :=
  let go (r : Nat × Nat) : Bool := decide (r.2 ≤ k) && !s.inReset (0x200 + r.1 / 3)
  let s' := (s.flt.rejoin.filter go).foldl (fun s r =>
    let h := r.1 / 3
    s.setFld (R.FLT_GSG h) F.FLT_GSG_RETIRED (setBit (s.fld (R.FLT_GSG h) F.FLT_GSG_RETIRED) (r.1 % 3) false)) s
  { s' with flt := { s'.flt with rejoin := s.flt.rejoin.filter fun r => !go r } }

/-! ## Spare sequencers (R425, R426) -/

/-- A COL that a checker stop cut goes on after one held tick: in axis mode at the counts of its columns (R425). -/
def State.checkerCol (s : State) (m h k : Nat) (c : Ctx) : State :=
  let q := s.loaded m h (k + 1) c
  let r := c.seq.colRun
  if r.axisMode ∧ r.started then s.setSeq m { q.joinPlan c [] .column q.cursor false 0 with colRun := r }
  else match s.rejoinCol c none q with
    | .ok q => s.setSeq m q
    | .error e => (s.setSeq m q).progFault m e

/-- The checker stop of head `h`, whose spare `m` holds the state after tick k − 1 (R425). -/
def State.checkerStop (s : State) (h m k : Nat) : State :=
  let q := s.seq m
  let x := 1250 * k
  if !q.running ∨ q.guarded then s
  else
    let c := s.holdCtx h x
    let move : Option (Int × Int × Nat) := match q.spanAt (x - 1) with
      | some (_, sp) => if sp.kind = .motion ∨ sp.kind = .runIn then
          let u := Span.tangent { sp with tick0 := sp.tick0 + (x - sp.start) / 1250 }
          some (u.1, u.2, if u.1 = 0 ∧ u.2 = 0 then 0 else sp.speed)
        else none
      | none => none
    let ps := q.pointAt (k - 1)
    let spans := (q.spans.filter fun sp => decide (sp.start < x)).map fun sp =>
      { sp with len := min sp.len (x - sp.start), closeAt := min sp.closeAt x }
    let dots := (q.dots.filter fun d => decide (d.first < x)).map fun d => { d with last := min d.last x }
    let cut : Seq := { q with spans := spans, dots := dots, cursor := x, pos := ps, inRun := false, runInDone := false,
                              colRun := ColRun.none }
    let s := match move with
      | some (dx, dy, v) =>
        let w : Swb := ⟨ps, dx, dy, v, 0, 0, 0, s.fld R.TSC_JOIN_ACC F.TSC_JOIN_ACC_ACC⟩
        let q' := cut.swbStopPhase w .checkerStop 0
        (s.setSeq m q').resumeFrom m h (max k (cdiv q'.cursor 1250)) c none
      | none =>
        if c.seq.act = Activity.column ∧ (sget (fun _ => none) h s.tsc.joining).isNone then (s.setSeq m cut).checkerCol m h k c
        else (s.setSeq m cut).resumeFrom m h (k + 1) c none
    let q := s.seq m
    if q.running then s.setSeq m { q with nextTick := k } else s

/-- The tile that head `h` holds had completed no tick intent: the spare `m` begins it afresh, one tick later (log entry 29). -/
def State.checkerFresh (s : State) (h m k : Nat) : State :=
  let q := s.seq m
  match sget (fun _ => none) h s.tsc.joining with
  | some c => s.resumeFrom m h (k + 1) c none
  | none =>
    let x := 1250 * k
    let s := s.setSeq m { q with spans := q.spans.filter (fun sp => decide (sp.start < x)), cursor := x, arch := q.arch }
    s.setSeq m (s.freshStart m h (k + 1) q.arch.tile q.args q.job)

/-- The verified state of sequencer `n` after tick k − 1, if its tile had one. -/
def State.verified (s : State) (n k : Nat) : Option Seq :=
  let q := s.seq n
  match sget (fun _ => none) (2 * n + (k - 1) % 2) s.ckpts with
  | some (j, x) => if 0 < k ∧ j + 1 = k ∧ x.running ∧ x.arch.tile = q.arch.tile ∧ x.job = q.job then some x else none
  | none => none

/-- The checker of sequencer `n` mismatches (R425, R426). -/
def State.checkerMismatch (s : State) (n : Nat) : State :=
  let st := s.bsqState n
  if st = 1 then s.bsqFailed n
  else if st ≠ 0 then s
  else match s.headOfSeq n with
  | none => s.bsqFailed n
  | some h =>
    let q := s.seq n
    let k := if q.running then q.nextTick else s.tick + 2
    let v := s.verified n k
    let idle : Seq := { q with running := false, act := .ready, job := none, head := 31 }
    let u := 0x100 + n
    if sget (fun _ => 0) h s.tsc.removedAt = s.tick + 1 then (s.bsqFailed n).report 0x10 u h 0 (k % 2 ^ 32)
    else match s.freeSpare with
      | some m =>
        let s := ((s.bsqFailed n).setSeq n idle).assignSpare h m (v.getD q)
        let s := if !q.running then s else if v.isSome then s.checkerStop h m k else s.checkerFresh h m k
        s.degrSync.report 0x10 u h m (k % 2 ^ 32)
      | none =>
        let s := (s.bsqFailed n).setSeq n (v.getD q)
        (s.removeHeadAt h 2 (1250 * k) 0).report 0x11 u h 0 (k % 2 ^ 32)

/-- BSQ_CHECKER_MISMATCH (R425, R426): the checkers of the sequencers `units` mismatch in one tick; the lower index acts first. -/
def execBsqCheckerMismatch (units : List Nat) (ns : Nat) (s : State) : Res State :=
  let s := s.arrive ns
  done ((List.range 26).foldl (fun s n => if units.contains (0x100 + n) then s.checkerMismatch n else s) s)

/-! ## Memory errors (R428 to R430) -/

/-- FLT_ERRADR shows the address of an error. -/
def State.errAddr (s : State) (dram : Bool) (a : Nat) : State :=
  (s.wr R.FLT_ERRADR_LO (BitVec.ofNat 32 a)).wr R.FLT_ERRADR_HI (BitVec.ofNat 32 (a / 2 ^ 32 % 256 + 2 ^ 31 * b2n dram))

/-- A corrected error is reported at most once per 1 ms per memory (R428); `i` is 0 for SRAM, 1 for DRAM. -/
def State.ceReport (s : State) (i a : Nat) : State :=
  let f := s.flt
  if bit f.ceReported i ∧ s.now < f.ceSince.getD i 0 + 1000000 then s
  else ({ s with flt := { f with ceReported := setBit f.ceReported i true, ceSince := f.ceSince.set i s.now } }).report
    (if i = 0 then 0x20 else 0x24) 0xFFFF (a % 2 ^ 32) 0 0

/-- SRAM_CORRECTED_ERROR (R428): at byte address `a`. -/
def execSramCorrectedError (a ns : Nat) (s : State) : Res State :=
  let s := s.arrive ns
  done (if 0x4000000 ≤ a then s else ((s.inc R.FLT_SRAM_CE 1).errAddr false a).ceReport 0 a)

/-- DRAM_CORRECTED_ERROR (R428). -/
def execDramCorrectedError (a ns : Nat) (s : State) : Res State :=
  let s := s.arrive ns
  done (if 2 ^ 40 ≤ a then s else ((s.inc R.FLT_DRAM_CE 1).errAddr true a).ceReport 1 a)

/-- The COL of sequencer `n` still reads the word at SRAM byte address `a`. -/
def State.colReads (s : State) (n a : Nat) : Bool :=
  let q := s.seq n
  let r := q.colRun
  let cfg := s.rd (R.BLD_CA_CFG r.area)
  let w := 1 + 3 * fget cfg F.BLD_CA_CFG_FMT
  let base := 0x2C00000 + 0x200000 * r.copy + 4096 * fget cfg F.BLD_CA_CFG_BASE
  let word := a / 8 * 8
  let lo := if r.down then (r.col0 : Int) - (r.ncol - 1) else r.col0 + r.next
  let hi := if r.down then (r.col0 : Int) - r.next else r.col0 + r.ncol - 1
  q.running && q.act = .column && r.active && decide (base ≤ word) &&
    decide ((((word - base) / w : Nat) : Int) ≤ hi) && decide (lo ≤ (((word + 7 - base) / w : Nat) : Int))

/-- A record in staging is lost with its word, and counted (R404, Table 16-4). The record of SEQ n stands in slot n mod 3072 (log entry 29). -/
def State.stagingLost (s : State) (a : Nat) : State :=
  let slot := (a - 0x3440000) / 256
  match s.recd.staging.find? fun c => c.seq % 3072 = slot with
  | none => s
  | some c =>
    let r := s.recd
    let s := { s with recd := { r with staging := r.staging.filter fun x => x.seq ≠ c.seq, lostNext := true,
                                       dropC := r.dropC + b2n (!c.perm), dropP := r.dropP + b2n c.perm } }
    ((s.inc (if c.perm then R.REC_PDROP else R.REC_DROP) 1).setFld R.REC_STAT F.REC_STAT_LOST 1).recSync

/-- SRAM_UNCORRECTABLE_ERROR (R429, Table 16-4): at byte address `a`. -/
def execSramUncorrectableError (a ns : Nat) (s : State) : Res State :=
  let s := s.arrive ns
  if 0x4000000 ≤ a then done s
  else
    let s := (s.inc R.FLT_SRAM_UE 1).errAddr false a
    let s := { s with mem := { s.mem with sramBad := sput (fun _ => false) (a / 8) true s.mem.sramBad } }
    let note (s : State) : State := s.report 0x22 0xFFFF a 0 0
    if 0x3680000 ≤ a ∧ a < 0x3A80000 then done (s.mcpFail (if a < 0x3880000 then 0 else 1) 0x01)
    else if 0x2C00000 ≤ a ∧ a < 0x3000000 then
      done (note ((List.range 24).foldl (fun s h =>
        if s.colReads (s.seqOf h) a then s.abandonAt h (s.seq (s.seqOf h)).cursor else s) s))
    else if 0x3500000 ≤ a ∧ a < 0x3600000 then
      let js := match s.hq.sbc with
        | [] => []
        | j :: t => { j with bad := true } :: t
      done (note { s with hq := { s.hq with sbc := js } })
    else if 0x3440000 ≤ a ∧ a < 0x3500000 then done (note (s.stagingLost a))
    else if (0x2800000 ≤ a ∧ a < 0x2C00000) ∨ (0x3300000 ≤ a ∧ a < 0x3440000) ∨ 0x3A80000 ≤ a then done (note s)
    else done (s.report 0x21 0xFFFF a 0 0)

/-- The counter of a quality record's source, from its bytes. -/
def State.qualityCounter (s : State) (a : Nat) : Nat :=
  let b := s.dramBytes a 32
  let head := leNat ((b.drop 10).take 1)
  let kind := leNat ((b.drop 11).take 1)
  if kind = 0xFF ∧ 24 ≤ head ∧ head < 26 then R.MAP_QDROP (head - 24)
  else if head < 24 then R.BSQ_QDROP (s.seqOf head)
  else R.AXF_PQ_QDROP

/-- A quality record or a trace spill in region 4 that holds address `a` is counted as dropped (Table 16-4). -/
def State.region4Lost (s : State) (a : Nat) : State :=
  let (base, size) := s.ring
  let w := (s.rd R.REC_QS_WPTR).toNat
  let r := (s.rd R.REC_QS_RPTR).toNat
  let spill := (s.dramRegion 4).1 + s.fld R.CEN_TRC_SPILL F.CEN_TRC_SPILL_OFS * 2 ^ 20
  let o := a - base
  let unread := if r ≤ w then decide (r ≤ o) && decide (o < w) else decide (r ≤ o) || decide (o < w)
  if size ≠ 0 ∧ base ≤ a ∧ a < base + size then
    if unread ∧ s.fld R.REC_QS_CFG F.REC_QS_CFG_EN = 1 then s.inc (s.qualityCounter (base + o / 32 * 32)) 1 else s
  else if spill ≤ a ∧ a < spill + s.fld R.CEN_TRC_SPILL F.CEN_TRC_SPILL_SIZE * 2 ^ 20 then s.inc R.CEN_TRC_SPILLDROP 1
  else s

/-- The staging copy under way meets the word: COMMIT_LAYER fails, and the old pool stays live (Table 16-4). -/
def State.stagingFails (s : State) (a : Nat) : State :=
  match s.tsc.copying with
  | none => s
  | some k =>
    if a < s.slotBase k ∨ s.slotBase k + 36 * 2 ^ 20 ≤ a then s
    else
      let gone := s.pend.filter fun p => p.notReady.contains 1
      let s := { s with pend := s.pend.filter fun p => !p.notReady.contains 1, tsc := { s.tsc with copying := none } }
      gone.foldl (fun s p => match p.seq with
        | some n => s.endSeq n St.dataCorrupt 0 0
        | none => s) s

/-- DRAM_UNCORRECTABLE_ERROR (R430, Table 16-4). A row that scan-out reads from the unit is sent as zeros by LINE_SEND. -/
def execDramUncorrectableError (a ns : Nat) (s : State) : Res State :=
  let s := s.arrive ns
  if 2 ^ 40 ≤ a then done s
  else
    let s := (s.inc R.FLT_DRAM_UE 1).errAddr true a
    let s := { s with mem := { s.mem with dramBad := sput (fun _ => false) (a / 32) true s.mem.dramBad } }
    let s := match s.dramRegionOf a with
      | some 3 => s.stagingFails a
      | some 4 => s.region4Lost a
      | _ => s
    done (s.report 0x25 0xFFFF (a % 2 ^ 32) 0 0)

end Sys2Proof.Machine
end

