-- ==== Sys2Proof/Machine/Lifecycle.lean ====
section
/-! DEFINITION. Life-cycle, firmware and trust (chapter 17): images (R440), firmware update (R441, R442), head authentication (R443, R444),
tokens (R438, R439), credits (R446, R447), transitions (R436). -/

namespace Sys2Proof.Machine

/-! ## Images (R440, Table 17-3) -/

/-- Two ranges of flash bytes overlap. -/
def overlap (a n b m : Nat) : Bool := decide (a < b + m) && decide (b < a + n)

/-- The three flash areas overlap neither each other nor an image slot. The manual gives the usage-counter area no size: its first byte is
judged (log entry 30). -/
def areasOk (image : List Byte) : Bool :=
  let as_ : List (Nat × Nat) := [(hdr image 72 4, 4096 * 256), (hdr image 76 4, 65536 * 256), (hdr image 80 4, 1)]
  (List.range 3).all fun i => match as_[i]? with
    | some (a, n) => !overlap a n 0 0x1000000 && (as_.drop (i + 1)).all fun b => !overlap a n b.1 b.2
    | none => true

/-- An image passes the checks of the boot ROM in the present life-cycle state. -/
def State.imageOk (s : State) (image : List Byte) : Bool :=
  let body := image.drop 352
  let k := hdr image 20 1
  let key := (image.drop 160).take 96
  decide (352 ≤ image.length) && decide (hdr image 0 4 = 0x53544F4C) && decide (hdr image 4 4 = 352) &&
    decide (1 ≤ hdr image 16 4) && decide (hdr image 16 4 ≤ 8388256) && decide (body.length = hdr image 16 4) && areasOk image &&
    decide ((image.drop 24).take 48 = Config.sha384 body) && s.lc ≠ 4 &&
    (s.lc = 0 ||
      (decide (k ≤ 3) && decide (s.lcs.keyHash.getD k [] = Config.sha384 key) && !bit s.lcs.revoked k &&
        Config.ecdsaVerifies 384 key (image.take 256) ((image.drop 256).take 96) &&
        decide ((s.rd R.LCS_SVN).toNat ≤ hdr image 8 4)))

/-! ## Firmware update (R441, R442) -/

/-- FW_UPDATE (R441): command `n`. The image goes to the slot not booted, which is invalid until it is written whole. -/
def execFwUpdate (n : Nat) (s : State) : Res State :=
  done (s.runCmd 0x32 n fun c s =>
    let image := s.dataIn c c.addr c.len
    if c.len < 352 ∨ c.len ≠ hdr image 4 4 + hdr image 16 4 ∨ !s.dataFits c c.addr c.len then s.endCmd c St.badParam 0 0
    else if s.lcs.update.isSome then s.endCmd c St.notReady 0 0
    else if !s.imageOk image then s.endCmd c St.authFail 0 0
    else if !s.flashOpen then s.endCmd c St.notReady 0 0
    else
      let slot := 1 - s.fld R.LCS_STAT F.LCS_STAT_SLOT
      let s := (s.putCmd { c with wait := .image }).setFld R.LCS_STAT F.LCS_STAT_UPDATING 1
      let u : FwUpdate := ⟨n, image, slot, 0, 0⟩
      { s with lcs := { s.lcs with update := some u, images := sput (fun _ => []) slot [0] s.lcs.images } })

/-- FW_IMAGE_WRITE_DONE (R441, R442): the write and the read-back of the image end; activation begins on the standby pair. -/
def execFwImageWriteDone (ok : Bool) (ns : Nat) (s : State) : Res State :=
  let s := s.arrive ns
  match s.lcs.update with
  | none => done s
  | some u =>
    if u.step ≠ 0 then done s
    else if !ok then done (s.fwEnd u St.dataCorrupt 0)
    else
      let s := { s with lcs := { s.lcs with images := sput (fun _ => []) u.slot u.image s.lcs.images } }
      let p := 1 - s.activeMcp
      if s.mcpState p ≠ 1 then done (s.fwEnd u St.done 0)
      else
        let s := (s.setMcp p 3).beginReset (1 + p) []
        done { s with lcs := { s.lcs with update := some { u with step := 1, pair := p } } }

/-! ## Head authentication (R443, R444) -/

/-- Authentication of the head of lane `n` fails: step 1 AUTH, 2 re-authentication, 3 HEAD_AUTH; cause of Table 17-6. -/
def State.authFails (s : State) (n cause : Nat) (a : Auth) : State :=
  let inAuth := s.laneState n = Ln.auth
  let step := if inAuth then 1 else if a.seq.isSome then 3 else 2
  let s := s.setLane n { s.lane n with auth := none }
  let s := match a.seq with
    | some q => s.endSeq q St.authFail 0 0
    | none => s
  (s.cairn 13 3 true (leBytes n 1 ++ leBytes step 1 ++ leBytes cause 1)).laneTo n Ln.failed 5

/-- AUTH_COMPLETE (R443, R444): the exchange on lane `n` has ended. -/
def execAuthComplete (n ns : Nat) (s : State) : Res State :=
  let s := s.arrive ns
  match (s.lane n).auth with
  | none => done s
  | some a =>
    if 24 ≤ n ∨ !(a.failed ∨ 18 ≤ a.step) ∨ (s.laneState n ≠ Ln.auth ∧ s.laneState n ≠ Ln.service) then done s
    else
      let f := s.authFault n a
      if f ≠ 0 then done (s.authFails n f a)
      else
        let s := s.setLane n { s.lane n with auth := none, cert := a.cert }
        let s := match a.seq with
          | some q => s.endSeq q St.done 0 0
          | none => s
        done (if s.laneState n = Ln.auth then s.laneTo n Ln.service 1 else s)

/-- AUTH_TIMEOUT (R443, R444): an exchange has not finished within 100 ms. -/
def execAuthTimeout (n ns : Nat) (s : State) : Res State :=
  let s := s.arrive ns
  match (s.lane n).auth with
  | none => done s
  | some a => if 24 ≤ n ∨ s.now < a.at_ + 100000000 then done s else done (s.authFails n 4 a)

/-- REAUTH_TIMER (R444): every PER seconds the challenge is repeated on every head in service. -/
def execReauthTimer (ns : Nat) (s : State) : Res State :=
  let s := s.arrive ns
  let per := s.fld R.LCS_REAUTH F.LCS_REAUTH_PER
  if per = 0 ∨ s.now < s.lcs.reauthAt + per * 1000000000 then done s
  else
    let s := { s with lcs := { s.lcs with reauthAt := s.now } }
    done ((List.range 24).foldl (fun s n =>
      if s.inService n ∧ s.role n = 0 ∧ (s.lane n).auth.isNone then s.authAgain n else s) s)

/-- HEAD_AUTH (R444): command `n`. -/
def execHeadAuth (n : Nat) (s : State) : Res State :=
  done (s.runCmd 0x31 n fun c s =>
    let h := c.target
    if 24 ≤ h then s.endCmd c St.badParam 0 0
    else if !s.inService h ∨ s.role h ≠ 0 ∨ (s.lane h).auth.isSome then s.endCmd c St.notReady 0 0
    else (s.putCmd { c with wait := .auth }).authStart h (some n))

/-! ## Tokens (R438, R439, R446, Table 17-2) -/

/-- A volatile key or a token takes effect. -/
def State.setLcs (s : State) (l : Lcs) : State := { s with lcs := l }

/-- The anchors of a list body. -/
def anchorsOf : Nat → List Byte → List Anchor
  | 0, _ => []
  | k + 1, bs => ⟨leNat (bs.take 4), leNat ((bs.drop 4).take 4), (bs.drop 8).take 64⟩ :: anchorsOf k (bs.drop 72)

/-- A credit body (Table 17-4) is accepted or refused (R446). The record that it writes needs the flash window (R396). -/
def State.credit (s : State) (body : List Byte) : Nat × State :=
  let f (o : Nat) : Nat := leNat ((body.drop o).take 4)
  let t := f 0
  let seq := f 4
  let amount := f 8
  let bind := bit (f 12) 0
  let unbind := bit (f 12) 1
  let old := (s.rd (R.LCS_UC_SEQ t)).toNat
  if 15 < t ∨ 4 ≤ f 12 ∨ (bind && unbind) then (St.badParam, s)
  else if seq ≠ (old + 1) % 2 ^ 32 ∨ (old = 0 ∧ !bind) then (St.authFail, s)
  else if !s.flashOpen then (St.notReady, s)
  else
    let bal := min (2 ^ 48 - 1) (s.ucBal t + amount)
    let s := (s.setUcBal t bal).wr (R.LCS_UC_SEQ t) (BitVec.ofNat 32 seq)
    let s := if bind then s.setFld (R.LCS_UC_STAT t) F.LCS_UC_STAT_BOUND 1
      else if unbind && amount = 0 then s.setFld (R.LCS_UC_STAT t) F.LCS_UC_STAT_BOUND 0
      else s
    let r := sget (fun _ => 0) t s.lcs.reserved
    let s := s.setLcs { s.lcs with flashBal := sput (fun _ => 0) t (bal - r) s.lcs.flashBal }
    (St.done, s.cairn 13 5 true (leBytes t 1 ++ leBytes seq 4 ++ leBytes amount 4))

/-- A token of kind `kind` is judged and takes effect: the command's status and the state. -/
def State.token (s : State) (path kind : Nat) (bs : List Byte) : Nat × State :=
  let serial := leNat ((bs.drop 4).take 4)
  let own := (s.rd R.LCS_SERIAL).toNat
  let body (sig : Nat) : List Byte := (bs.drop 16).take (bs.length - 16 - sig)
  let rootOk := Config.ecdsaVerifies 384 Config.rootKey (bs.take (bs.length - 96)) (bs.drop (bs.length - 96))
  if bs.length < 16 ∨ leNat (bs.take 4) ≠ kind then (St.authFail, s)
  else if kind = 0x50 then
    if bs.length ≠ 116 ∨ !rootOk ∨ serial ≠ own then (St.authFail, s)
    else if 4 ≤ leNat (body 96) then (St.badParam, s)
    else (St.done, s.setLcs { s.lcs with debug := some (leNat (body 96)) })
  else if kind = 0x51 then
    let b := body 64
    let key := s.lcs.anchors.find? fun a => a.purpose = 2 && a.id = leNat ((b.drop 16).take 4)
    match key with
    | none => (St.authFail, s)
    | some a =>
      if bs.length ≠ 128 ∨ serial ≠ own ∨ !Config.ecdsaVerifies 256 a.key (bs.take 64) (bs.drop 64) then (St.authFail, s)
      else s.credit b
  else if kind = 0x52 then
    let n := (bs.length - 112) / 72
    let as_ := anchorsOf n (body 96)
    if bs.length < 112 ∨ bs.length ≠ 112 + 72 * n ∨ 8 < n ∨ !rootOk ∨ (serial ≠ 0 ∧ serial ≠ own) then (St.authFail, s)
    else if as_.any fun a => a.purpose ≠ 1 && a.purpose ≠ 2 then (St.badParam, s)
    else (St.done, s.setLcs { s.lcs with anchors := as_ })
  else if kind = 0x53 then
    if path ≠ 0 then (St.wrongMode, s)
    else if bs.length ≠ 48 ∨ serial ≠ 0 then (St.authFail, s)
    else (St.done, (s.setLcs { s.lcs with session := some (body 0) }).setFld R.LCS_STAT F.LCS_STAT_SESSKEY 1)
  else
    if bs.length ≠ 120 ∨ !rootOk ∨ serial ≠ own then (St.authFail, s)
    else (St.done, s.setLcs { s.lcs with transition := some (leNat ((body 96).take 4), leNat ((body 96).drop 4)) })

/-! ## Life-cycle transitions (R436) -/

/-- The permitted transitions. -/
def lcStep (a b : Nat) : Bool := [(0, 1), (1, 2), (2, 3), (2, 4), (3, 4)].contains (a, b)

/-- A write of LCS_LC_REQ.GO (R436, R454): the fuses are burned, effective at the next reset. -/
def State.lcReqWrite (s : State) (v : Word) : State :=
  if fget v F.LCS_LC_REQ_GO = 0 then s
  else
    let refuse := s.setFld R.LCS_STAT F.LCS_STAT_LC_REJ 1
    match s.lcs.transition with
    | none => refuse
    | some (a, b) =>
      if !s.unlocked ∨ a ≠ s.lc ∨ !lcStep a b ∨ s.lcs.burned.isSome ∨ s.fld R.PWR_STAT F.PWR_STAT_VFUSE_LOW = 1 then refuse
      else
        let s := (s.setLcs { s.lcs with burned := some b }).setFld R.LCS_STAT F.LCS_STAT_LC_PEND 1
        s.cairn 13 4 true (leBytes a 1 ++ leBytes b 1)

/-- LIFECYCLE_TRANSITION: a write of LCS_LC_REQ. -/
def execLifecycleTransition (v : Word) (s : State) : Res State := hostOp s fun s => s.lcReqWrite v

end Sys2Proof.Machine
end

