-- ==== Sys2Proof/Machine/Power.lean ====
section
/-! DEFINITION. Supplies, reset, boot, power-fail and clocks (chapter 18, R399, R403, R437, R440, R454 to R465). -/

namespace Sys2Proof.Machine

/-! ## Reset (R453, R456, R437) -/

/-- What the fuses and the flash keep of a register across a reset. -/
def State.keepReg (s : State) (w : State) (r : Nat) : State := w.wr r (s.rd r)

/-- Device reset with RSTCAUSE `cause`: every block at its reset state. The fuses, the flash, the host's memory, the levels of the pins and
what the rails do stay. A burned transition takes effect; entry to RETURNED sets every balance to zero. -/
def State.deviceReset (s : State) (cause : Nat) : State :=
  let r := State.reset
  let lc := s.lcs.burned.getD s.lc
  let returned := lc = 3 && s.lc ≠ 3
  let flash : Sparse Nat := if returned then [] else s.lcs.flashBal
  let lost := (s.recd.staging.filter fun c => !c.permDone).length
  let w : State := { r with
    pending := s.pending, out := s.out, free := s.free,
    mem := { r.mem with host := s.mem.host },
    glb := { r.glb with pins := s.glb.pins, fbLow := s.glb.fbLow },
    tim := { r.tim with present := s.tim.present },
    recd := { r.recd with permSlots := s.recd.permSlots, circSlots := s.recd.circSlots, erased := s.recd.erased, skip := s.recd.skip,
                          bootLost := s.recd.bootLost + lost },
    lcs := { r.lcs with keyHash := s.lcs.keyHash, revoked := s.lcs.revoked, images := s.lcs.images, flashBal := flash },
    pwr := { r.pwr with held := true } }
  let w := (List.range 16).foldl (fun w t =>
    let bound := s.fld (R.LCS_UC_STAT t) F.LCS_UC_STAT_BOUND
    ((s.keepReg w (R.LCS_UC_SEQ t)).setFld (R.LCS_UC_STAT t) F.LCS_UC_STAT_BOUND bound).setUcBal t (sget (fun _ => 0) t flash)) w
  let w := [R.LCS_SVN, R.LCS_SERIAL, R.LCS_PART, R.REC_PCOUNT, R.PWR_MON].foldl s.keepReg w
  let w := (w.setFld R.LCS_STAT F.LCS_STAT_LC lc).setFld R.PWR_STAT F.PWR_STAT_RSTCAUSE cause
  let w := w.setFld R.PWR_STAT F.PWR_STAT_VFUSE_LOW (s.fld R.PWR_STAT F.PWR_STAT_VFUSE_LOW)
  w.setFld R.GLB_ILK_STAT F.GLB_ILK_STAT_FB_OPEN (b2n (!s.glb.fbLow))

/-- RESET_N_ASSERT (R456): RESET_N has been low for 10 µs. -/
def execResetNAssert (ns : Nat) (s : State) : Res State := done ((s.arrive ns).deviceReset 1)

/-- POWER_ON_RESET (R453, R455): `rail`, in the order of Table 18-3, has fallen below 70 % of its nominal value. VFUSE does not count. -/
def execPowerOnReset (rail ns : Nat) (s : State) : Res State :=
  let s := s.arrive ns
  if 9 ≤ rail then done s
  else done ((s.setFld R.PWR_MON F.PWR_MON_RAIL (setBit (s.fld R.PWR_MON F.PWR_MON_RAIL) rail false)).deviceReset 0)

/-- RESET_END (R453, R457): every rail but VFUSE has been inside its window for 2 ms and RESET_N is released. -/
def execResetEnd (ns : Nat) (s : State) : Res State :=
  let s := s.arrive ns
  if !s.pwr.held then done s
  else
    let mon := s.fld R.PWR_MON F.PWR_MON_RAIL
    done { s.setFld R.PWR_MON F.PWR_MON_RAIL (mon / 512 * 512 + 511) with pwr := { s.pwr with held := false } }

/-! ## Boot (R457, R459, R440, R399) -/

/-- The boot goes on: the device is in BOOT, out of reset, and PFAIL_N has not halted it (R460). -/
def State.booting (s : State) : Bool := s.mode = .boot && !s.pwr.held && s.pwr.pfailAt.isNone

/-- PLL_LOCK (R457): the CD_CORE PLL (`pll` = 0) or the CD_TIME PLL (1) locks. With the second, device time starts at 0, from SYSCLK where no
reference is present (R357). -/
def execPllLock (pll ns : Nat) (s : State) : Res State :=
  let s := s.arrive ns
  if !s.booting then done s
  else if pll = 0 then done { s with pwr := { s.pwr with core := true } }
  else if pll = 1 ∧ !s.pwr.time then
    let s := s.setFld R.TIM_STAT F.TIM_STAT_NOREF (b2n (s.tim.present = 0))
    done { s with pwr := { s.pwr with time := true }, tick := 0, now := 0 }
  else done s

/-- The records that the flash holds. -/
def State.flashRecords (s : State) : List Cairn :=
  s.recd.permSlots.filterMap (fun p => p.2) ++ s.recd.circSlots.filterMap (fun p => p.2)

/-- The counters that the boot reads from the flash records, and the boot record (R399, R400, R403). -/
def State.bootRecords (s : State) : State :=
  let cs := s.flashRecords
  let top (f : Cairn → Nat) : Nat := cs.foldl (fun m c => max m (f c)) 0
  let s := s.wr R.REC_SEQ (BitVec.ofNat 32 (if cs.isEmpty then 0 else top (fun c => c.seq) + 1))
  let s := s.wr R.REC_OPTIME (BitVec.ofNat 32 (top fun c => c.optime))
  let s := s.wr R.REC_PCYC (BitVec.ofNat 32 (top (fun c => c.pcyc) + 1))
  let s := { s with recd := { s.recd with opAt := top fun c => c.optime } }
  let s := if 4096 ≤ (s.rd R.REC_PCOUNT).toNat then s.setFld R.REC_STAT F.REC_STAT_PFULL 1 else s
  let s := s.oldestSync.cairn 11 1 false (leBytes s.recd.bootLost 4)
  { s with recd := { s.recd with bootLost := 0 } }

/-- An Ethernet MAC address of the header. -/
def State.setMac (s : State) (p : Nat) (bs : List Byte) : State :=
  (s.wr (R.TIM_P_MAC_LO p) (BitVec.ofNat 32 (leNat bs))).wr (R.TIM_P_MAC_HI p) (BitVec.ofNat 32 (leNat (bs.drop 4) % 65536))

/-- BOOT_IMAGE_VERIFIED (R440): both slots are judged. `a` and `b` are what the board's flash holds in slots A and B where FW_UPDATE has not
written the slot. -/
def execBootImageVerified (a b : List Byte) (ns : Nat) (s : State) : Res State :=
  let s := s.arrive ns
  if !s.booting ∨ !s.pwr.core ∨ s.pwr.image ∨ s.fld R.LCS_STAT F.LCS_STAT_BOOTERR = 1 then done s
  else
    let img (k : Nat) (bs : List Byte) : List Byte :=
      let w := sget (fun _ => []) k s.lcs.images
      if w.isEmpty then bs else w
    let ia := img 0 a
    let ib := img 1 b
    let oa := s.imageOk ia
    let ob := s.imageOk ib
    if !oa ∧ !ob then done (s.setFld R.LCS_STAT F.LCS_STAT_BOOTERR 1)
    else
      let slot := if !oa ∨ (ob ∧ hdr ia 8 4 < hdr ib 8 4) then 1 else 0
      let im := if slot = 0 then ia else ib
      let s := { s with pwr := { s.pwr with image := true } }.setFld R.LCS_STAT F.LCS_STAT_SLOT slot
      let s := (s.wr R.REC_PBASE (BitVec.ofNat 32 (hdr im 72 4))).wr R.REC_CBASE (BitVec.ofNat 32 (hdr im 76 4))
      let s := (s.setMac 0 ((im.drop 84).take 6)).setMac 1 ((im.drop 90).take 6)
      let s := s.bootRecords.cairn 13 1 true (leBytes slot 4 ++ leBytes (hdr im 8 4) 4 ++ leBytes (hdr im 12 4) 4)
      done (if s.lc = 0 then s else s.burnSvn (hdr im 8 4))

/-- DRAM_TRAINING_DONE (R459): channel `c` ends training at `rate` (0 8533, 1 7500, 2 6400 MT/s, 3 failed) with `mib` MiB installed. With both
trained, the rate and the usable capacity show. -/
def execDramTrainingDone (c rate mib ns : Nat) (s : State) : Res State :=
  let s := s.arrive ns
  if 2 ≤ c ∨ !s.booting ∨ (s.pwr.dram.any fun d => d.1 = c) then done s
  else
    let s := { s with pwr := { s.pwr with dram := s.pwr.dram ++ [(c, min rate 3, mib)] } }
    let s := if 3 ≤ rate then
        s.setFld R.PWR_STAT F.PWR_STAT_DRAM_FAIL (setBit (s.fld R.PWR_STAT F.PWR_STAT_DRAM_FAIL) c true) else s
    let ds := s.pwr.dram
    if ds.length < 2 ∨ (ds.any fun d => d.2.1 = 3) then done s
    else
      let s := s.setFld R.PWR_STAT F.PWR_STAT_DDR_RATE (ds.foldl (fun m d => max m d.2.1) 0)
      done (s.wr R.GLB_DRAM_CAP (BitVec.ofNat 32 (min 65535 (ds.foldl (fun m d => m + d.2.2) 0 * 15 / 16))))

/-- SELF_TEST_PASS (R46, R457): secure boot and self-test have passed. A channel without training fails the self-test (R459), and END never
leaves BOOT (R435). -/
def execSelfTestPass (ns : Nat) (s : State) : Res State :=
  let s := s.arrive ns
  let p := s.pwr
  done (if s.booting ∧ s.lc ≠ 4 ∧ p.core ∧ p.time ∧ p.image ∧ p.dram.length = 2 ∧ s.fld R.PWR_STAT F.PWR_STAT_DRAM_FAIL = 0 then
      s.setMode .idle
    else s)

/-- OPTIME_SECOND (R399): one second of operating time. -/
def execOptimeSecond (ns : Nat) (s : State) : Res State :=
  let s := s.arrive ns
  done (if s.pwr.held then s else s.wr R.REC_OPTIME (BitVec.ofNat 32 ((s.rd R.REC_OPTIME).toNat + 1)))

/-! ## Supplies (R454, R455) -/

/-- SUPPLY_WINDOW_EXIT (R455): `rail` has been outside its monitor window for 2 µs, or, with `inside`, is inside it again. -/
def execSupplyWindowExit (rail : Nat) (inside : Bool) (ns : Nat) (s : State) : Res State :=
  let s := s.arrive ns
  if 10 ≤ rail then done s
  else
    let s := s.setFld R.PWR_MON F.PWR_MON_RAIL (setBit (s.fld R.PWR_MON F.PWR_MON_RAIL) rail inside)
    if rail = 9 then done (s.setFld R.PWR_STAT F.PWR_STAT_VFUSE_LOW (b2n (!inside)))
    else if inside then done s
    else
      let s := s.setFld R.PWR_LATCH F.PWR_LATCH_RAIL (setBit (s.fld R.PWR_LATCH F.PWR_LATCH_RAIL) rail true)
      if s.fld R.PWR_STAT F.PWR_STAT_PFAIL = 1 ∨ s.pwr.held then done s else done (s.report 0x58 0xFFFF rail 0 0)

/-! ## Power-fail (R405, R460 to R462, R82) -/

/-- PFAIL_ASSERT (R460): PFAIL_N has been low for 200 ns. A second assertion starts no second flush (R462). In BOOT the boot halts. -/
def execPfailAssert (ns : Nat) (s : State) : Res State :=
  let s := s.arrive ns
  if s.pwr.held ∨ s.fld R.PWR_STAT F.PWR_STAT_PFAIL = 1 then done s
  else
    let s := s.setFld R.PWR_STAT F.PWR_STAT_PFAIL 1
    if s.pwr.pfailAt.isSome then done s
    else
      let s := s.keepProgram
      let s := { s with pwr := { s.pwr with pfailAt := some s.now }, recd := { s.recd with powerFail := true } }
      if s.mode = .boot then done { s with recd := { s.recd with flushEnd := true } }
      else
        let s := s.setFld R.PWR_STAT F.PWR_STAT_SEALED 1
        let s := s.cairnAt 14 1 true true s.nowTs (leBytes (s.rd R.PWR_MON).toNat 4)
        done (s.enterSafe 16)

/-- A power-fail flush is under way or over, and `t` ns have passed since PFAIL_N asserted. -/
def State.flushAt (s : State) (t : Nat) : Bool :=
  s.fld R.PWR_STAT F.PWR_STAT_SEALED = 1 && match s.pwr.pfailAt with
    | some x => decide (x + t ≤ s.now)
    | none => false

/-- JOURNAL_SEAL (R82): 1.0 ms after PFAIL_N. -/
def execJournalSeal (ns : Nat) (s : State) : Res State :=
  let s := s.arrive ns
  if !s.flushAt 1000000 ∨ s.fld R.HQ_JRN_CTRL F.HQ_JRN_CTRL_SEALED = 1 then done s
  else
    let s := s.latchProgram
    done ((s.setFld R.HQ_JRN_CTRL F.HQ_JRN_CTRL_SEALED 1).cairnAt 2 1 true true s.nowTs (leBytes s.lastSeq 8))

/-- FLUSH_DEADLINE (R405): 1.8 ms after PFAIL_N no further page program starts. -/
def execFlushDeadline (ns : Nat) (s : State) : Res State :=
  let s := s.arrive ns
  if !s.flushAt 1800000 then done s
  else
    let s := s.latchProgram
    done { s with recd := { s.recd with flushEnd := true } }

/-- PFAIL_DEASSERT (R462): PFAIL_N returns high. -/
def execPfailDeassert (ns : Nat) (s : State) : Res State :=
  let s := s.arrive ns
  if s.fld R.PWR_STAT F.PWR_STAT_PFAIL = 0 then done s
  else done { s.setFld R.PWR_STAT F.PWR_STAT_PFAIL 0 with pwr := { s.pwr with highAt := s.now } }

/-- PFAIL_RECOVERY_RESET (R462): PFAIL_N has been high for 10 ms with every rail in its window. -/
def execPfailRecoveryReset (ns : Nat) (s : State) : Res State :=
  let s := s.arrive ns
  done (if s.pwr.pfailAt.isSome ∧ s.fld R.PWR_STAT F.PWR_STAT_PFAIL = 0 ∧ s.pwr.highAt + 10000000 ≤ s.now ∧
      s.fld R.PWR_MON F.PWR_MON_RAIL = 0x3FF then s.deviceReset 2
    else s)

/-! ## Clocks (R465) -/

/-- SYSCLK_LOSS (R465): SYSCLK is lost for 1 µs, or the CD_CORE or CD_TIME PLL unlocks. -/
def execSysclkLoss (ns : Nat) (s : State) : Res State :=
  let s := s.arrive ns
  if s.pwr.held then done s else done ({ s with pwr := { s.pwr with clockBad := true } }.report 0x59 0xFFFF 0 0 0)

/-- ETH_REFCLK_LOSS (R465): both ports' links go down. -/
def execEthRefclkLoss (ns : Nat) (s : State) : Res State :=
  let s := s.arrive ns
  let s := (s.linkChange 0 false).linkChange 1 false
  match s.tim.ptp.parent with
  | some f => done (if s.ptpCfg F.TIM_PTP_CFG_EN = 0 then s else s.parentLost f)
  | none => done s

/-- XO32_LOSS (R465): OPTIME is counted from SYSCLK. -/
def execXo32Loss (ns : Nat) (s : State) : Res State :=
  let s := s.arrive ns
  done (if s.pwr.held then s else s.setFld R.PWR_STAT F.PWR_STAT_NOXO 1)

end Sys2Proof.Machine
end

