-- ==== Sys2Proof/Machine/Loads.lean ====
section
/-! DEFINITION. BAR2 and BAR4 writes (R27, R28, R61, R204, R213, R270, R291, R384) and the commands that move data in and out: LOAD_PROGRAM,
LOAD_TILES, LOAD_TABLE, TRACE_READ (R161, R165, R216, R269, R283, R383, R385, R413, R438). -/

namespace Sys2Proof.Machine

/-! ## BAR2 writes -/

/-- What becomes of a host write to an SRAM byte. -/
inductive Bar2 where
  | none                             -- read only, no access, or a live half
  | gated                            -- writable only in IDLE and SERVICE: program windows
  | tiles                            -- likewise: the tile table
  | grid (h : Nat)                   -- shadow correction grid of head h
  | control                          -- shadow half of set 3
  | curves                           -- shadow half of set 2
  | column                           -- column frame memory that takes the write
  | columnBad (a : Nat)              -- refused under R204 for area a
  | plain                            -- general host region
  deriving DecidableEq, Repr

/-- The areas that hold offset `o` of copy `k` of the column frame memory and refuse a write to it (R204): the copy is active, or is the old
copy under the lock of R206. -/
def State.columnRefused (s : State) (k o : Nat) : Option Nat :=
  (List.range 8).find? fun a =>
    let base := s.fld (R.BLD_CA_CFG a) F.BLD_CA_CFG_BASE * 4096
    decide (base ≤ o) && decide (o < base + s.fld (R.BLD_CA_CFG a) F.BLD_CA_CFG_SIZE * 4096) &&
      (k = s.caActive a || s.caLocked a)

/-- How Table 1-5 and the chapters' rules judge a write to SRAM byte `a`. -/
def State.bar2Class (s : State) (a : Nat) : Bar2 :=
  if a < 0x2000000 then .gated
  else if a < 0x2400000 then .tiles
  else if a < 0x2580000 then .none
  else if a < 0x2700000 then .grid ((a - 0x2580000) / 0x10000)
  else if a < 0x2800000 then (if a / 0x80000 * 0x80000 = s.ctlShadow then .control else .none)
  else if a < 0x2C00000 then .none
  else if a < 0x3000000 then
    match s.columnRefused ((a - 0x2C00000) / 0x200000) ((a - 0x2C00000) % 0x200000) with
    | some x => .columnBad x
    | none => .column
  else if a < 0x3200000 then (if a / 0x100000 * 0x100000 = s.curveShadow then .curves else .none)
  else if a < 0x3A80000 then .none
  else if a < 0x4000000 then .plain
  else .none

/-- A write request cut into runs of bytes that the rules judge alike: each run with its address. -/
def bar2Runs (cls : Nat → Bar2) : Nat → List Byte → List (Bar2 × Nat × List Byte)
  | _, [] => []
  | a, b :: t =>
    match bar2Runs cls (a + 1) t with
    | (c, x, bs) :: r => if c = cls a then (c, a, b :: bs) :: r else (cls a, a, [b]) :: (c, x, bs) :: r
    | [] => [(cls a, a, [b])]

/-- The tiles that `n` bytes at `a` of the live table touch count as written (R162). -/
def State.markTiles (s : State) (layer first n : Nat) : State :=
  { s with tsc := { s.tsc with written := (List.range n).foldl (fun m i => sput (fun _ => false) (layer * 65536 + first + i) true m) s.tsc.written } }

/-- A write to the shadow half of set 2: held from the snapshot to the end of the copy; `wait` tells that a full hold makes the writer wait,
as LOAD_TABLE does (R213). -/
def State.curvePut (s : State) (wait : Bool) (o : Nat) (bs : List Byte) : State :=
  if !s.bld.holding then s.sramPut (s.curveShadow + o) bs
  else if !wait && decide (1024 ≤ s.bld.held.length) then s.lockviol
  else { s with bld := { s.bld with held := s.bld.held ++ [(o, bs)] } }

/-- A write to the shadow half of set 3 (R270). -/
def State.controlPut (s : State) (wait : Bool) (o : Nat) (bs : List Byte) : State :=
  if !s.cen.holding then s.sramPut (s.ctlShadow + o) bs
  else if !wait && decide (1024 ≤ s.cen.held.length) then s.lockviol
  else { s with cen := { s.cen with held := s.cen.held ++ [(o, bs)] } }

/-- A write to the shadow grid of head `h`: held during its copy (R384). -/
def State.gridPut (s : State) (h a : Nat) (bs : List Byte) : State :=
  if s.cal.copying.contains h then
    let w : Bool × Nat × List Byte := (false, a, bs)
    { s with cal := { s.cal with held := s.cal.held ++ [w] } }
  else s.sramPut a bs

/-- One run of a write request acts (R28). -/
def State.bar2Run (s : State) (r : Bar2 × Nat × List Byte) : State :=
  let a := r.2.1
  let bs := r.2.2
  match r.1 with
  | .none => s
  | .gated => if s.unlocked then s.sramPut a bs else s
  | .tiles =>
    if s.unlocked then (s.sramPut a bs).markTiles 0 ((a - 0x2000000) / 64) ((a + bs.length - 1) / 64 - a / 64 + 1) else s
  | .grid h => s.gridPut h a bs
  | .control => s.controlPut false (a - s.ctlShadow) bs
  | .curves => s.curvePut false (a - s.curveShadow) bs
  | .column => s.sramPut a bs
  | .columnBad x => s.inc (R.BLD_CA_WRVIOL x) 1
  | .plain => s.sramPut a bs

/-- A BAR2 write request (R27, R28): GLB_LOCKVIOL counts one request, however many of its bytes the mode refuses. -/
def State.bar2Write (s : State) (a : Nat) (bs : List Byte) : State :=
  let rs := bar2Runs s.bar2Class a bs
  let refused := !s.unlocked && rs.any fun r => r.1 = .gated || r.1 = .tiles
  let s := if refused then s.lockviol else s
  rs.foldl (fun s r => s.bar2Run r) s

/-- BAR2_WRITE (R28): `bs` written at BAR2 offset `a`. -/
def execBar2Write (a : Nat) (bs : List Byte) (ns : Nat) (s : State) : Res State :=
  done (if 0x4000000 < a + bs.length then s else (s.arrive ns).bar2Write a bs)

/-! ## BAR4 writes -/

/-- The frame buffer of port `p` that holds DRAM address `a`, if any (R288). -/
def State.bufferAt (s : State) (p a : Nat) : Option Nat :=
  let size := s.lfld (R.MAP_FRAME p) F.MAP_FRAME_FSIZE * 2 ^ 20
  let b := (a - (s.dramRegion p).1) / size
  if size = 0 ∨ 64 ≤ b then none else some b

/-- A byte that the host writes through BAR4 (R61, R291): the port whose buffer refuses it, or whether it is written. -/
def State.bar4Byte (s : State) (a : Nat) : Option Nat × Bool :=
  if s.fld R.GLB_DRAM_CAP F.GLB_DRAM_CAP_CAP * 2 ^ 20 ≤ a then (none, false)
  else match s.dramRegionOf a with
    | some 3 => (none, true)
    | some 5 => (none, true)
    | some 0 => match s.bufferAt 0 a with
      | some b => if s.bufState 0 b ≠ 0 then (some 0, false) else (none, true)
      | none => (none, true)
    | some 1 => match s.bufferAt 1 a with
      | some b => if s.bufState 1 b ≠ 0 then (some 1, false) else (none, true)
      | none => (none, true)
    | _ => (none, false)

/-- BAR4_WRITE (R61, R291): `bs` written at BAR4 offset `x`. A write refused for a buffer counts once for each port. -/
def execBar4Write (x : Nat) (bs : List Byte) (ns : Nat) (s : State) : Res State :=
  if 0x10000000 < x + bs.length then done s
  else
    let s := s.arrive ns
    let a := s.fld R.HQ_APER F.HQ_APER_BASE * 2 ^ 28 + x
    let hit (p : Nat) : Bool := (List.range bs.length).any fun i => (s.bar4Byte (a + i)).1 = some p
    let t := (List.range bs.length).foldl (fun t i =>
      if (s.bar4Byte (a + i)).2 then t.dramPut (a + i) [bs.getD i 0] else t) s
    let t := if hit 0 then t.inc (R.MAP_WRVIOL 0) 1 else t
    done (if hit 1 then t.inc (R.MAP_WRVIOL 1) 1 else t)

/-! ## LOAD_PROGRAM and LOAD_TILES (R413, R161, R165) -/

/-- The expansion of the stream of command `c` begins. -/
def State.expand (s : State) (c : Cmd) : State :=
  let j : SbcJob := ⟨c.seq, 0, 0, 0, false⟩
  let s := s.putCmd { c with wait := .expand }
  { s with hq := { s.hq with sbc := s.hq.sbc ++ [j] } }

/-- LOAD_PROGRAM: command `n`. -/
def execLoadProgram (n : Nat) (s : State) : Res State :=
  done (s.runCmd 0x08 n fun c s =>
    if c.len = 0 then s.endCmd c St.empty 0 0
    else if s.nslots < c.arg 1 ∨ !s.dataFits c c.addr c.len then s.endCmd c St.badParam 0 0
    else s.expand c)

/-- LOAD_TILES: command `n`. -/
def execLoadTiles (n : Nat) (s : State) : Res State :=
  done (s.runCmd 0x09 n fun c s =>
    if c.arg 1 = 0 then s.endCmd c St.empty 0 0
    else if c.len = 0 ∨ s.nslots < c.arg 2 ∨ 65536 < c.arg 0 + c.arg 1 ∨ !s.dataFits c c.addr c.len then s.endCmd c St.badParam 0 0
    else s.expand c)

/-- A job's record is replaced. -/
def State.putJob (s : State) (j : SbcJob) : State :=
  { s with hq := { s.hq with sbc := s.hq.sbc.map fun x => if x.seq = j.seq then j else x } }

/-- A LOAD command whose stream was being expanded ends. -/
def State.endJob (s : State) (c : Cmd) (status result detail : Nat) : State :=
  ({ s with hq := { s.hq with sbc := s.hq.sbc.filter fun x => x.seq ≠ c.seq } }).endCmd c status result detail

/-- A program page of layer `l` is written, the bytes beyond the block as 0. -/
def State.pagePut (s : State) (l page : Nat) (bs : List Byte) : State :=
  let full := bs ++ List.replicate (4096 - bs.length) 0
  if l = 0 then s.sramPut (4096 * page) full
  else
    let s := s.dramPut (s.slotBase l + 4096 * page) full
    { s with tsc := { s.tsc with pages := sput (fun _ => false) (l * 8192 + page) true s.tsc.pages } }

/-- The load-time cause of Table 6-2 that a descriptor fails with; 0 none. -/
def TileD.loadCause (t : TileD) : Nat :=
  if t.reserved then 1
  else if t.b.x1 < t.b.x0 ∨ t.b.y1 < t.b.y0 then 2
  else if t.elig = 0 then 3
  else if t.twin && (t.cal || t.dt || t.de) then 4
  else 0

/-- A tile descriptor of layer `l` is written. -/
def State.tilePut (s : State) (l i : Nat) (bs : List Byte) : State :=
  (if l = 0 then s.sramPut (tileAddr i) bs else s.dramPut (s.slotBase l + 32 * 2 ^ 20 + 64 * i) bs).markTiles l i 1

/-- The descriptors of a block are checked and written in order; the first that fails stops the load (R161): the cause and the index. -/
def State.tilesPut (l : Nat) : Nat → Nat → List Byte → State → State × Option (Nat × Nat)
  | 0, _, _, s => (s, none)
  | k + 1, i, bs, s =>
    let d := bs.take 64
    let cause := (tileOf (leNat d)).loadCause
    if cause ≠ 0 then (s, some (cause, i)) else State.tilesPut l k (i + 1) (bs.drop 64) (s.tilePut l i d)

/-- A verified block of LOAD_PROGRAM: the state, and whether the load goes on. -/
def State.programBlock (s : State) (c : Cmd) (j : SbcJob) (bs : List Byte) : Option State :=
  let page := c.arg 0 + j.bytes / 4096
  if 8192 ≤ page then none else some (s.pagePut (c.arg 1) page bs)

/-- SBC_BLOCK_EXPANDED (R411, R413, R161): the next block of the stream of command `n`. -/
def execSbcBlockExpanded (n ns : Nat) (s : State) : Res State :=
  let s := s.arrive ns
  match s.cmd n, s.hq.sbc.find? fun j => j.seq = n with
  | some c, some j =>
    match (if j.bad then SbcStep.corrupt else sbcStep (s.dataIn c (c.addr + j.pos) (c.len - j.pos))) with
    | .corrupt => done ((s.inc R.SBC_CORRUPT 1).endJob c St.dataCorrupt 0 j.pos)
    | .short => done (s.endJob c St.dataCorrupt 0 j.pos)
    | .block bs next last =>
      let s := s.inc R.SBC_BLKIN 1
      let ends : Bool := decide (c.len ≤ j.pos + next)
      let bytes := j.bytes + bs.length
      if (!last && bs.length ≠ 4096) ∨ last ≠ ends ∨ (!last && decide (c.len < j.pos + next)) then done (s.endJob c St.dataCorrupt 0 j.pos)
      else if c.op = 0x08 then
        match s.programBlock c j bs with
        | none => done (s.endJob c St.badParam 0 0)
        | some s =>
          done (if last then s.endJob c St.done bytes 0 else s.putJob { j with pos := j.pos + next, bytes := bytes })
      else if 64 * c.arg 1 < bytes ∨ (last && bytes ≠ 64 * c.arg 1) then done (s.endJob c St.badParam 0 0)
      else
        let k := bs.length / 64
        match State.tilesPut (c.arg 2) k (c.arg 0 + j.count) bs s with
        | (s, some f) => done (s.endJob c St.tableInvalid 0 (f.1 * 65536 + f.2))
        | (s, none) =>
          done (if last then s.endJob c St.done (j.count + k) 0
            else s.putJob { j with pos := j.pos + next, bytes := bytes, count := j.count + k })
  | _, _ => done s

/-! ## LOAD_TABLE (R216, R269, R383, R385, R438) -/

/-- The fiducials of an image: signed X and Y in nm. -/
def fidsOf : Nat → List Byte → List (Int × Int)
  | 0, _ => []
  | k + 1, bs => (sgn 32 (leNat (bs.take 4)), sgn 32 (leNat ((bs.drop 4).take 4))) :: fidsOf k (bs.drop 8)

/-- An image of `bs` for table kind `kind`, instance `i`: the status, the failure detail and the state. -/
def State.loadTable (s : State) (path kind i : Nat) (bs : List Byte) : Nat × Nat × State :=
  let n := bs.length
  let bad : Nat × Nat × State := (St.badParam, 0, s)
  if kind = 0x20 then
    if n % 4 ≠ 0 ∨ 1028 < n ∨ 384 ≤ i then bad
    else (St.done, 0, s.curvePut true (0x8000 * (i / 16) + 0x800 * (i % 16)) bs)
  else if kind = 0x21 then
    if n % 4 ≠ 0 ∨ 24 < i + n / 4 then bad else (St.done, 0, s.curvePut true (0xC0000 + 4 * i) bs)
  else if kind = 0x22 then
    if n % 64 ≠ 0 ∨ 16 < i + n / 64 ∨ (List.range (n / 64)).any (fun t => leNat ((bs.drop (64 * t)).take 4) ≠ 0) then bad
    else (St.done, 0, s.curvePut true (0xC1000 + 64 * i) bs)
  else if kind = 0x23 then
    if 8 ≤ i ∨ s.fld (R.BLD_CA_CFG i) F.BLD_CA_CFG_SIZE * 4096 < n then bad
    else if s.caLocked i then (St.notReady, 0, s)
    else (St.done, 0, s.bar2Write (0x2C00000 + (1 - s.caActive i) * 0x200000 + s.fld (R.BLD_CA_CFG i) F.BLD_CA_CFG_BASE * 4096) bs)
  else if kind = 0x30 then
    let word (k : Nat) : Nat := leNat ((bs.drop (8 * k)).take 8)
    if 64 ≤ i ∨ 0x400 < n then bad
    else if !ctlProgOk word (n / 8) then (St.tableInvalid, (Config.freeWord s.free).toNat, s.draw)
    else (St.done, 0, s.controlPut true (0x400 * i) bs)
  else if kind = 0x31 then
    if n % 256 ≠ 0 ∨ 0x10000 < 0x100 * i + n then bad else (St.done, 0, s.controlPut true (0x10000 + 0x100 * i) bs)
  else if kind = 0x32 then
    if n % 16 ≠ 0 ∨ 0xD00 < 16 * i + n then bad else (St.done, 0, s.controlPut true (0x20000 + 16 * i) bs)
  else if kind = 0x40 then
    if 24 ≤ i ∨ 65536 < n then bad else (St.done, 0, s.gridPut i (geoShadow i) bs)
  else if kind = 0x41 then
    if n % 8 ≠ 0 ∨ 512 < n then bad else (St.done, 0, { s with cal := { s.cal with fids := Sys2Proof.Machine.fidsOf (n / 8) bs } })
  else if 0x50 ≤ kind ∧ kind ≤ 0x54 then
    let r := s.token path kind bs
    (r.1, 0, r.2)
  else bad

/-- LOAD_TABLE: command `n`. -/
def execLoadTable (n : Nat) (s : State) : Res State :=
  done (s.runCmd 0x0A n fun c s =>
    if c.len = 0 then s.endCmd c St.empty 0 0
    else if !s.dataFits c c.addr c.len then s.endCmd c St.badParam 0 0
    else
      let r := s.loadTable c.path (c.arg 0) (c.arg 1) (s.dataIn c c.addr c.len)
      r.2.2.endCmd c r.1 (if r.1 = St.done then c.len else 0) r.2.1)

/-! ## TRACE_READ (R283) -/

/-- TRACE_READ: command `n`. -/
def execTraceRead (n : Nat) (s : State) : Res State :=
  done (s.runCmd 0x21 n fun c s =>
    if c.arg 1 = 0 then s.endCmd c St.empty 0 0
    else if 0x400000 < c.arg 0 + c.arg 1 ∨ c.len ≠ c.arg 1 ∨ !s.dataFits c c.addr c.len then s.endCmd c St.badParam 0 0
    else (s.dataOut c c.addr (s.sramBytes (0x2800000 + c.arg 0) (c.arg 1))).endCmd c St.done (c.arg 1) 0)

end Sys2Proof.Machine
end

