-- ==== Sys2Proof/Machine/Queues.lean ====
section
/-! DEFINITION. Host queues (chapter 03): configuration and doorbells (R62, R63, R66), fetching and starting (R64, R72 to R75), the commands
that act on HQ itself (R68, R71), link resets and DMA errors (R58, R59), the Ethernet host path (R83 to R86), the host watchdog (R87). -/

namespace Sys2Proof.Machine

/-! ## Configuration (R62, R66) -/

/-- Host activity that the watchdog counts (R87). -/
def State.hostSeen (s : State) : State := { s with hq := { s.hq with hostAt := s.now, hostOut := false } }

/-- A queue's pointers are cleared (R66). -/
def State.clearQueue (s : State) (q : Nat) : State :=
  let s := ((s.wr (R.HQ_PTR q) (regReset (R.HQ_PTR q))).wr (R.HQ_SQ_TAIL q) 0).wr (R.HQ_CQ_HEAD q) 0
  (s.setFld (R.HQ_QSTAT q) F.HQ_QSTAT_ACTIVE 0).setQueue q Queue.reset

/-- A write of HQn_CFG: EN = 1 runs the check of R62; EN = 0 on an enabled queue disables it; any other write to an enabled queue is
ignored. -/
def State.hqCfgWrite (s : State) (q : Nat) (v : Word) : State :=
  let v := v &&& 0x00FFE0FF#32
  if s.fld (R.HQ_CFG q) F.HQ_CFG_EN = 1 then
    if fget v F.HQ_CFG_EN = 1 then s.setFld (R.HQ_QSTAT q) F.HQ_QSTAT_CFG_VIOL 1
    else (s.setFld (R.HQ_CFG q) F.HQ_CFG_EN 0).setFld (R.HQ_QSTAT q) F.HQ_QSTAT_EN 0
  else if fget v F.HQ_CFG_EN = 0 then s.wr (R.HQ_CFG q) v
  else if fget v F.HQ_CFG_SIZE = 0 ∨ 64 < fget v F.HQ_CFG_SIZE ∨ fget v F.HQ_CFG_PATH = 3 then
    (s.wr (R.HQ_CFG q) (fput v F.HQ_CFG_EN 0)).setFld (R.HQ_QSTAT q) F.HQ_QSTAT_COMMIT_REJECT 1
  else ((s.wr (R.HQ_CFG q) v).setFld (R.HQ_QSTAT q) F.HQ_QSTAT_EN 1).setFld (R.HQ_QSTAT q) F.HQ_QSTAT_ACTIVE 1

/-- A write of a ring base register `r` of queue `q`: ignored while the queue is enabled (R62). -/
def State.hqBaseWrite (s : State) (q r : Nat) (v : Word) : State :=
  if s.fld (R.HQ_CFG q) F.HQ_CFG_EN = 1 then s.setFld (R.HQ_QSTAT q) F.HQ_QSTAT_CFG_VIOL 1
  else s.wr r (if r % 8 = 0 then v &&& 0xFFFFFFC0#32 else v)

/-- QUEUE_ENABLE (R62): a write of HQn_CFG with EN = 1. -/
def execQueueEnable (q : Nat) (v : Word) (s : State) : Res State :=
  hostOp s fun s => if 16 ≤ q ∨ fget v F.HQ_CFG_EN = 0 then s else s.hqCfgWrite q v

/-- QUEUE_DISABLE (R66): a write of HQn_CFG with EN = 0. -/
def execQueueDisable (q : Nat) (v : Word) (s : State) : Res State :=
  hostOp s fun s => if 16 ≤ q ∨ fget v F.HQ_CFG_EN = 1 then s else s.hqCfgWrite q v

/-- QUEUE_DRAIN_COMPLETE (R66): every fetched command of a disabled queue has ended. -/
def execQueueDrainComplete (q : Nat) (s : State) : Res State :=
  done (if 16 ≤ q ∨ s.fld (R.HQ_CFG q) F.HQ_CFG_EN = 1 ∨ s.fld (R.HQ_QSTAT q) F.HQ_QSTAT_ACTIVE = 0 ∨
      s.hq.cmds.any (fun c => c.queue = q && !c.journalOnly) then s
    else s.clearQueue q)

/-! ## Doorbells (R63) -/

/-- A doorbell write of index `v` is refused with DB_ERR. -/
def State.doorbellBad (s : State) (q v : Nat) : Bool :=
  s.fld (R.HQ_CFG q) F.HQ_CFG_EN = 0 || s.fld (R.HQ_CFG q) F.HQ_CFG_PATH ≠ 0 || decide (s.fld (R.HQ_CFG q) F.HQ_CFG_SIZE ≤ v)

def State.sqTailWrite (s : State) (q : Nat) (v : Word) : State :=
  let s := s.hostSeen
  let i := fget v F.HQ_SQ_TAIL_INDEX
  if s.doorbellBad q i then s.setFld (R.HQ_QSTAT q) F.HQ_QSTAT_DB_ERR 1 else s.setFld (R.HQ_SQ_TAIL q) F.HQ_SQ_TAIL_INDEX i

/-- A write of HQn_CQ_HEAD releases the entries from the old index to the new one, as many as were written. -/
def State.cqHeadWrite (s : State) (q : Nat) (v : Word) : State :=
  let s := s.hostSeen
  let i := fget v F.HQ_CQ_HEAD_INDEX
  if s.doorbellBad q i then s.setFld (R.HQ_QSTAT q) F.HQ_QSTAT_DB_ERR 1
  else
    let size := s.fld (R.HQ_CFG q) F.HQ_CFG_SIZE
    let n := (i + size - s.fld (R.HQ_CQ_HEAD q) F.HQ_CQ_HEAD_INDEX % size) % size
    let Q := s.queue q
    (s.setFld (R.HQ_CQ_HEAD q) F.HQ_CQ_HEAD_INDEX i).setQueue q { Q with cqUsed := Q.cqUsed - n }

/-- SQ_TAIL_DOORBELL (R63). -/
def execSqTailDoorbell (q : Nat) (v : Word) (ns : Nat) (s : State) : Res State :=
  hostOp s fun s => if 16 ≤ q then s else (s.arrive ns).sqTailWrite q v

/-- CQ_HEAD_DOORBELL (R63). -/
def execCqHeadDoorbell (q : Nat) (v : Word) (ns : Nat) (s : State) : Res State :=
  hostOp s fun s => if 16 ≤ q then s else (s.arrive ns).cqHeadWrite q v

/-! ## Fetching (R64, R72, R73) -/

/-- A descriptor of queue `q` is pending, and a completion slot and an in-flight place are free for it. -/
def State.fetchable (s : State) (q : Nat) : Bool :=
  s.fld (R.HQ_CFG q) F.HQ_CFG_EN = 1 &&
    (if s.fld (R.HQ_CFG q) F.HQ_CFG_PATH = 0 then
      s.fld (R.HQ_SQ_TAIL q) F.HQ_SQ_TAIL_INDEX ≠ s.fld (R.HQ_PTR q) F.HQ_PTR_SQ_HEAD
    else !(s.queue q).posted.isEmpty) && s.slotFree q && s.placeFree q

def State.prio (s : State) (q : Nat) : Nat := s.fld (R.HQ_CFG q) F.HQ_CFG_PRIO

/-- The first of the sixteen queues after `q`, in order, that meets `p`. -/
def nextQueue (p : Nat → Bool) (q : Nat) : Option Nat := ((List.range 16).map fun i => (q + 1 + i) % 16).find? p

/-- The queue whose turn it is, with HQ's arbitration state after it (R73). -/
def State.pickQueue (s : State) : Option (Nat × Hq) :=
  let h := s.hq
  match nextQueue (fun q => s.prio q = 3 && s.fetchable q) h.rrHigh with
  | some q => some (q, { h with rrHigh := q })
  | none =>
    let low (q : Nat) : Bool := s.prio q ≠ 3 && s.fetchable q
    if h.rrLeft ≠ 0 && low h.rrLow then some (h.rrLow, { h with rrLeft := h.rrLeft - 1 })
    else match nextQueue low h.rrLow with
      | some q => some (q, { h with rrLow := q, rrLeft := 2 ^ s.prio q - 1 })
      | none => none

/-- The little-endian 32-bit words of a list of bytes. -/
def wordsOf (bs : List Byte) : List Word :=
  (List.range (bs.length / 4)).map fun i => BitVec.ofNat 32 (leNat ((bs.drop (4 * i)).take 4))

/-- The next descriptor of queue `q`, taken from its ring or from the datagrams received. -/
def State.takeDescriptor (s : State) (q : Nat) : List Word × State :=
  if s.fld (R.HQ_CFG q) F.HQ_CFG_PATH = 0 then
    let base := (s.rd (R.HQ_SQ_BASE_LO q)).toNat + (s.rd (R.HQ_SQ_BASE_HI q)).toNat * 2 ^ 32
    (wordsOf (s.hostBytes (base + 64 * s.fld (R.HQ_PTR q) F.HQ_PTR_SQ_HEAD) 64), s)
  else
    let Q := s.queue q
    (Q.posted.headD [], s.setQueue q { Q with posted := Q.posted.drop 1 })

/-- DESCRIPTOR_FETCH (R64, R67, R72, R73): the next descriptor is fetched, checked, numbered and journaled. None after PFAIL_N (R82), and none
while a handover of the core pair is due (R422). -/
def execDescriptorFetch (ns : Nat) (s : State) : Res State :=
  let s := s.arrive ns
  if s.pwr.pfailAt.isSome ∨ s.handoverDue ≠ [] then done s
  else match s.pickQueue with
    | none => done s
    | some (q, h) =>
      if s.journalBusy then done (s.inc R.HQ_JRN_STALL 1)
      else
        let d := ({ s with hq := h }).takeDescriptor q
        done (d.2.accept q d.1)

/-! ## Starting (R74, R75) -/

/-- The instant, in units of 2⁻¹⁶ ns, that AT of a timed command names: extended at its acceptance (R75). -/
def Cmd.startAt (c : Cmd) : Int := extendTs c.at64 (tsFine c.tAccept / 65536)

/-- COMMAND_START (R74): command `n` starts; a TIMED command other than COMMIT has a row of its own. -/
def execCommandStart (n ns : Nat) (s : State) : Res State :=
  let s := s.arrive ns
  match s.cmd n with
  | none => done s
  | some c =>
    if !s.mayStart c ∨ s.handoverDue ≠ [] ∨ (c.timed ∧ c.op ≠ 0x02) then done s else done (s.start c false)

/-- TIMED_COMMAND_START (R75): command `n` starts at or after AT; it is late where it starts 1 ns or more after AT. -/
def execTimedCommandStart (n ns : Nat) (s : State) : Res State :=
  let s := s.arrive ns
  match s.cmd n with
  | none => done s
  | some c =>
    let now : Int := (s.now : Int) * 65536
    if !s.mayStart c ∨ s.handoverDue ≠ [] ∨ !c.timed ∨ c.op = 0x02 ∨ now < c.startAt then done s
    else done (s.start c (decide (c.startAt + 65536 ≤ now)))

/-! ## Commands that act on HQ or GLB (R68) -/

/-- NOP: command `n`, or the instruction at the PC of unit `unit` where that is a sequencer or an engine. -/
def execNop (unit n : Nat) (s : State) : Res State :=
  done (if (bsqUnit unit).isSome ∨ (ceUnit unit).isSome then s.tanoran 0x00 unit
    else s.runCmd 0x00 n fun c s => s.endCmd c St.done 0 0)

/-- MODE (R46, R49, R362): command `n`. PAUSE ends when the pause completes; a timed START takes T = AT. -/
def execMode (n : Nat) (s : State) : Res State :=
  done (s.runCmd 0x01 n fun c s =>
    let op := c.arg 0 % 16
    if op = 0 then s.endCmd c St.empty 0 0
    else
      let r := s.modeOp op
      let s := r.2
      if r.1 = St.done ∧ op = 4 ∧ s.fld R.GLB_MODE F.GLB_MODE_PENDING = 1 then s.putCmd { c with wait := .pause }
      else
        let s := if r.1 = St.done ∧ op = 3 ∧ c.timed ∧ !c.late then
            { s with tsc := { s.tsc with startAt := some ((c.startAt + 65535) / 65536).toNat } } else s
        s.endCmd c r.1 s.mode.code 0)

/-- JOURNAL_MARK: command `n`. -/
def execJournalMark (n : Nat) (s : State) : Res State :=
  done (s.runCmd 0x22 n fun c s => s.endCmd c St.done (c.arg 0) 0)

/-- CANCEL (R71): command `n`. -/
def execCancel (n : Nat) (s : State) : Res State :=
  done (s.runCmd 0x38 n fun c s =>
    match s.hq.cmds.find? fun d => d.queue = c.arg 0 && d.tag = c.arg 1 && !d.started with
    | some d => (s.endCmd d St.aborted 0 0).endCmd c St.done 1 0
    | none => s.endCmd c St.done 0 0)

/-! ## Link reset and DMA (R58, R59, R458) -/

/-- A started command that still needs host memory. -/
def Cmd.needsHost (c : Cmd) : Bool := c.started && c.path = 0 && ((c.wait = .run && dataOp c.op) || c.wait = .expand)

/-- A command that needs host memory fails with DMA_ERROR at offset `off` of its data. -/
def State.dmaError (s : State) (c : Cmd) (off : Nat) : State := s.endJob c St.dmaError 0 off

/-- The offset at which a command next needs host memory. -/
def State.hostOffset (s : State) (c : Cmd) : Nat := ((s.hq.sbc.find? fun j => j.seq = c.seq).map SbcJob.pos).getD 0

/-- PCIE_LINK_RESET (R58, R458): a PCIe link-down, hot reset, Function Level Reset or PERST_N. -/
def execPcieLinkReset (ns : Nat) (s : State) : Res State :=
  let s := s.arrive ns
  let s := s.setFld R.HQ_STAT F.HQ_STAT_EPOCH (s.fld R.HQ_STAT F.HQ_STAT_EPOCH + 1)
  let s := s.setFld R.HQ_JRN_CTRL F.HQ_JRN_CTRL_MIR_EN 0
  let cs := s.hq.cmds.map fun (c : Cmd) => { c with journalOnly := true }
  let s := s.setCmds cs
  let s := cs.foldl (fun s c =>
    if !c.started then s.endCmd c St.targetReset 0 0
    else if c.needsHost then s.dmaError c (s.hostOffset c)
    else s) s
  done ((List.range 16).foldl (fun s q =>
    ((s.setFld (R.HQ_CFG q) F.HQ_CFG_EN 0).setFld (R.HQ_QSTAT q) F.HQ_QSTAT_EN 0).clearQueue q) s)

/-- HOST_DMA_COMPLETION (R59): a host memory access ends. With `bad` it ends in Unsupported Request, Completer Abort, poisoned data or a timeout
at offset `off` of the data of command `n`; otherwise it returned the bytes `bs` from host address `a`. -/
def execHostDmaCompletion (n : Nat) (bad : Bool) (off a : Nat) (bs : List Byte) (ns : Nat) (s : State) : Res State :=
  let s := s.arrive ns
  if !bad then done (s.hostPut a bs)
  else match s.cmd n with
    | none => done s
    | some c => done (if c.needsHost ∧ off < c.len then s.dmaError c off else s)

/-! ## The Ethernet host path (R83 to R86) -/

/-- A datagram is accepted by R83: AUTH, VER and the queue's binding are right. `none` discards it. -/
def State.datagramOk (s : State) (p : Nat) (bs : List Byte) : Bool :=
  let n := bs.length
  let q := hdr bs 2 1 % 16
  decide (32 ≤ n) && hdr bs 0 1 = 1 && s.fld (R.HQ_CFG q) F.HQ_CFG_EN = 1 && s.fld (R.HQ_CFG q) F.HQ_CFG_PATH = p + 1 &&
    match s.lcs.session with
    | some key => bs.drop (n - 16) = (Config.hmacSha256 key (bs.take (n - 16))).take 16
    | none => false

/-- A management datagram of type `type` arrives on port `p` and acts by `k` on its queue and bytes (R83). -/
def State.datagram (s : State) (p type ns : Nat) (bs : List Byte) (k : Nat → State → State) : State :=
  if !s.portUp p ∨ s.mode = .boot ∨ hdr bs 1 1 ≠ type then s
  else
    let s := (s.arrive ns).rxOk p
    if s.datagramOk p bs then k (hdr bs 2 1 % 16) s else s.inc R.HQ_ETH_AUTHDROP 1

/-- a − b modulo 2^32. -/
def seqDiff (a b : Nat) : Nat := (BitVec.ofNat 32 a - BitVec.ofNat 32 b).toNat

/-- The host acknowledges the COMPLETE datagrams up to `ack` (R86): their slots are free. -/
def State.ackTo (s : State) (q ack : Nat) : State :=
  let Q := s.queue q
  let left := seqDiff Q.txSeq ack
  if left ≤ Q.cqUsed then
    s.setQueue q { Q with cqUsed := left, unacked := Q.unacked.filter fun u => decide (Q.txSeq < u.dseq + left) }
  else s

/-- The device acknowledges what it has received (R84). -/
def State.sendAck (s : State) (p q : Nat) : State := s.ethSend p (.datagram p 2 q 0 (s.queue q).rxSeq 0 [])

/-- SUBMIT_DATAGRAM (R84). -/
def execSubmitDatagram (p : Nat) (bs : List Byte) (ns : Nat) (s : State) : Res State :=
  done (s.datagram p 1 ns bs fun q s =>
    let s := s.ackTo q (hdr bs 8 4)
    let Q := s.queue q
    let d := hdr bs 4 4
    let k := hdr bs 3 1
    let body := (bs.drop 16).take (bs.length - 32)
    let ahead := seqDiff d Q.rxSeq
    if ahead = 1 then
      if 16 < k ∨ body.length ≠ 64 * k then s
      else
        let ds := (List.range k).map fun i => wordsOf ((body.drop (64 * i)).take 64)
        (s.setQueue q { Q with rxSeq := d, posted := Q.posted ++ ds }).hostSeen.sendAck p q
    else if ahead = 0 ∨ bit ahead 31 then s.sendAck p q
    else s.inc R.HQ_ETH_SEQDROP 1)

/-- ACK_DATAGRAM (R86). -/
def execAckDatagram (p : Nat) (bs : List Byte) (ns : Nat) (s : State) : Res State :=
  done (s.datagram p 2 ns bs fun q s => s.ackTo q (hdr bs 8 4))

/-- MEMWRITE_DATAGRAM (R85): at most 1024 bytes, within DRAM region 5. -/
def execMemwriteDatagram (p : Nat) (bs : List Byte) (ns : Nat) (s : State) : Res State :=
  done (s.datagram p 4 ns bs fun q s =>
    let s := s.ackTo q (hdr bs 8 4)
    let body := (bs.drop 16).take (bs.length - 32)
    let a := hdr bs 12 4
    let r := s.dramRegion 5
    if 1024 < body.length ∨ r.2 < a + body.length then s else s.dramPut (r.1 + a) body)

/-- The byte that MEMREAD reads at `a`: of DRAM region 5, or of the journal from 0xF000_0000 (Table 3-10). -/
def State.memByte (s : State) (a : Nat) : Byte :=
  let r := s.dramRegion 5
  if a < r.2 then sget zeroByte (r.1 + a) s.mem.dram
  else if 0xF0000000 ≤ a ∧ a < 0xF0040000 then sget zeroByte (0x3400000 + a - 0xF0000000) s.mem.sram
  else 0

/-- MEMREAD_DATAGRAM (R85): `n` bytes are asked for; the device answers with MEMDATA. -/
def execMemreadDatagram (p : Nat) (bs : List Byte) (n ns : Nat) (s : State) : Res State :=
  done (s.datagram p 5 ns bs fun q s =>
    let s := s.ackTo q (hdr bs 8 4)
    let a := hdr bs 12 4
    s.ethSend p (.datagram p 6 q 0 (s.queue q).rxSeq a ((List.range (min n 1024)).map fun i => s.memByte (a + i))))

/-- COMPLETE_RETRANSMIT (R86): the repeat interval of queue `q` has passed for the COMPLETE datagrams not acknowledged. -/
def execCompleteRetransmit (q ns : Nat) (s : State) : Res State :=
  let s := s.arrive ns
  let path := s.fld (R.HQ_CFG q) F.HQ_CFG_PATH
  if 16 ≤ q ∨ path = 0 ∨ path = 3 then done s
  else
    let rto := (s.fld R.HQ_ETH_CFG F.HQ_ETH_CFG_RTO + 1) * 100000
    let retry := s.fld R.HQ_ETH_CFG F.HQ_ETH_CFG_RETRY
    let due (u : EthComplete) : Bool := decide (u.sentAt + rto ≤ s.now)
    let again := (s.queue q).unacked.filter fun u => due u && decide (u.repeats < retry)
    let lost := (s.queue q).unacked.any fun u => due u && decide (retry ≤ u.repeats)
    let s := again.foldl (fun s u => s.ethSend (path - 1) (.datagram (path - 1) 3 q u.dseq (s.queue q).rxSeq 0 u.entry)) s
    let Q := s.queue q
    let keep := (Q.unacked.filter fun u => !(due u && decide (retry ≤ u.repeats))).map fun u =>
      if due u then { u with repeats := u.repeats + 1, sentAt := s.now } else u
    let s := s.setQueue q { Q with unacked := keep }
    done (if lost then s.setFld (R.HQ_QSTAT q) F.HQ_QSTAT_LOST 1 else s)

/-! ## The host watchdog (R87) -/

/-- HOST_WATCHDOG_KICK (R87): a write to HQ_HOSTWD_KICK. -/
def execHostWatchdogKick (ns : Nat) (s : State) : Res State := hostOp s fun s => (s.arrive ns).hostSeen

/-- HOST_WATCHDOG_EXPIRY (R87): no host activity for TMO ms. -/
def execHostWatchdogExpiry (ns : Nat) (s : State) : Res State :=
  let s := s.arrive ns
  let tmo := s.fld R.HQ_HOSTWD F.HQ_HOSTWD_TMO
  if s.mode = .boot ∨ tmo = 0 ∨ s.hq.hostOut ∨ s.now < s.hq.hostAt + tmo * 1000000 then done s
  else
    let act := s.fld R.HQ_HOSTWD F.HQ_HOSTWD_ACTION
    let s := ({ s with hq := { s.hq with hostOut := true } }).setFld R.HQ_STAT F.HQ_STAT_HOSTWD 1
    let s := s.cairn 2 2 false (leBytes act 1)
    done (if act = 0 then s else if act = 1 then s.selfPause else s.opEnterSafe.2)

end Sys2Proof.Machine
end

