-- ==== Sys2Proof/Machine/Registers.lean ====
section
/-! DEFINITION. BAR0 as the host reads and writes it (R2, R3, R5 to R10, R457, R481): every register by its access codes, and the effects that
the chapters give a write or a read of one register; interrupt enables (R32) and MSI-X masks (R57); WRITE_REGS and READ_REGS (R70); the
tick boundary (R17). -/

namespace Sys2Proof.Machine

/-! ## Fields by their access codes (Table 0-3) -/

/-- The word that a register takes from a write of `v`; `open_` tells that RWL fields are writable. -/
def fieldsWrite (open_ : Bool) (fs : List FieldRow) (v w : Word) : Word :=
  fs.foldl (fun w r => match r.acc with
    | .rw => fput w r.fld (fget v r.fld)
    | .rwl => if open_ then fput w r.fld (fget v r.fld) else w
    | .w1c => w &&& ~~~(v &&& fmask r.fld)
    | _ => w) w

/-- The register has a field of access code `a`. -/
def RegRow.has (r : RegRow) (a : Acc) : Bool := r.fields.any fun f => f.acc = a

/-- A write that acts by the access codes alone (R5, R481). -/
def State.plainWrite (s : State) (r : RegRow) (off : Nat) (v : Word) : State :=
  let s := if r.has .rwl && !s.unlocked then s.lockviol else s
  s.wr off (fieldsWrite s.unlocked r.fields v (s.rd off))

/-! ## Registers whose write does more, block by block -/

/-- A write of GLB_IRQ_EN: a source newly enabled while its bit reads 1 sends its vector (R32). -/
def State.irqEnWrite (s : State) (v : Word) : State :=
  let old := s.fld R.GLB_IRQ_EN F.GLB_IRQ_EN_EN
  let new := fget v F.GLB_IRQ_EN_EN
  (s.setFld R.GLB_IRQ_EN F.GLB_IRQ_EN_EN new).irqSend ((new - (new &&& old)) &&& (s.rd R.GLB_IRQ_SRC).toNat)

/-- A write of GLB_SVC_CTRL: EMIT_PERMIT stays 0 in RAW and RETURNED (R435). -/
def State.svcCtrlWrite (s : State) (v : Word) : State :=
  if !s.unlocked then s.lockviol
  else
    let v := if s.lc = 0 ∨ s.lc = 4 then 0 else fget v F.GLB_SVC_CTRL_EMIT_PERMIT
    let moved := s.mode = .service && v ≠ s.fld R.GLB_SVC_CTRL F.GLB_SVC_CTRL_EMIT_PERMIT
    let s := s.setFld R.GLB_SVC_CTRL F.GLB_SVC_CTRL_EMIT_PERMIT v
    if moved then { s with bld := { s.bld with diagSince := s.tick } } else s

def State.glbWrite (s : State) (r : RegRow) (off : Nat) (v : Word) : State :=
  if off = R.GLB_MODE_REQ then s.modeReq (fget v F.GLB_MODE_REQ_OP)
  else if off = R.GLB_DEGR_CAUSE then (if s.mode = .idle then (s.plainWrite r off v).degrSync else s.lockviol)
  else if off = R.GLB_SVC_CTRL then s.svcCtrlWrite v
  else if off = R.GLB_IRQ_EN then s.irqEnWrite v
  else if off = R.GLB_ILK_CFG then
    let s := s.plainWrite r off v
    if 25 < s.fld off F.GLB_ILK_CFG_FILT then s.setFld off F.GLB_ILK_CFG_FILT 25 else s
  else if off = R.GLB_DRAM_COMMIT then s.dramCommitWrite v
  else s.plainWrite r off v

def State.hqWrite (s : State) (r : RegRow) (i off : Nat) (v : Word) : State :=
  if r.base = R.HQ_CFG 0 then s.hqCfgWrite i v
  else if 0x101000 ≤ off ∧ off % 0x40 < 0x10 then s.hqBaseWrite i off v
  else if r.base = R.HQ_SQ_TAIL 0 then s.sqTailWrite i v
  else if r.base = R.HQ_CQ_HEAD 0 then s.cqHeadWrite i v
  else if off = R.HQ_HOSTWD_KICK then s.hostSeen
  else if off = R.HQ_HOSTWD then (s.plainWrite r off v).hostSeen
  else s.plainWrite r off v

def State.bsqWrite (s : State) (r : RegRow) (i off : Nat) (v : Word) : State :=
  if r.base = R.BSQ_FAULT 0 then s.faultClear i v else s.plainWrite r off v

/-- A field bound of a head whose set is being copied is held until the copy ends (R384). -/
def State.fieldWrite (s : State) (h off : Nat) (v : Word) : State :=
  if s.cal.copying.contains h then
    let w : Bool × Nat × List Byte := (true, off, leBytes v.toNat 4)
    { s with cal := { s.cal with held := s.cal.held ++ [w] } }
  else s.wr off v

def State.tscWrite (s : State) (r : RegRow) (i off : Nat) (v : Word) : State :=
  if r.base = R.TSC_H_FXMIN 0 ∨ r.base = R.TSC_H_FYMIN 0 ∨ r.base = R.TSC_H_FXMAX 0 ∨ r.base = R.TSC_H_FYMAX 0 then s.fieldWrite i off v
  else if off = R.TSC_TWIN then
    let s := s.plainWrite r off v
    if s.fld off F.TSC_TWIN_MINLEAD < 4 then s.setFld off F.TSC_TWIN_MINLEAD 4 else s
  else if off = R.TSC_HEAD_REMOVE then s.headRemoveWrite v
  else if off = R.TSC_HEAD_RESTORE then s.headRestoreWrite v
  else if off = R.TSC_EVT_POST then s.evtPostWrite v
  else if off = R.TSC_SVC then s.svcWrite v
  else s.plainWrite r off v

/-- A write of BLD_Hh_BCFG: a LOOP bit that sets while its loop is automatic makes a transfer due (R274). -/
def State.bcfgWrite (s : State) (r : RegRow) (h off : Nat) (v : Word) : State :=
  let old := s.fld off F.BLD_H_BCFG_LOOP
  let s := s.plainWrite r off v
  let new := s.fld off F.BLD_H_BCFG_LOOP
  (List.range 8).foldl (fun s b =>
    let p := s.loop (8 * h + b)
    if bit new b && !bit old b && p.auto then s.setLoop (8 * h + b) { p with xfer := some (some 0x10000) } else s) s

def State.bldWrite (s : State) (r : RegRow) (i off : Nat) (v : Word) : State :=
  if off = R.BLD_COMMIT then (if fget v F.BLD_COMMIT_GO = 1 then s.regCommit 2 else s)
  else if r.base = R.BLD_CA_CTL 0 then s.caCtlWrite i v
  else if r.base = R.BLD_H_BCFG 0 then s.bcfgWrite r i off v
  else if r.base = R.BLD_H_UNMASK 0 then s.unmaskWrite i v
  else s.plainWrite r off v

def State.lnWrite (s : State) (r : RegRow) (i off : Nat) (v : Word) : State :=
  if r.base = R.LN_CFG 0 then s.lnCfgWrite i v
  else if r.base = R.LN_ASYM 0 then s.asymWrite i v
  else if r.base = R.LN_PEP_CTL 0 then s.pepCtlWrite i v
  else if r.base = R.LN_PEP_INJ 0 ∨ r.base = R.LN_PEP_INJCNT 0 then (s.plainWrite r off v).injSync i
  else s.plainWrite r off v

/-- The loop that the indirect window addresses, if there is one (R273). -/
def State.windowLoop (s : State) : Option Nat :=
  let l := s.fld R.CEN_LIDX F.CEN_LIDX_LOOP
  if l < 208 then some l else none

/-- A write of CEN_LMAN or CEN_LSTAT acts on the loop that CEN_LIDX addresses; loops 208 to 255 do not exist. -/
def State.windowWrite (s : State) (r : RegRow) (off : Nat) (v : Word) : State :=
  match s.windowLoop with
  | none => s
  | some l =>
    let p := s.loop l
    if off = R.CEN_LMAN then s.setLoop l { p with man := v }
    else if off = R.CEN_LSTAT then s.setLoop l { p with stat := fieldsWrite true r.fields v p.stat }
    else s

def State.cenWrite (s : State) (r : RegRow) (off : Nat) (v : Word) : State :=
  if off = R.CEN_COMMIT then (if fget v F.CEN_COMMIT_GO = 1 then s.regCommit 3 else s)
  else if off = R.CEN_LCTL then s.lctlWrite (s.fld R.CEN_LIDX F.CEN_LIDX_LOOP) v
  else if off = R.CEN_LMAN ∨ off = R.CEN_LSTAT then s.windowWrite r off v
  else if off = R.CEN_TRC_CTL then s.trcCtlWrite v
  else s.plainWrite r off v

def State.mapWrite (s : State) (r : RegRow) (i off : Nat) (v : Word) : State :=
  if r.base = R.MAP_CTL 0 then s.mapCtlWrite i v
  else if r.base = R.MAP_COMMIT 0 then (if fget v F.MAP_COMMIT_GO = 1 then s.regCommit (28 + i) else s)
  else if r.base = R.MAP_SUBMIT 0 then s.mapSubmit i (fget v F.MAP_SUBMIT_BUF)
  else if r.base = R.MAP_FREE 0 then s.mapFree i (fget v F.MAP_FREE_BUF)
  else s.plainWrite r off v

/-- A write of AXF_AXa_STAT: clearing POSLOST in index mode 3 makes the next index the reference (R319). -/
def State.axStatWrite (s : State) (r : RegRow) (a off : Nat) (v : Word) : State :=
  let s := s.plainWrite r off v
  if fget v F.AXF_AX_STAT_POSLOST = 1 ∧ s.lfld (R.AXF_AX_CFG a) F.AXF_AX_CFG_IDXMODE = 3 then
    s.setAxis a { s.axis a with refDue := true }
  else s

def State.axfWrite (s : State) (r : RegRow) (i off : Nat) (v : Word) : State :=
  if off = R.AXF_COMMIT then (if fget v F.AXF_COMMIT_GO = 1 then s.regCommit 34 else s)
  else if r.base = R.AXF_AX_STAT 0 then s.axStatWrite r i off v
  else s.plainWrite r off v

def State.camWrite (s : State) (r : RegRow) (i off : Nat) (v : Word) : State :=
  if r.base = R.CAM_CFG 0 then s.camCfgWrite i v
  else if r.base = R.CAM_COMMIT 0 then (if fget v F.CAM_COMMIT_GO = 1 then s.regCommit (30 + i) else s)
  else if r.base = R.CAM_SNAP 0 then s.camSnapWrite i v
  else if r.base = R.CAM_TAP 0 then s.camTapWriteN i v
  else s.plainWrite r off v

def State.timWrite (s : State) (r : RegRow) (i off : Nat) (v : Word) : State :=
  if off = R.TIM_COMMIT then (if fget v F.TIM_COMMIT_GO = 1 then s.regCommit 35 else s)
  else if off = R.TIM_REF_CFG then s.refCfgWrite v
  else if r.base = R.TIM_SYNCO_CFG 0 then s.syncoWrite i v
  else s.plainWrite r off v

/-- A write of CAL_Hh_TSRC: a change of SRC makes TREF invalid (R392). -/
def State.tsrcWrite (s : State) (r : RegRow) (h off : Nat) (v : Word) : State :=
  let old := s.fld off F.CAL_H_TSRC_SRC
  let s := s.plainWrite r off v
  if s.fld off F.CAL_H_TSRC_SRC = old then s else s.setFld (R.CAL_H_TREF h) F.CAL_H_TREF_VALID 0

def State.calWrite (s : State) (r : RegRow) (i off : Nat) (v : Word) : State :=
  if r.base = R.GEO_H_COMMIT 0 then (if fget v F.GEO_H_COMMIT_GO = 1 then s.regCommit (4 + i) else s)
  else if r.base = R.CAL_H_TREF 0 then s.setTref i (fget v F.CAL_H_TREF_TREF)
  else if r.base = R.CAL_H_TSRC 0 then s.tsrcWrite r i off v
  else s.plainWrite r off v

def State.thmWrite (s : State) (r : RegRow) (off : Nat) (v : Word) : State :=
  if off = R.THM_COMMIT then (if fget v F.THM_COMMIT_GO = 1 then s.regCommit 36 else s) else s.plainWrite r off v

def State.recWrite (s : State) (r : RegRow) (off : Nat) (v : Word) : State :=
  if off = R.REC_CTL then s.recCtlWrite v
  else if off = R.REC_QS_CFG then s.qsCfgWrite v
  else if off = R.REC_QS_RPTR then s.qsRptrWrite v
  else s.plainWrite r off v

/-- The bits of FLT_FATAL whose condition still exists (R433). -/
def State.fatalNow (s : State) : Word :=
  let crit := (List.range 8).any fun c => decide (2 ≤ (sget (fun _ => Chan.reset) c s.chans).critRounds)
  let w : Word := if s.flt.mcpHealthy = 0 then fmask F.FLT_FATAL_MCP_NONE else 0
  let w := if crit then w ||| fmask F.FLT_FATAL_THERMAL else w
  let w := if s.fld R.PWR_MON F.PWR_MON_RAIL % 512 = 511 then w else w ||| fmask F.FLT_FATAL_SUPPLY
  if s.pwr.clockBad then w ||| fmask F.FLT_FATAL_CLOCK else w

/-- A write of FLT_FATAL: W1C in IDLE and SAFE only; a bit whose condition persists sets again (R433). -/
def State.fatalWrite (s : State) (r : RegRow) (v : Word) : State :=
  if s.mode ≠ .idle ∧ s.mode ≠ .safe then s.lockviol
  else
    let t := s.plainWrite r R.FLT_FATAL v
    t.wr R.FLT_FATAL (t.rd R.FLT_FATAL ||| (s.rd R.FLT_FATAL &&& v &&& s.fatalNow))

def State.fltWrite (s : State) (r : RegRow) (off : Nat) (v : Word) : State :=
  if off = R.FLT_FATAL then s.fatalWrite r v else s.plainWrite r off v

def State.lcsWrite (s : State) (r : RegRow) (off : Nat) (v : Word) : State :=
  if off = R.LCS_LC_REQ then s.lcReqWrite v else s.plainWrite r off v

/-- A write of the mask bit of vector `i`: a message left pending is sent as the mask clears (R57). -/
def State.msixMaskWrite (s : State) (i : Nat) (v : Word) : State :=
  let s := s.setFld (R.MSIX_CTRL i) F.MSIX_CTRL_MASK (fget v F.MSIX_CTRL_MASK)
  if fget v F.MSIX_CTRL_MASK = 0 ∧ bit (s.rd (R.MSIX_PBA (i / 32))).toNat (i % 32) then
    (s.wr (R.MSIX_PBA (i / 32)) (s.rd (R.MSIX_PBA (i / 32)) &&& ~~~BitVec.ofNat 32 (2 ^ (i % 32)))).msix i
  else s

def State.msixWrite (s : State) (r : RegRow) (i off : Nat) (v : Word) : State :=
  if r.base = R.MSIX_CTRL 0 then s.msixMaskWrite i v else s.plainWrite r off v

/-! ## Host accesses (R2, R3, R457) -/

/-- A 32-bit write of `v` to a register of the table `r`, at offset `off`, instance `i`. -/
def State.rowWrite (s : State) (r : RegRow) (i off : Nat) (v : Word) : State :=
  if off < 0x100000 then s.glbWrite r off v
  else if off < 0x200000 then s.hqWrite r i off v
  else if off < 0x300000 then s.bsqWrite r i off v
  else if off < 0x400000 then s.tscWrite r i off v
  else if off < 0x500000 then s.bldWrite r i off v
  else if off < 0x600000 then s.lnWrite r i off v
  else if off < 0x700000 then s.cenWrite r off v
  else if off < 0x800000 then s.mapWrite r i off v
  else if off < 0x900000 then s.axfWrite r i off v
  else if off < 0xA00000 then s.camWrite r i off v
  else if off < 0xB00000 then s.timWrite r i off v
  else if off < 0xB08000 then s.calWrite r i off v
  else if off < 0xC00000 then s.thmWrite r off v
  else if off < 0xD00000 then s.recWrite r off v
  else if off < 0xE00000 then s.fltWrite r off v
  else if off < 0xE08000 then s.lcsWrite r off v
  else if off < 0xF00000 then s.plainWrite r off v
  else s.msixWrite r i off v

/-- The first instance number of an offset in its register table. -/
def RegRow.inst (r : RegRow) (off : Nat) : Nat := (idxDims r.dims (off - r.base)).headD 0

/-- A 32-bit BAR0 write by the host: no effect during BOOT (R457), nor at an offset that no chapter defines (R3). -/
def State.bar0Write (s : State) (off : Nat) (v : Word) : State :=
  if s.mode = .boot then s
  else match regRow off with
    | none => s
    | some r => s.rowWrite r (r.inst off) off v

/-- A naturally aligned access of one or two words inside BAR0 (R2). -/
def accessOk (off words : Nat) : Bool :=
  (words = 1 && off % 4 = 0 || words = 2 && off % 8 = 0) && decide (off + 4 * words ≤ 0x1000000)

/-- A host write of one or two words, lower address first (R2). -/
def State.hostWrite (s : State) (off : Nat) (ws : List Word) : State :=
  match ws with
  | [v] => if accessOk off 1 then s.bar0Write off v else s
  | [v, w] => if accessOk off 2 then (s.bar0Write off v).bar0Write (off + 4) w else s
  | _ => s

/-- The registers whose value is held outside the register file: the sequencer's state (R88), as at the end of the last tick for its
general registers; the interlock view; the lock of a column area (R206); device time (R26); the loop window (R273). -/
def State.seqView (s : State) (r : RegRow) (n off : Nat) : Option Word :=
  let q := s.seq n
  let idle := n ≥ 24 && s.bsqState n = 1
  let a := match sget (fun _ => none) (2 * n + (s.tick + 1) % 2) s.ckpts with
    | some (k, c) => if q.running ∧ k = s.tick + 1 then c.arch else q.arch
    | none => q.arch
  if r.base = R.BSQ_PC 0 then some (BitVec.ofNat 32 (q.arch.pc + 2 ^ 31 * b2n q.running))
  else if r.base = R.BSQ_STATE 0 then
    some (if idle then 0
      else BitVec.ofNat 32 (q.arch.region + 2 ^ 4 * q.arch.stack.length + 2 ^ 8 * q.arch.flags + 2 ^ 16 * q.arch.mask))
  else if r.base = R.BSQ_G 0 0 then some (if idle then 0 else a.g.getD ((off - R.BSQ_G n 0) / 4) 0)
  else none

/-- A register of the loop window as it reads. -/
def State.windowView (s : State) (off : Nat) : Word :=
  match s.windowLoop with
  | none => 0
  | some l =>
    let p := s.loop l
    if off = R.CEN_LCTL then BitVec.ofNat 32 (b2n p.auto + 2 * b2n p.track)
    else if off = R.CEN_LMAN then p.man
    else if off = R.CEN_LK then p.k
    else if off = R.CEN_LINTG then p.intg
    else p.stat

/-- The word at `off` before any effect of reading it. WO fields read 0 (R5). -/
def State.view (s : State) (r : RegRow) (off : Nat) : Word :=
  let i := r.inst off
  if off = R.GLB_ILK_STAT then s.ilkStat
  else if 0x200000 ≤ off ∧ off < 0x300000 then (s.seqView r i off).getD (s.rd off)
  else if r.base = R.BLD_CA_STAT 0 then fput (s.rd off) F.BLD_CA_STAT_LOCK (b2n (s.caLocked i))
  else if R.CEN_LCTL ≤ off ∧ off ≤ R.CEN_LSTAT then s.windowView off
  else if r.base = R.TIM_NOW 0 then BitVec.ofNat 32 (s.nowTs / 2 ^ (32 * i))
  else r.fields.foldl (fun w f => if f.acc = .wo then fput w f.fld 0 else w) (s.rd off)

/-- The further words of a value whose low word is at `off`: 48-bit and longer read-only values, and the 48-bit values of R10. -/
def highWords (r : RegRow) (off : Nat) : List Nat :=
  if r.base = R.HQ_JRN_SEQ_LO ∨ r.base = R.AXF_AX_POS_LO 0 ∨ r.base = R.AXF_AX_IDXOBS_LO 0 ∨ r.base = R.AXF_AX_IDXREF_LO 0 ∨
      r.base = R.FLT_ERRADR_LO ∨ r.base = R.LCS_UC_BAL_LO 0 ∨ r.base = R.TIM_PTP_OFS_LO ∨ r.base = R.TIM_PTP_GM_LO ∨
      r.base = R.TIM_P_MAC_LO 0 then [off + 4]
  else if off = R.TIM_NOW 0 then [off + 4, off + 8]
  else if r.base = R.TIM_SYNCI_TS 0 0 ∧ (off - r.base) % 0x20 = 0 then [off + 4, off + 8]
  else if r.base = R.MAP_FLIP 0 0 ∧ (off - r.base) % 0x1000 = 0 then [off + 4, off + 8]
  else []

/-- The offsets that BAR0 serves during BOOT (R457), or while no valid image was found (R440). -/
def State.bootServes (s : State) (off : Nat) : Bool :=
  off = R.GLB_ID || off = R.LCS_STAT || (s.fld R.LCS_STAT F.LCS_STAT_BOOTERR = 0 && (off = R.GLB_MODE || off = R.PWR_STAT))

/-- The word latched for the next read of `off`, if any (R10). -/
def State.latched (s : State) (off : Nat) : Option Word := sget (fun _ => none) off s.latches

/-- A word is latched for the next read of `off`, or none. -/
def State.latch (s : State) (off : Nat) (w : Option Word) : State := { s with latches := sput (fun _ => none) off w s.latches }

/-- What reading a register changes: the further words of its value are latched (R10), and RC fields clear to 0 (R8). -/
def State.readEffect (s : State) (r : RegRow) (off : Nat) : State :=
  let s := (highWords r off).foldl (fun s o => s.latch o ((regRow o).map fun r => s.view r o)) s
  if r.has .rc then s.wr off (r.fields.foldl (fun w f => if f.acc = .rc then fput w f.fld 0 else w) (s.rd off)) else s

/-- A 32-bit BAR0 read by the host: the word and the state after it. -/
def State.bar0Read (s : State) (off : Nat) : Word × State :=
  if s.mode = .boot ∧ !s.bootServes off then (0, s)
  else match regRow off with
    | none => (0, s)
    | some r => match s.latched off with
      | some w => (w, s.latch off none)
      | none => (s.view r off, s.readEffect r off)

/-- A host read of one word, whose value leaves the device. -/
def State.hostRead (s : State) (off : Nat) : State :=
  let (w, s) := s.bar0Read off
  s.emit (.read off w)

/-! ## The commands -/

/-- REGISTER_WRITE (R2, R5): a write of one word, or of two as one 64-bit access. -/
def execRegisterWrite (off : Nat) (ws : List Word) (ns : Nat) (s : State) : Res State := done ((s.arrive ns).hostWrite off ws)

/-- W1C_STATUS_CLEAR (R5, R7): a write of `v` to a register with W1C bits. A bit that a hardware event sets in the same cycle is set by the
command of that event, which then follows this one. -/
def execW1cStatusClear (off : Nat) (v : Word) (ns : Nat) (s : State) : Res State := done ((s.arrive ns).hostWrite off [v])

/-- RC_COUNTER_READ (R8): a read of one word. An event of the same cycle is counted by the command of that event, which then follows this
one. -/
def execRcCounterRead (off : Nat) (s : State) : Res State := done (if accessOk off 1 then s.hostRead off else s)

/-- LOW_WORD_READ_LATCH (R10, R26): a read of `words` 1 or 2, lower address first. -/
def execLowWordReadLatch (off words ns : Nat) (s : State) : Res State :=
  let s := s.arrive ns
  done (if !accessOk off words then s else if words = 2 then (s.hostRead off).hostRead (off + 4) else s.hostRead off)

/-- IRQ_ENABLE_WRITE (R32): a write of GLB_IRQ_EN. -/
def execIrqEnableWrite (v : Word) (s : State) : Res State := hostOp s fun s => s.irqEnWrite v

/-- MSIX_VECTOR_UNMASK (R57): a write of the control word of vector `i`. -/
def execMsixVectorUnmask (i : Nat) (v : Word) (s : State) : Res State :=
  hostOp s fun s => if 64 ≤ i then s else s.msixMaskWrite i v

/-- A write that names no register, or that the present mode refuses, is ignored (R70). -/
def State.pairIgnored (s : State) (off : Nat) (t : State) : Bool :=
  !accessOk off 1 || (regRow off).isNone || s.rd R.GLB_LOCKVIOL ≠ t.rd R.GLB_LOCKVIOL ||
    (s.rd R.GLB_LOCKVIOL = 0xFFFFFFFF && !s.unlocked && match regRow off with
      | some r => r.has .rwl
      | none => false)

/-- The pairs of WRITE_REGS in order, with the number ignored (R70). -/
def State.writePairs : List Word → State → Nat → State × Nat
  | a :: v :: t, s, n =>
    let s' := if accessOk a.toNat 1 then s.bar0Write a.toNat v else s
    State.writePairs t s' (n + b2n (s.pairIgnored a.toNat s'))
  | _, s, n => (s, n)

/-- WRITE_REGS (R70): command `n`. -/
def execWriteRegs (n : Nat) (s : State) : Res State :=
  done (s.runCmd 0x03 n fun c s =>
    if c.len = 0 then s.endCmd c St.empty 0 0
    else if c.len % 8 ≠ 0 ∨ !s.dataFits c c.addr c.len then s.endCmd c St.badParam 0 0
    else
      let (s, k) := State.writePairs (wordsOf (s.dataIn c c.addr c.len)) s 0
      s.endSeq n St.done k 0)

/-- The values of a list of offsets, read in order (R70). -/
def State.readList : List Word → State → List Word × State
  | [], s => ([], s)
  | a :: t, s =>
    let (w, s) := if accessOk a.toNat 1 then s.bar0Read a.toNat else (0, s)
    let (ws, s) := State.readList t s
    (w :: ws, s)

/-- READ_REGS (R70): command `n`; ARG0 and ARG1 hold the result address. -/
def execReadRegs (n : Nat) (s : State) : Res State :=
  done (s.runCmd 0x04 n fun c s =>
    let dest := c.arg 0 + c.arg 1 * 2 ^ 32
    if c.len = 0 then s.endCmd c St.empty 0 0
    else if c.len % 4 ≠ 0 ∨ !s.dataFits c c.addr c.len ∨ !s.dataFits c dest c.len then s.endCmd c St.badParam 0 0
    else
      let (ws, s) := State.readList (wordsOf (s.dataIn c c.addr c.len)) s
      (s.dataOut c dest (ws.flatMap fun w => leBytes w.toNat 4)).endSeq n St.done (c.len / 4) 0)

/-- TICK_BOUNDARY (R17, R18): CD_TIME begins the next tick. The intents due in the tick that ends are complete (R126), the snapshots that are
ready go live (R77), retired gate copies rejoin (Table 16-2), the drive codes of the next tick stand (R19), the source pulses of the
tick are judged (R298), the guard is judged (R184), periodic triggers fall due (R341), and the applied rate moves (R356). A step of device
time is TIME_STEP_APPLY. -/
def execTickBoundary (s : State) : Res State :=
  if !s.pwr.time ∨ s.pwr.held then done s
  else
    let k := s.tick + 1
    let s := (s.finishTo (k + 1)).aimAll (k + 1)
    let s := { s with tick := k, now := max s.now (500 * k) }
    let s := (s.goLiveAll (500 * k)).gsgRejoin k
    let s := ((s.mapTick 0).mapTick 1).guardCheck
    done (s.camPeriodic k).rateTick

end Sys2Proof.Machine
end

