-- ==== Sys2Proof/Machine/Dispatch.lean ====
section
/-! DEFINITION. The meaning of every command: one arm per constructor of Instr. -/

namespace Sys2Proof.Machine

def exec (i : Instr) (s : State) : Host.Outcome State Fault Refusal :=
  match i with
  | .registerWrite off ws ns => Sys2Proof.Machine.execRegisterWrite off ws ns s
  | .w1cStatusClear off v ns => Sys2Proof.Machine.execW1cStatusClear off v ns s
  | .rcCounterRead off => Sys2Proof.Machine.execRcCounterRead off s
  | .lowWordReadLatch off words ns => Sys2Proof.Machine.execLowWordReadLatch off words ns s
  | .tickBoundary => Sys2Proof.Machine.execTickBoundary s
  | .intentDeadline => Sys2Proof.Machine.execIntentDeadline s
  | .switchbackStopEnd unit => Sys2Proof.Machine.execSwitchbackStopEnd unit s
  | .switchbackWaitEnd unit => Sys2Proof.Machine.execSwitchbackWaitEnd unit s
  | .switchbackBackEnd unit => Sys2Proof.Machine.execSwitchbackBackEnd unit s
  | .switchbackApproachEnd unit => Sys2Proof.Machine.execSwitchbackApproachEnd unit s
  | .tickFrameLaunch n lead late ns => Sys2Proof.Machine.execTickFrameLaunch n lead late ns s
  | .gateBlockLaunch n j late bad tie ns => Sys2Proof.Machine.execGateBlockLaunch n j late bad tie ns s
  | .upstreamFrameReceive n ok k app fault frmErr miss turn ex ey ez iv t4 ns => Sys2Proof.Machine.execUpstreamFrameReceive n ok k app fault frmErr miss turn ex ey ez iv t4 ns s
  | .upstreamFrameDeadline n ns => Sys2Proof.Machine.execUpstreamFrameDeadline n ns s
  | .bar2Write a bs ns => Sys2Proof.Machine.execBar2Write a bs ns s
  | .bar4Write x bs ns => Sys2Proof.Machine.execBar4Write x bs ns s
  | .dramCommit v => Sys2Proof.Machine.execDramCommit v s
  | .irqEnableWrite v => Sys2Proof.Machine.execIrqEnableWrite v s
  | .ilkInputEdge k high ns => Sys2Proof.Machine.execIlkInputEdge k high ns s
  | .ilkTripConfirmed k ns => Sys2Proof.Machine.execIlkTripConfirmed k ns s
  | .ilkHealthyConfirmed k ns => Sys2Proof.Machine.execIlkHealthyConfirmed k ns s
  | .ilkRearmExpiry k ns => Sys2Proof.Machine.execIlkRearmExpiry k ns s
  | .relayFeedbackEdge high ns => Sys2Proof.Machine.execRelayFeedbackEdge high ns s
  | .relayMismatch ns => Sys2Proof.Machine.execRelayMismatch ns s
  | .arm => Sys2Proof.Machine.execArm s
  | .disarm => Sys2Proof.Machine.execDisarm s
  | .start => Sys2Proof.Machine.execStart s
  | .pause => Sys2Proof.Machine.execPause s
  | .pauseComplete => Sys2Proof.Machine.execPauseComplete s
  | .pauseTimeout ns => Sys2Proof.Machine.execPauseTimeout ns s
  | .resume => Sys2Proof.Machine.execResume s
  | .abort => Sys2Proof.Machine.execAbort s
  | .enterService => Sys2Proof.Machine.execEnterService s
  | .leaveService => Sys2Proof.Machine.execLeaveService s
  | .enterSafe => Sys2Proof.Machine.execEnterSafe s
  | .clearSafe => Sys2Proof.Machine.execClearSafe s
  | .modeReqInvalidOp op => Sys2Proof.Machine.execModeReqInvalidOp op s
  | .runComplete => Sys2Proof.Machine.execRunComplete s
  | .pcieLinkReset ns => Sys2Proof.Machine.execPcieLinkReset ns s
  | .queueEnable q v => Sys2Proof.Machine.execQueueEnable q v s
  | .queueDisable q v => Sys2Proof.Machine.execQueueDisable q v s
  | .queueDrainComplete q => Sys2Proof.Machine.execQueueDrainComplete q s
  | .sqTailDoorbell q v ns => Sys2Proof.Machine.execSqTailDoorbell q v ns s
  | .cqHeadDoorbell q v ns => Sys2Proof.Machine.execCqHeadDoorbell q v ns s
  | .descriptorFetch ns => Sys2Proof.Machine.execDescriptorFetch ns s
  | .commandStart n ns => Sys2Proof.Machine.execCommandStart n ns s
  | .timedCommandStart n ns => Sys2Proof.Machine.execTimedCommandStart n ns s
  | .nop unit n => Sys2Proof.Machine.execNop unit n s
  | .mode n => Sys2Proof.Machine.execMode n s
  | .commit n => Sys2Proof.Machine.execCommit n s
  | .commitGoLive k => Sys2Proof.Machine.execCommitGoLive k s
  | .writeRegs n => Sys2Proof.Machine.execWriteRegs n s
  | .readRegs n => Sys2Proof.Machine.execReadRegs n s
  | .loadProgram n => Sys2Proof.Machine.execLoadProgram n s
  | .loadTiles n => Sys2Proof.Machine.execLoadTiles n s
  | .loadTable n => Sys2Proof.Machine.execLoadTable n s
  | .commitLayer n => Sys2Proof.Machine.execCommitLayer n s
  | .stagingCopyComplete => Sys2Proof.Machine.execStagingCopyComplete s
  | .waymarkLoad n => Sys2Proof.Machine.execWaymarkLoad n s
  | .productPush n => Sys2Proof.Machine.execProductPush n s
  | .medium n => Sys2Proof.Machine.execMedium n s
  | .timeStep n => Sys2Proof.Machine.execTimeStep n s
  | .timeStepApply => Sys2Proof.Machine.execTimeStepApply s
  | .timeAsym n => Sys2Proof.Machine.execTimeAsym n s
  | .recordRead n => Sys2Proof.Machine.execRecordRead n s
  | .traceRead n => Sys2Proof.Machine.execTraceRead n s
  | .journalMark n => Sys2Proof.Machine.execJournalMark n s
  | .calibrate n => Sys2Proof.Machine.execCalibrate n s
  | .fiducialSettleExpiry ns => Sys2Proof.Machine.execFiducialSettleExpiry ns s
  | .fiducialFrameResult => Sys2Proof.Machine.execFiducialFrameResult s
  | .trimRunEnd ns => Sys2Proof.Machine.execTrimRunEnd ns s
  | .unitReset n => Sys2Proof.Machine.execUnitReset n s
  | .unitSelfTestDone unit ok ns => Sys2Proof.Machine.execUnitSelfTestDone unit ok ns s
  | .headAuth n => Sys2Proof.Machine.execHeadAuth n s
  | .fwUpdate n => Sys2Proof.Machine.execFwUpdate n s
  | .cancel n => Sys2Proof.Machine.execCancel n s
  | .submitDatagram p bs ns => Sys2Proof.Machine.execSubmitDatagram p bs ns s
  | .ackDatagram p bs ns => Sys2Proof.Machine.execAckDatagram p bs ns s
  | .memwriteDatagram p bs ns => Sys2Proof.Machine.execMemwriteDatagram p bs ns s
  | .memreadDatagram p bs n ns => Sys2Proof.Machine.execMemreadDatagram p bs n ns s
  | .completeRetransmit q ns => Sys2Proof.Machine.execCompleteRetransmit q ns s
  | .hostWatchdogKick ns => Sys2Proof.Machine.execHostWatchdogKick ns s
  | .hostWatchdogExpiry ns => Sys2Proof.Machine.execHostWatchdogExpiry ns s
  | .ldi unit => Sys2Proof.Machine.execLdi unit s
  | .ld unit => Sys2Proof.Machine.execLd unit s
  | .st unit => Sys2Proof.Machine.execSt unit s
  | .add unit => Sys2Proof.Machine.execAdd unit s
  | .sub unit => Sys2Proof.Machine.execSub unit s
  | .and unit => Sys2Proof.Machine.execAnd unit s
  | .orr unit => Sys2Proof.Machine.execOrr unit s
  | .xor unit => Sys2Proof.Machine.execXor unit s
  | .shl unit => Sys2Proof.Machine.execShl unit s
  | .shr unit => Sys2Proof.Machine.execShr unit s
  | .cmp unit => Sys2Proof.Machine.execCmp unit s
  | .br unit => Sys2Proof.Machine.execBr unit s
  | .brc unit => Sys2Proof.Machine.execBrc unit s
  | .cal unit => Sys2Proof.Machine.execCal unit s
  | .ret unit => Sys2Proof.Machine.execRet unit s
  | .lop unit => Sys2Proof.Machine.execLop unit s
  | .hlt unit => Sys2Proof.Machine.execHlt unit s
  | .jmp unit => Sys2Proof.Machine.execJmp unit s
  | .mrk unit => Sys2Proof.Machine.execMrk unit s
  | .arc unit => Sys2Proof.Machine.execArc unit s
  | .cub unit => Sys2Proof.Machine.execCub unit s
  | .motionComplete unit => Sys2Proof.Machine.execMotionComplete unit s
  | .dwl unit => Sys2Proof.Machine.execDwl unit s
  | .dwellEnd unit => Sys2Proof.Machine.execDwellEnd unit s
  | .pwr unit => Sys2Proof.Machine.execPwr unit s
  | .rmp unit => Sys2Proof.Machine.execRmp unit s
  | .rampEnd unit => Sys2Proof.Machine.execRampEnd unit s
  | .crv unit => Sys2Proof.Machine.execCrv unit s
  | .dly unit => Sys2Proof.Machine.execDly unit s
  | .sky unit => Sys2Proof.Machine.execSky unit s
  | .brs unit => Sys2Proof.Machine.execBrs unit s
  | .col unit => Sys2Proof.Machine.execCol unit s
  | .columnFire unit => Sys2Proof.Machine.execColumnFire unit s
  | .wpm unit => Sys2Proof.Machine.execWpm unit s
  | .wpmTimeout unit => Sys2Proof.Machine.execWpmTimeout unit s
  | .wtm unit => Sys2Proof.Machine.execWtm unit s
  | .wtmWaitEnd unit => Sys2Proof.Machine.execWtmWaitEnd unit s
  | .bar unit => Sys2Proof.Machine.execBar unit s
  | .barTimeout unit => Sys2Proof.Machine.execBarTimeout unit s
  | .sig unit => Sys2Proof.Machine.execSig unit s
  | .til unit => Sys2Proof.Machine.execTil unit s
  | .qrc unit => Sys2Proof.Machine.execQrc unit s
  | .mac unit => Sys2Proof.Machine.execMac unit s
  | .clp unit => Sys2Proof.Machine.execClp unit s
  | .int unit => Sys2Proof.Machine.execInt unit s
  | .pre unit => Sys2Proof.Machine.execPre unit s
  | .sch unit => Sys2Proof.Machine.execSch unit s
  | .out unit => Sys2Proof.Machine.execOut unit s
  | .trc unit => Sys2Proof.Machine.execTrc unit s
  | .bsqFaultClear n v => Sys2Proof.Machine.execBsqFaultClear n v s
  | .grantRound ns => Sys2Proof.Machine.execGrantRound ns s
  | .lingerExpiry tile => Sys2Proof.Machine.execLingerExpiry tile s
  | .codingWindowClose r ns => Sys2Proof.Machine.execCodingWindowClose r ns s
  | .guardClear h => Sys2Proof.Machine.execGuardClear h s
  | .guardTimeout h => Sys2Proof.Machine.execGuardTimeout h s
  | .headRemove v ns => Sys2Proof.Machine.execHeadRemove v ns s
  | .headRestore v => Sys2Proof.Machine.execHeadRestore v s
  | .detourJoin h ns => Sys2Proof.Machine.execDetourJoin h ns s
  | .eventPost v => Sys2Proof.Machine.execEventPost v s
  | .calibrationGo v => Sys2Proof.Machine.execCalibrationGo v s
  | .bldCommit v => Sys2Proof.Machine.execBldCommit v s
  | .curveCopyComplete => Sys2Proof.Machine.execCurveCopyComplete s
  | .columnReadyWrite a v => Sys2Proof.Machine.execColumnReadyWrite a v s
  | .columnSwapWrite a v => Sys2Proof.Machine.execColumnSwapWrite a v s
  | .beamletUnmask h v => Sys2Proof.Machine.execBeamletUnmask h v s
  | .probePlace h b => Sys2Proof.Machine.execProbePlace h b s
  | .diagUnverified h b => Sys2Proof.Machine.execDiagUnverified h b s
  | .gsgCopyRetire h c => Sys2Proof.Machine.execGsgCopyRetire h c s
  | .laneEnable n v => Sys2Proof.Machine.execLaneEnable n v s
  | .laneDisable n v => Sys2Proof.Machine.execLaneDisable n v s
  | .laneTestEnter n v => Sys2Proof.Machine.execLaneTestEnter n v s
  | .laneTestLeave n v => Sys2Proof.Machine.execLaneTestLeave n v s
  | .mkBlockReceive n good rlock ns => Sys2Proof.Machine.execMkBlockReceive n good rlock ns s
  | .acquireTimeout n ns => Sys2Proof.Machine.execAcquireTimeout n ns s
  | .capabilityReadComplete n => Sys2Proof.Machine.execCapabilityReadComplete n s
  | .delayMeasureComplete n => Sys2Proof.Machine.execDelayMeasureComplete n s
  | .delayTimeout n ns => Sys2Proof.Machine.execDelayTimeout n ns s
  | .delayStep n => Sys2Proof.Machine.execDelayStep n s
  | .authComplete n ns => Sys2Proof.Machine.execAuthComplete n ns s
  | .authTimeout n ns => Sys2Proof.Machine.execAuthTimeout n ns s
  | .failedRetryTimer n ns => Sys2Proof.Machine.execFailedRetryTimer n ns s
  | .laneLoss n cause ns => Sys2Proof.Machine.execLaneLoss n cause ns s
  | .msgRspReceive n seq epoch status data ns => Sys2Proof.Machine.execMsgRspReceive n seq epoch status data ns s
  | .msgTimeout n seq ns => Sys2Proof.Machine.execMsgTimeout n seq ns s
  | .timeBroadcast ns => Sys2Proof.Machine.execTimeBroadcast ns s
  | .pdsReceive n tick entries => Sys2Proof.Machine.execPdsReceive n tick entries s
  | .evtMessageReceive n pos data ns => Sys2Proof.Machine.execEvtMessageReceive n pos data ns s
  | .pepperClear n v => Sys2Proof.Machine.execPepperClear n v s
  | .pepperInjectCount n v => Sys2Proof.Machine.execPepperInjectCount n v s
  | .loopEvaluation l ns => Sys2Proof.Machine.execLoopEvaluation l ns s
  | .auxLoopEvaluation l ns => Sys2Proof.Machine.execAuxLoopEvaluation l ns s
  | .loopMisslim l => Sys2Proof.Machine.execLoopMisslim l s
  | .cenCommit v => Sys2Proof.Machine.execCenCommit v s
  | .controlCopyComplete => Sys2Proof.Machine.execControlCopyComplete s
  | .loopAutoWrite v => Sys2Proof.Machine.execLoopAutoWrite v s
  | .engineResetEnd e => Sys2Proof.Machine.execEngineResetEnd e s
  | .traceArm v => Sys2Proof.Machine.execTraceArm v s
  | .traceStop v => Sys2Proof.Machine.execTraceStop v s
  | .traceTrigger v => Sys2Proof.Machine.execTraceTrigger v s
  | .tracePostDone => Sys2Proof.Machine.execTracePostDone s
  | .traceSpillCopyDone => Sys2Proof.Machine.execTraceSpillCopyDone s
  | .mapGo p v => Sys2Proof.Machine.execMapGo p v s
  | .mapStop p v => Sys2Proof.Machine.execMapStop p v s
  | .mapSubmit p v => Sys2Proof.Machine.execMapSubmit p v s
  | .mapFree p v => Sys2Proof.Machine.execMapFree p v s
  | .mapCommit p v => Sys2Proof.Machine.execMapCommit p v s
  | .mapStartTrigger p => Sys2Proof.Machine.execMapStartTrigger p s
  | .frameLatch p => Sys2Proof.Machine.execFrameLatch p s
  | .planeReset p ns => Sys2Proof.Machine.execPlaneReset p ns s
  | .lineSend p => Sys2Proof.Machine.execLineSend p s
  | .planeLate p ns => Sys2Proof.Machine.execPlaneLate p ns s
  | .arrayStatusReceive n ok k app fault rack rseq rowErr miss turn e t4 ns => Sys2Proof.Machine.execArrayStatusReceive n ok k app fault rack rseq rowErr miss turn e t4 ns s
  | .axisQuadEdge a ab ns frac => Sys2Proof.Machine.execAxisQuadEdge a ab ns frac s
  | .axisHallChange a code ns frac => Sys2Proof.Machine.execAxisHallChange a code ns frac s
  | .axisSincosSample a sv cv ns frac => Sys2Proof.Machine.execAxisSincosSample a sv cv ns frac s
  | .amplitudeFault a sv cv ns => Sys2Proof.Machine.execAmplitudeFault a sv cv ns s
  | .axisSsiFrame a raw ns frac => Sys2Proof.Machine.execAxisSsiFrame a raw ns frac s
  | .axisValidLoss a => Sys2Proof.Machine.execAxisValidLoss a s
  | .axisValidRestore a => Sys2Proof.Machine.execAxisValidRestore a s
  | .indexCapture a ns => Sys2Proof.Machine.execIndexCapture a ns s
  | .speedPublish ns => Sys2Proof.Machine.execSpeedPublish ns s
  | .cmpPulseStart n ns frac => Sys2Proof.Machine.execCmpPulseStart n ns frac s
  | .cmpPulseEnd n ns frac => Sys2Proof.Machine.execCmpPulseEnd n ns frac s
  | .productDetectEdge d ns frac => Sys2Proof.Machine.execProductDetectEdge d ns frac s
  | .productClose r ns frac => Sys2Proof.Machine.execProductClose r ns frac s
  | .webSwitchbackStopped m => Sys2Proof.Machine.execWebSwitchbackStopped m s
  | .webSwitchbackReady m => Sys2Proof.Machine.execWebSwitchbackReady m s
  | .webSwitchbackRestart m => Sys2Proof.Machine.execWebSwitchbackRestart m s
  | .aiStale j ns => Sys2Proof.Machine.execAiStale j ns s
  | .axfCommit v => Sys2Proof.Machine.execAxfCommit v s
  | .camEnable c v => Sys2Proof.Machine.execCamEnable c v s
  | .camSnap c v ns => Sys2Proof.Machine.execCamSnap c v ns s
  | .camTrigger c ns => Sys2Proof.Machine.execCamTrigger c ns s
  | .camTriggerPulseEnd c ns => Sys2Proof.Machine.execCamTriggerPulseEnd c ns s
  | .camTriggerWithdraw c ns => Sys2Proof.Machine.execCamTriggerWithdraw c ns s
  | .camFrameStart c ns => Sys2Proof.Machine.execCamFrameStart c ns s
  | .camLineEnd c px lost ns => Sys2Proof.Machine.execCamLineEnd c px lost ns s
  | .camBlockReceive n line fs fe drop tag seg px lost ns => Sys2Proof.Machine.execCamBlockReceive n line fs fe drop tag seg px lost ns s
  | .camFrameClose c ns => Sys2Proof.Machine.execCamFrameClose c ns s
  | .camFrameTimeout c ns => Sys2Proof.Machine.execCamFrameTimeout c ns s
  | .camRecordWrite c => Sys2Proof.Machine.execCamRecordWrite c s
  | .camTap c v => Sys2Proof.Machine.execCamTap c v s
  | .camCommit c v ns => Sys2Proof.Machine.execCamCommit c v ns s
  | .referenceLost r => Sys2Proof.Machine.execReferenceLost r s
  | .referenceSelect v => Sys2Proof.Machine.execReferenceSelect v s
  | .synciCapture n rising ns frac => Sys2Proof.Machine.execSynciCapture n rising ns frac s
  | .syncoSchedule n v ns => Sys2Proof.Machine.execSyncoSchedule n v ns s
  | .syncoPulseStart n ns => Sys2Proof.Machine.execSyncoPulseStart n ns s
  | .syncoPulseEnd n ns => Sys2Proof.Machine.execSyncoPulseEnd n ns s
  | .ptpSyncReceive p dom src seq twoStep t1 ns frac => Sys2Proof.Machine.execPtpSyncReceive p dom src seq twoStep t1 ns frac s
  | .ptpFollowUpReceive p dom src seq t1 ns => Sys2Proof.Machine.execPtpFollowUpReceive p dom src seq t1 ns s
  | .ptpAnnounceReceive p dom src key ns => Sys2Proof.Machine.execPtpAnnounceReceive p dom src key ns s
  | .ptpDelayResponseReceive p dom seq t ns frac => Sys2Proof.Machine.execPtpDelayResponseReceive p dom seq t ns frac s
  | .ptpPdelayReqReceive p dom seq ns frac => Sys2Proof.Machine.execPtpPdelayReqReceive p dom seq ns frac s
  | .ptpMessageTransmit p type ns frac => Sys2Proof.Machine.execPtpMessageTransmit p type ns frac s
  | .ptpMasterLost ns => Sys2Proof.Machine.execPtpMasterLost ns s
  | .ptpGuardEnd ns => Sys2Proof.Machine.execPtpGuardEnd ns s
  | .timCommit v => Sys2Proof.Machine.execTimCommit v s
  | .arpRequestReceive p ip => Sys2Proof.Machine.execArpRequestReceive p ip s
  | .icmpEchoReceive p ip data => Sys2Proof.Machine.execIcmpEchoReceive p ip data s
  | .ethFrameDrop p badFcs => Sys2Proof.Machine.execEthFrameDrop p badFcs s
  | .ethLinkChange p up ns => Sys2Proof.Machine.execEthLinkChange p up ns s
  | .geoCommit h v => Sys2Proof.Machine.execGeoCommit h v s
  | .geoCopyComplete h => Sys2Proof.Machine.execGeoCopyComplete h s
  | .trefWrite h v => Sys2Proof.Machine.execTrefWrite h v s
  | .housekeepingRound temps bad ns => Sys2Proof.Machine.execHousekeepingRound temps bad ns s
  | .thmCommit v => Sys2Proof.Machine.execThmCommit v s
  | .flashPageProgramDone ok ns => Sys2Proof.Machine.execFlashPageProgramDone ok ns s
  | .flashEraseDone ns => Sys2Proof.Machine.execFlashEraseDone ns s
  | .flashRetry v => Sys2Proof.Machine.execFlashRetry v s
  | .optimeSecond ns => Sys2Proof.Machine.execOptimeSecond ns s
  | .operatingTimeRecord ns => Sys2Proof.Machine.execOperatingTimeRecord ns s
  | .sbcBlockExpanded n ns => Sys2Proof.Machine.execSbcBlockExpanded n ns s
  | .qsBufferFlush ns => Sys2Proof.Machine.execQsBufferFlush ns s
  | .qsEnable v => Sys2Proof.Machine.execQsEnable v s
  | .qsRptrWrite v => Sys2Proof.Machine.execQsRptrWrite v s
  | .mcpLockstepMismatch ns => Sys2Proof.Machine.execMcpLockstepMismatch ns s
  | .mcpWatchdogExpiry ns => Sys2Proof.Machine.execMcpWatchdogExpiry ns s
  | .mcpStandbyMismatch ns => Sys2Proof.Machine.execMcpStandbyMismatch ns s
  | .mcpHandover => Sys2Proof.Machine.execMcpHandover s
  | .bsqCheckerMismatch units ns => Sys2Proof.Machine.execBsqCheckerMismatch units ns s
  | .sramCorrectedError a ns => Sys2Proof.Machine.execSramCorrectedError a ns s
  | .sramUncorrectableError a ns => Sys2Proof.Machine.execSramUncorrectableError a ns s
  | .dramCorrectedError a ns => Sys2Proof.Machine.execDramCorrectedError a ns s
  | .dramUncorrectableError a ns => Sys2Proof.Machine.execDramUncorrectableError a ns s
  | .lifecycleTransition v => Sys2Proof.Machine.execLifecycleTransition v s
  | .reauthTimer ns => Sys2Proof.Machine.execReauthTimer ns s
  | .resetNAssert ns => Sys2Proof.Machine.execResetNAssert ns s
  | .powerOnReset rail ns => Sys2Proof.Machine.execPowerOnReset rail ns s
  | .resetEnd ns => Sys2Proof.Machine.execResetEnd ns s
  | .pllLock pll ns => Sys2Proof.Machine.execPllLock pll ns s
  | .bootImageVerified a b ns => Sys2Proof.Machine.execBootImageVerified a b ns s
  | .dramTrainingDone c rate mib ns => Sys2Proof.Machine.execDramTrainingDone c rate mib ns s
  | .selfTestPass ns => Sys2Proof.Machine.execSelfTestPass ns s
  | .supplyWindowExit rail inside ns => Sys2Proof.Machine.execSupplyWindowExit rail inside ns s
  | .pfailAssert ns => Sys2Proof.Machine.execPfailAssert ns s
  | .journalSeal ns => Sys2Proof.Machine.execJournalSeal ns s
  | .flushDeadline ns => Sys2Proof.Machine.execFlushDeadline ns s
  | .pfailDeassert ns => Sys2Proof.Machine.execPfailDeassert ns s
  | .pfailRecoveryReset ns => Sys2Proof.Machine.execPfailRecoveryReset ns s
  | .sysclkLoss ns => Sys2Proof.Machine.execSysclkLoss ns s
  | .ethRefclkLoss ns => Sys2Proof.Machine.execEthRefclkLoss ns s
  | .xo32Loss ns => Sys2Proof.Machine.execXo32Loss ns s
  | .upstreamCodewordReceive n errs blocks => Sys2Proof.Machine.execUpstreamCodewordReceive n errs blocks s
  | .pepperCheckerLock n => Sys2Proof.Machine.execPepperCheckerLock n s
  | .pepperCheckerLostLock n symErr bitErr mbits => Sys2Proof.Machine.execPepperCheckerLostLock n symErr bitErr mbits s
  | .pepperInjectDone n => Sys2Proof.Machine.execPepperInjectDone n s
  | .ptpDelayReqReceive p dom seq ns frac => Sys2Proof.Machine.execPtpDelayReqReceive p dom seq ns frac s
  | .referenceReturn r => Sys2Proof.Machine.execReferenceReturn r s
  | .hostDmaCompletion n bad off a bs ns => Sys2Proof.Machine.execHostDmaCompletion n bad off a bs ns s
  | .fwImageWriteDone ok ns => Sys2Proof.Machine.execFwImageWriteDone ok ns s
  | .msixVectorUnmask k v => Sys2Proof.Machine.execMsixVectorUnmask k v s

end Sys2Proof.Machine
end

