-- ==== Sys2Proof/Safety.lean ====
section
/-! DEFINITION. What counts as a safe run of the block, in the terms that the statements use: it never stops, it sends no light while
emission is forbidden, its interrupt sources agree with the status bits they gather, and its memories keep one form. -/

namespace Sys2Proof.Machine

/-- The outcome is a next state. -/
def Res.goesOn {σ : Type} (r : Res σ) : Prop := ∃ t, r = .next t

/-- An output that carries no light: no gate bit of a gate block is 1 (R37), and no source pulse starts (R298). -/
def Out.dark : Out → Bool
  | .gates _ _ _ lit => lit.isEmpty
  | .pulse _ _ _ _ => false
  | _ => true

/-- Emission is forbidden: GLB_ILK_STAT.GATE reads 1 (R37, R39, R435). -/
def State.gateForced (s : State) : Bool := fget s.ilkStat F.GLB_ILK_STAT_GATE = 1

/-- GLB_IRQ_SRC[7:0] holds exactly the sources one of whose status bits reads 1 (R32). -/
def State.irqAgrees (s : State) : Prop := s.fld R.GLB_IRQ_SRC F.GLB_IRQ_SRC_SRC = s.irqSources

/-- The state without the BAR0 registers and without what has been sent. -/
def State.core (s : State) : State := { s with regs := [], out := [] }

/-- The registers that the interrupt gathering of R32 writes: GLB_IRQ_SRC and the two pending-bit words of MSI-X. -/
def irqRegs : List Nat := [R.GLB_IRQ_SRC, R.MSIX_PBA 0, R.MSIX_PBA 1]

/-- An MSI-X message. -/
def Out.isMsix : Out → Bool
  | .msix _ _ => true
  | _ => false

/-- The state `t` is `x` once the interrupts have been gathered (R32): GLB_IRQ_SRC[7:0] agrees with the status bits, messages may have been sent
or left pending, and nothing else differs. -/
def State.settles (t x : State) : Prop :=
  t.core = x.core ∧ (∀ off, off ∉ irqRegs → t.rd off = x.rd off) ∧ t.irqAgrees ∧
    t.fld R.GLB_IRQ_SRC F.GLB_IRQ_SRC_MODE = x.fld R.GLB_IRQ_SRC F.GLB_IRQ_SRC_MODE ∧
    ∃ l : List Out, t.out = l ++ x.out ∧ l.all Out.isMsix

/-- The command `c` answers a next state in `s`, which is `x` with its interrupts gathered. What `x` does not change is unchanged. -/
def Gives (c : Instr) (s x : State) : Prop := ∃ t, exec c s = .next t ∧ t.settles x

/-- The command `c` answers a next state in `s`, of which `P` holds. -/
def Runs (c : Instr) (s : State) (P : State → Prop) : Prop := ∃ t, exec c s = .next t ∧ P t

/-- Command `n` is the started command `c` of opcode `op`; it waits to act, and it passes the checks that every opcode shares: a healthy core
pair (R423), the mode (R68), the target's epoch (R418). -/
def State.ready (s : State) (n op : Nat) (c : Cmd) : Prop :=
  s.cmd n = some c ∧ c.started = true ∧ c.wait = .run ∧ c.op = op ∧ s.flt.mcpHealthy ≠ 0 ∧ opMode c s.mode = true ∧
    (c.epochChk = true → s.unitEpoch (epochTarget c) = some c.expEpoch)

/-- Beam sequencer `n` may issue, and `i` is the instruction at its PC (R97). -/
def State.issues (s : State) (n : Nat) (i : Iw) : Prop := n < 26 ∧ s.nextIw n = some (.ok i)

/-- Control engine `e` is in the evaluation `x`, whose next instruction is `i` (R258). -/
def State.evaluates (s : State) (e : Nat) (x : Eval) (i : Iw) : Prop := e < 12 ∧ s.evalOf e = some x ∧ s.ctlFetch x = some i

/-- The registers outside the list `offs` and outside the interrupt gathering read alike in both states. -/
def State.sameBut (offs : List Nat) (s t : State) : Prop := ∀ off, off ∉ offs → off ∉ irqRegs → t.rd off = s.rd off

end Sys2Proof.Machine
end

