-- ==== Sys2Proof/WellFormed.lean ====
section
/-! DEFINITION. The commands that can arrive: operands inside the ranges that the manual gives the units, the registers and the bytes that
they name. A command that is not well-formed has no sender; the model gives it an effect or none (log entry 1). -/

namespace Sys2Proof

open Sys2Proof.Machine

/-- The number is below `n`. -/
def below (n x : Nat) : Bool := decide (x < n)

/-- `n` bytes from `a` lie below `lim`, and there is at least one. -/
def inside (a n lim : Nat) : Bool := decide (0 < n) && decide (a + n ≤ lim)

/-- A sequencer, and a control engine, of Table 16-2. -/
def isBsq (u : Nat) : Bool := decide (0x100 ≤ u) && decide (u < 0x11A)
def isCe (u : Nat) : Bool := decide (0x400 ≤ u) && decide (u < 0x40C)

/-- The operands of a command lie in their ranges. -/
def Instr.wf : Instr → Bool
  | .registerWrite off ws ns => accessOk off ws.length && below 500 ns
  | .w1cStatusClear off _ ns => accessOk off 1 && below 500 ns
  | .rcCounterRead off => accessOk off 1
  | .lowWordReadLatch off words ns => accessOk off words && below 500 ns
  | .tickBoundary => true
  | .intentDeadline => true
  | .switchbackStopEnd unit => isBsq unit
  | .switchbackWaitEnd unit => isBsq unit
  | .switchbackBackEnd unit => isBsq unit
  | .switchbackApproachEnd unit => isBsq unit
  | .tickFrameLaunch n _ _ ns => below 32 n && below 500 ns
  | .gateBlockLaunch n j _ _ _ ns => below 32 n && below 40 j && below 500 ns
  | .upstreamFrameReceive n _ _ _ _ _ _ _ _ _ _ _ _ ns => below 32 n && below 500 ns
  | .upstreamFrameDeadline n ns => below 32 n && below 500 ns
  | .bar2Write a bs ns => inside a bs.length 0x4000000 && below 500 ns
  | .bar4Write x bs ns => inside x bs.length 0x10000000 && below 500 ns
  | .dramCommit _ => true
  | .irqEnableWrite _ => true
  | .ilkInputEdge i _ ns => below 8 i && below 500 ns
  | .ilkTripConfirmed i ns => below 8 i && below 500 ns
  | .ilkHealthyConfirmed i ns => below 8 i && below 500 ns
  | .ilkRearmExpiry i ns => below 8 i && below 500 ns
  | .relayFeedbackEdge _ ns => below 500 ns
  | .relayMismatch ns => below 500 ns
  | .arm => true
  | .disarm => true
  | .start => true
  | .pause => true
  | .pauseComplete => true
  | .pauseTimeout ns => below 500 ns
  | .resume => true
  | .abort => true
  | .enterService => true
  | .leaveService => true
  | .enterSafe => true
  | .clearSafe => true
  | .modeReqInvalidOp op => (decide (11 ≤ op) && below 16 op)
  | .runComplete => true
  | .pcieLinkReset ns => below 500 ns
  | .queueEnable q _ => below 16 q
  | .queueDisable q _ => below 16 q
  | .queueDrainComplete q => below 16 q
  | .sqTailDoorbell q _ ns => below 16 q && below 500 ns
  | .cqHeadDoorbell q _ ns => below 16 q && below 500 ns
  | .descriptorFetch ns => below 500 ns
  | .commandStart n ns => below (2 ^ 64) n && below 500 ns
  | .timedCommandStart n ns => below (2 ^ 64) n && below 500 ns
  | .nop unit n => (isBsq unit || isCe unit) && below (2 ^ 64) n
  | .mode n => below (2 ^ 64) n
  | .commit n => below (2 ^ 64) n
  | .commitGoLive _ => true
  | .writeRegs n => below (2 ^ 64) n
  | .readRegs n => below (2 ^ 64) n
  | .loadProgram n => below (2 ^ 64) n
  | .loadTiles n => below (2 ^ 64) n
  | .loadTable n => below (2 ^ 64) n
  | .commitLayer n => below (2 ^ 64) n
  | .stagingCopyComplete => true
  | .waymarkLoad n => below (2 ^ 64) n
  | .productPush n => below (2 ^ 64) n
  | .medium n => below (2 ^ 64) n
  | .timeStep n => below (2 ^ 64) n
  | .timeStepApply => true
  | .timeAsym n => below (2 ^ 64) n
  | .recordRead n => below (2 ^ 64) n
  | .traceRead n => below (2 ^ 64) n
  | .journalMark n => below (2 ^ 64) n
  | .calibrate n => below (2 ^ 64) n
  | .fiducialSettleExpiry ns => below 500 ns
  | .fiducialFrameResult => true
  | .trimRunEnd ns => below 500 ns
  | .unitReset n => below (2 ^ 64) n
  | .unitSelfTestDone unit _ ns => below 0x700 unit && below 500 ns
  | .headAuth n => below (2 ^ 64) n
  | .fwUpdate n => below (2 ^ 64) n
  | .cancel n => below (2 ^ 64) n
  | .submitDatagram p _ ns => below 2 p && below 500 ns
  | .ackDatagram p _ ns => below 2 p && below 500 ns
  | .memwriteDatagram p _ ns => below 2 p && below 500 ns
  | .memreadDatagram p _ _ ns => below 2 p && below 500 ns
  | .completeRetransmit q ns => below 16 q && below 500 ns
  | .hostWatchdogKick ns => below 500 ns
  | .hostWatchdogExpiry ns => below 500 ns
  | .ldi unit => (isBsq unit || isCe unit)
  | .ld unit => (isBsq unit || isCe unit)
  | .st unit => (isBsq unit || isCe unit)
  | .add unit => (isBsq unit || isCe unit)
  | .sub unit => (isBsq unit || isCe unit)
  | .and unit => (isBsq unit || isCe unit)
  | .orr unit => (isBsq unit || isCe unit)
  | .xor unit => (isBsq unit || isCe unit)
  | .shl unit => (isBsq unit || isCe unit)
  | .shr unit => (isBsq unit || isCe unit)
  | .cmp unit => (isBsq unit || isCe unit)
  | .br unit => (isBsq unit || isCe unit)
  | .brc unit => (isBsq unit || isCe unit)
  | .cal unit => (isBsq unit || isCe unit)
  | .ret unit => (isBsq unit || isCe unit)
  | .lop unit => (isBsq unit || isCe unit)
  | .hlt unit => (isBsq unit || isCe unit)
  | .jmp unit => isBsq unit
  | .mrk unit => isBsq unit
  | .arc unit => isBsq unit
  | .cub unit => isBsq unit
  | .motionComplete unit => isBsq unit
  | .dwl unit => isBsq unit
  | .dwellEnd unit => isBsq unit
  | .pwr unit => isBsq unit
  | .rmp unit => isBsq unit
  | .rampEnd unit => isBsq unit
  | .crv unit => isBsq unit
  | .dly unit => isBsq unit
  | .sky unit => isBsq unit
  | .brs unit => isBsq unit
  | .col unit => isBsq unit
  | .columnFire unit => isBsq unit
  | .wpm unit => isBsq unit
  | .wpmTimeout unit => isBsq unit
  | .wtm unit => isBsq unit
  | .wtmWaitEnd unit => isBsq unit
  | .bar unit => isBsq unit
  | .barTimeout unit => isBsq unit
  | .sig unit => isBsq unit
  | .til unit => isBsq unit
  | .qrc unit => isBsq unit
  | .mac unit => isCe unit
  | .clp unit => isCe unit
  | .int unit => isCe unit
  | .pre unit => isCe unit
  | .sch unit => isCe unit
  | .out unit => isCe unit
  | .trc unit => isCe unit
  | .bsqFaultClear n _ => below 26 n
  | .grantRound ns => below 500 ns
  | .lingerExpiry tile => below 65536 tile
  | .codingWindowClose r ns => below 4096 r && below 500 ns
  | .guardClear h => below 24 h
  | .guardTimeout h => below 24 h
  | .headRemove _ ns => below 500 ns
  | .headRestore _ => true
  | .detourJoin h ns => below 24 h && below 500 ns
  | .eventPost _ => true
  | .calibrationGo _ => true
  | .bldCommit _ => true
  | .curveCopyComplete => true
  | .columnReadyWrite a _ => below 8 a
  | .columnSwapWrite a _ => below 8 a
  | .beamletUnmask h _ => below 24 h
  | .probePlace h b => below 24 h && below 8 b
  | .diagUnverified h b => below 24 h && below 8 b
  | .gsgCopyRetire h c => below 24 h && below 3 c
  | .laneEnable n _ => below 32 n
  | .laneDisable n _ => below 32 n
  | .laneTestEnter n _ => below 32 n
  | .laneTestLeave n _ => below 32 n
  | .mkBlockReceive n _ _ ns => below 32 n && below 500 ns
  | .acquireTimeout n ns => below 32 n && below 500 ns
  | .capabilityReadComplete n => below 32 n
  | .delayMeasureComplete n => below 32 n
  | .delayTimeout n ns => below 32 n && below 500 ns
  | .delayStep n => below 32 n
  | .authComplete n ns => below 32 n && below 500 ns
  | .authTimeout n ns => below 32 n && below 500 ns
  | .failedRetryTimer n ns => below 32 n && below 500 ns
  | .laneLoss n _ ns => below 32 n && below 500 ns
  | .msgRspReceive n seq epoch _ _ ns => below 32 n && below 256 seq && below 16 epoch && below 500 ns
  | .msgTimeout n seq ns => below 32 n && below 256 seq && below 500 ns
  | .timeBroadcast ns => below 500 ns
  | .pdsReceive n _ _ => below 32 n
  | .evtMessageReceive n _ _ ns => below 32 n && below 500 ns
  | .pepperClear n _ => below 32 n
  | .pepperInjectCount n _ => below 32 n
  | .loopEvaluation l ns => below 192 l && below 500 ns
  | .auxLoopEvaluation l ns => (decide (192 ≤ l) && below 208 l) && below 500 ns
  | .loopMisslim l => below 192 l
  | .cenCommit _ => true
  | .controlCopyComplete => true
  | .loopAutoWrite _ => true
  | .engineResetEnd e => below 12 e
  | .traceArm _ => true
  | .traceStop _ => true
  | .traceTrigger _ => true
  | .tracePostDone => true
  | .traceSpillCopyDone => true
  | .mapGo p _ => below 2 p
  | .mapStop p _ => below 2 p
  | .mapSubmit p _ => below 2 p
  | .mapFree p _ => below 2 p
  | .mapCommit p _ => below 2 p
  | .mapStartTrigger p => below 2 p
  | .frameLatch p => below 2 p
  | .planeReset p ns => below 2 p && below 500 ns
  | .lineSend p => below 2 p
  | .planeLate p ns => below 2 p && below 500 ns
  | .arrayStatusReceive n _ _ _ _ _ _ _ _ _ _ _ ns => below 32 n && below 500 ns
  | .axisQuadEdge a ab ns frac => below 8 a && below 4 ab && below 500 ns && below 65536 frac
  | .axisHallChange a code ns frac => below 8 a && below 8 code && below 500 ns && below 65536 frac
  | .axisSincosSample a _ _ ns frac => below 8 a && below 500 ns && below 65536 frac
  | .amplitudeFault a _ _ ns => below 8 a && below 500 ns
  | .axisSsiFrame a _ ns frac => below 8 a && below 500 ns && below 65536 frac
  | .axisValidLoss a => below 8 a
  | .axisValidRestore a => below 8 a
  | .indexCapture a ns => below 8 a && below 500 ns
  | .speedPublish ns => below 500 ns
  | .cmpPulseStart n ns frac => below 8 n && below 500 ns && below 65536 frac
  | .cmpPulseEnd n ns frac => below 8 n && below 500 ns && below 65536 frac
  | .productDetectEdge d ns frac => below 4 d && below 500 ns && below 65536 frac
  | .productClose r ns frac => below 4096 r && below 500 ns && below 65536 frac
  | .webSwitchbackStopped m => below 4 m
  | .webSwitchbackReady m => below 4 m
  | .webSwitchbackRestart m => below 4 m
  | .aiStale j ns => below 8 j && below 500 ns
  | .axfCommit _ => true
  | .camEnable c _ => below 4 c
  | .camSnap c _ ns => below 4 c && below 500 ns
  | .camTrigger c ns => below 4 c && below 500 ns
  | .camTriggerPulseEnd c ns => below 4 c && below 500 ns
  | .camTriggerWithdraw c ns => below 4 c && below 500 ns
  | .camFrameStart c ns => below 4 c && below 500 ns
  | .camLineEnd c _ _ ns => below 4 c && below 500 ns
  | .camBlockReceive n _ _ _ _ _ _ _ _ ns => below 32 n && below 500 ns
  | .camFrameClose c ns => below 4 c && below 500 ns
  | .camFrameTimeout c ns => below 4 c && below 500 ns
  | .camRecordWrite c => below 4 c
  | .camTap c _ => below 4 c
  | .camCommit c _ ns => below 4 c && below 500 ns
  | .referenceLost r => below 2 r
  | .referenceSelect _ => true
  | .synciCapture n _ ns frac => below 4 n && below 500 ns && below 65536 frac
  | .syncoSchedule n _ ns => below 4 n && below 500 ns
  | .syncoPulseStart n ns => below 4 n && below 500 ns
  | .syncoPulseEnd n ns => below 4 n && below 500 ns
  | .ptpSyncReceive p _ _ _ _ _ ns frac => below 2 p && below 500 ns && below 65536 frac
  | .ptpFollowUpReceive p _ _ _ _ ns => below 2 p && below 500 ns
  | .ptpAnnounceReceive p _ _ _ ns => below 2 p && below 500 ns
  | .ptpDelayResponseReceive p _ _ _ ns frac => below 2 p && below 500 ns && below 65536 frac
  | .ptpPdelayReqReceive p _ _ ns frac => below 2 p && below 500 ns && below 65536 frac
  | .ptpMessageTransmit p _ ns frac => below 2 p && below 500 ns && below 65536 frac
  | .ptpMasterLost ns => below 500 ns
  | .ptpGuardEnd ns => below 500 ns
  | .timCommit _ => true
  | .arpRequestReceive p _ => below 2 p
  | .icmpEchoReceive p _ _ => below 2 p
  | .ethFrameDrop p _ => below 2 p
  | .ethLinkChange p _ ns => below 2 p && below 500 ns
  | .geoCommit h _ => below 24 h
  | .geoCopyComplete h => below 24 h
  | .trefWrite h _ => below 24 h
  | .housekeepingRound temps _ ns => decide (temps.length = 12) && below 500 ns
  | .thmCommit _ => true
  | .flashPageProgramDone _ ns => below 500 ns
  | .flashEraseDone ns => below 500 ns
  | .flashRetry _ => true
  | .optimeSecond ns => below 500 ns
  | .operatingTimeRecord ns => below 500 ns
  | .sbcBlockExpanded n ns => below (2 ^ 64) n && below 500 ns
  | .qsBufferFlush ns => below 500 ns
  | .qsEnable _ => true
  | .qsRptrWrite _ => true
  | .mcpLockstepMismatch ns => below 500 ns
  | .mcpWatchdogExpiry ns => below 500 ns
  | .mcpStandbyMismatch ns => below 500 ns
  | .mcpHandover => true
  | .bsqCheckerMismatch units ns => units.all isBsq && below 500 ns
  | .sramCorrectedError a ns => below 0x4000000 a && below 500 ns
  | .sramUncorrectableError a ns => below 0x4000000 a && below 500 ns
  | .dramCorrectedError _ ns => below 500 ns
  | .dramUncorrectableError _ ns => below 500 ns
  | .lifecycleTransition _ => true
  | .reauthTimer ns => below 500 ns
  | .resetNAssert ns => below 500 ns
  | .powerOnReset rail ns => below 9 rail && below 500 ns
  | .resetEnd ns => below 500 ns
  | .pllLock pll ns => below 2 pll && below 500 ns
  | .bootImageVerified _ _ ns => below 500 ns
  | .dramTrainingDone c rate _ ns => below 2 c && below 4 rate && below 500 ns
  | .selfTestPass ns => below 500 ns
  | .supplyWindowExit rail _ ns => below 10 rail && below 500 ns
  | .pfailAssert ns => below 500 ns
  | .journalSeal ns => below 500 ns
  | .flushDeadline ns => below 500 ns
  | .pfailDeassert ns => below 500 ns
  | .pfailRecoveryReset ns => below 500 ns
  | .sysclkLoss ns => below 500 ns
  | .ethRefclkLoss ns => below 500 ns
  | .xo32Loss ns => below 500 ns
  | .upstreamCodewordReceive n _ _ => below 32 n
  | .pepperCheckerLock n => below 32 n
  | .pepperCheckerLostLock n _ _ _ => below 32 n
  | .pepperInjectDone n => below 32 n
  | .ptpDelayReqReceive p _ _ ns frac => below 2 p && below 500 ns && below 65536 frac
  | .referenceReturn r => below 2 r
  | .hostDmaCompletion n _ _ a bs ns => below (2 ^ 64) n && decide (a + bs.length ≤ 2 ^ 64) && below 500 ns
  | .fwImageWriteDone _ ns => below 500 ns
  | .msixVectorUnmask i _ => below 64 i

end Sys2Proof
end

