-- ==== Sys2Proof/Certificates/Slice0/Obligations.lean ====
section
/-! DEFINITION. The statements about the block, for the provers. `Gives c s x` says that the command answers a next state, which is `x` with its
interrupts gathered, so whatever `x` leaves as it was in `s` is unchanged: the frame is part of every such clause. -/

section
open Sys2Proof Sys2Proof.Machine

/-- A step takes the command at the front of the queue and runs `exec` on the state with the queue's rest. Idling on an empty queue is the model's choice (log entry 8). -/
def Obligations.StepRunsTheFrontCommand : Prop :=
  (∀ (c : Instr) (rest : List Instr) (s : State), step { s with pending := c :: rest } = exec c { s with pending := rest }) ∧
  ∀ s : State, s.pending = [] → step s = .next s

/-- What reset leaves, of what the manual gives (R30, R36, R39, R45): BOOT, no emission, the interlock registers at their reset values, nothing in flight. -/
def Obligations.ResetState : Prop :=
  State.reset.mode = .boot ∧ State.reset.emitEn = false ∧ fget State.reset.ilkStat F.GLB_ILK_STAT_GATE = 1 ∧
  fget State.reset.glb.ilkCfg F.GLB_ILK_CFG_USE = 255 ∧ fget State.reset.glb.ilkCfg F.GLB_ILK_CFG_CLASS = 255 ∧
  fget State.reset.glb.ilkCfg F.GLB_ILK_CFG_FILT = 5 ∧ fget State.reset.glb.ilkCfg F.GLB_ILK_CFG_FB_EN = 0 ∧
  fget State.reset.glb.ilkCfg2 F.GLB_ILK_CFG2_PAUTO = 0 ∧
  ((List.range 6).map State.reset.dramRegion) = [(0, 0), (0, 0), (0, 0), (0, 0), (0, 2 ^ 26), (0, 0)] ∧
  State.reset.pending = [] ∧ State.reset.hq.cmds = [] ∧
  (∀ q < 16, State.reset.fld (R.HQ_CFG q) F.HQ_CFG_EN = 0) ∧ (∀ n < 32, State.reset.laneState n = Ln.disabled) ∧
  State.reset.irqAgrees ∧ State.reset.mem.wf = true

/-- R32, for bits 0 to 7 of GLB_IRQ_SRC: each reads 1 while any status bit of its source reads 1. Every command ends in agreement, from any state. -/
def Obligations.EveryStepKeepsIrqAgreement : Prop :=
  (∀ s t : State, s.irqAgrees → step s = .next t → t.irqAgrees) ∧
  ∀ (c : Instr) (s t : State), exec c s = .next t → t.irqAgrees

/-- The manual gives every command of the table an effect in every state; an event that cannot occur there has none (log entry 1). So no step stops. -/
def Obligations.EveryCommandCompletes : Prop :=
  (∀ (c : Instr) (s : State), ∃ t, exec c s = .next t) ∧ ∀ s : State, ∃ t, step s = .next t

/-- R32 and R57: what enabling a raised source and unmasking a pending vector do. In BOOT a host write has no effect (R457). -/
def Obligations.InterruptSending : Prop :=
  -- IRQ_ENABLE_WRITE
  (∀ (s : State) (i : Nat), i < 8 → s.mode ≠ .boot → s.irqAgrees → bit s.irqSources i = true → s.fld R.GLB_IRQ_EN F.GLB_IRQ_EN_EN = 0 →
    Runs (.irqEnableWrite (BitVec.ofNat 32 (2 ^ i))) s fun t =>
      t.fld R.GLB_IRQ_EN F.GLB_IRQ_EN_EN = 2 ^ i ∧ t.core = s.core ∧
      (∀ off, off ≠ R.GLB_IRQ_EN → off ≠ R.MSIX_PBA (s.irqVec i / 32) → t.rd off = s.rd off) ∧
      (s.fld (R.MSIX_CTRL (s.irqVec i)) F.MSIX_CTRL_MASK = 0 → t.rd (R.MSIX_PBA (s.irqVec i / 32)) = s.rd (R.MSIX_PBA (s.irqVec i / 32)) ∧
        t.out = .msix ((s.rd (R.MSIX_ADDR_LO (s.irqVec i))).toNat + (s.rd (R.MSIX_ADDR_HI (s.irqVec i))).toNat * 2 ^ 32)
          (s.rd (R.MSIX_DATA (s.irqVec i))) :: s.out) ∧
      (s.fld (R.MSIX_CTRL (s.irqVec i)) F.MSIX_CTRL_MASK = 1 → t.out = s.out ∧
        bit (t.rd (R.MSIX_PBA (s.irqVec i / 32))).toNat (s.irqVec i % 32) = true)) ∧
  -- MSIX_VECTOR_UNMASK
  (∀ (s : State) (i : Nat), i < 64 → s.mode ≠ .boot → s.irqAgrees → bit (s.rd (R.MSIX_PBA (i / 32))).toNat (i % 32) = true →
    Runs (.msixVectorUnmask i 0) s fun t =>
      t.fld (R.MSIX_CTRL i) F.MSIX_CTRL_MASK = 0 ∧ bit (t.rd (R.MSIX_PBA (i / 32))).toNat (i % 32) = false ∧ t.core = s.core ∧
      t.out = .msix ((s.rd (R.MSIX_ADDR_LO i)).toNat + (s.rd (R.MSIX_ADDR_HI i)).toNat * 2 ^ 32) (s.rd (R.MSIX_DATA i)) :: s.out ∧
      ∀ off, off ≠ R.MSIX_CTRL i → off ≠ R.MSIX_PBA (i / 32) → t.rd off = s.rd off) ∧
  (∀ (s : State) (i : Nat), i < 64 → s.mode ≠ .boot → Gives (.msixVectorUnmask i 1) s (s.setFld (R.MSIX_CTRL i) F.MSIX_CTRL_MASK 1)) ∧
  -- both, in BOOT
  ∀ (s : State) (v : Word) (i : Nat), s.mode = .boot → Gives (.irqEnableWrite v) s s ∧ Gives (.msixVectorUnmask i v) s s

/-- Table 0-3 (R5), for every register table: what a write does to each field. `open_` is the RWL condition. -/
def Obligations.FieldsByAccessCode : Prop :=
  ∀ (off : Nat) (r : RegRow) (f : FieldRow), regRow off = some r → f ∈ r.fields → ∀ (open_ : Bool) (v w : Word),
    fget (fieldsWrite open_ r.fields v w) f.fld =
      match f.acc with
      | .rw => fget v f.fld
      | .rwl => if open_ then fget v f.fld else fget w f.fld
      | .w1c => fget (w &&& ~~~v) f.fld
      | .ro | .wo | .rc => fget w f.fld

/-- R2, R3, R5, R457 and R481 for a host write; `plainWrite` is the write by access codes alone. -/
def Obligations.HostRegisterWrites : Prop :=
  -- REGISTER_WRITE
  (∀ (s : State) (off ns : Nat) (v : Word), (s.mode = .boot ∨ regRow off = none ∨ accessOk off 1 = false) →
    Gives (.registerWrite off [v] ns) s (s.arrive ns)) ∧
  (∀ (s : State) (off ns : Nat) (v : Word) (r : RegRow), s.mode ≠ .boot → accessOk off 1 = true → regRow off = some r →
    (s.arrive ns).rowWrite r (r.inst off) off v = (s.arrive ns).plainWrite r off v →
    Gives (.registerWrite off [v] ns) s
      (let a := s.arrive ns
       let b := if r.has .rwl && !s.unlocked then a.inc R.GLB_LOCKVIOL 1 else a
       b.wr off (fieldsWrite s.unlocked r.fields v (b.rd off)))) ∧
  (∀ (s : State) (off ns : Nat) (v w : Word), accessOk off 2 = true →
    Gives (.registerWrite off [v, w] ns) s (((s.arrive ns).bar0Write off v).bar0Write (off + 4) w)) ∧
  -- W1C_STATUS_CLEAR
  (∀ (s : State) (ns : Nat) (v : Word), s.mode ≠ .boot →
    Gives (.w1cStatusClear R.GLB_SAFE_CAUSE v ns) s
      ((s.arrive ns).wr R.GLB_SAFE_CAUSE (fieldsWrite s.unlocked ((regRow R.GLB_SAFE_CAUSE).elim [] RegRow.fields) v (s.rd R.GLB_SAFE_CAUSE)))) ∧
  (∀ (s : State) (off ns : Nat) (v : Word), (s.mode = .boot ∨ regRow off = none ∨ accessOk off 1 = false) →
    Gives (.w1cStatusClear off v ns) s (s.arrive ns))

/-- R8 and R10: reading an RC counter and reading a value held in several words. -/
def Obligations.HostRegisterReads : Prop :=
  -- RC_COUNTER_READ
  (∀ s : State, s.mode ≠ .boot → s.latched R.GLB_LOCKVIOL = none →
    Gives (.rcCounterRead R.GLB_LOCKVIOL) s ((s.wr R.GLB_LOCKVIOL 0).emit (.read R.GLB_LOCKVIOL (s.rd R.GLB_LOCKVIOL)))) ∧
  -- LOW_WORD_READ_LATCH
  (∀ (s : State) (t ns : Nat), t < 16 → s.mode ≠ .boot → s.latched (R.LCS_UC_BAL_LO t) = none →
    Gives (.lowWordReadLatch (R.LCS_UC_BAL_LO t) 1 ns) s
      (((s.arrive ns).latch (R.LCS_UC_BAL_HI t) (some (s.rd (R.LCS_UC_BAL_HI t)))).emit
        (.read (R.LCS_UC_BAL_LO t) (s.rd (R.LCS_UC_BAL_LO t))))) ∧
  (∀ (s : State) (off ns : Nat) (w : Word) (r : RegRow), s.mode ≠ .boot → accessOk off 1 = true → regRow off = some r →
    s.latched off = some w →
    Gives (.lowWordReadLatch off 1 ns) s (((s.arrive ns).latch off none).emit (.read off w))) ∧
  (∀ (s : State) (ns : Nat), s.mode ≠ .boot → s.latched (R.TIM_NOW 0) = none →
    Runs (.lowWordReadLatch (R.TIM_NOW 0) 1 ns) s fun t =>
      t.latched (R.TIM_NOW 1) = some (BitVec.ofNat 32 ((s.arrive ns).nowTs / 2 ^ 32)) ∧
      t.latched (R.TIM_NOW 2) = some (BitVec.ofNat 32 ((s.arrive ns).nowTs / 2 ^ 64)) ∧ t.mem = s.mem ∧ ∀ off, off ∉ irqRegs → t.rd off = s.rd off) ∧
  (∀ (s : State) (off ns : Nat), s.mode = .boot → accessOk off 1 = true → s.bootServes off = false →
    Gives (.rcCounterRead off) s (s.emit (.read off 0)) ∧ Gives (.lowWordReadLatch off 1 ns) s ((s.arrive ns).emit (.read off 0)))

/-- R27 and R28 (BAR2) and R61 (BAR4): the address is the command's own, and for BAR4 the aperture adds HQ_APER.BASE × 256 MiB. -/
def Obligations.WindowWrites : Prop :=
  -- BAR2_WRITE
  (∀ (s : State) (a ns : Nat) (bs : List Byte), 0x3A80000 ≤ a → a + bs.length ≤ 0x4000000 → bs ≠ [] →
    Gives (.bar2Write a bs ns) s ((s.arrive ns).sramPut a bs)) ∧
  (∀ (s : State) (a ns : Nat) (bs : List Byte), a + bs.length ≤ 0x2000000 → bs ≠ [] →
    Gives (.bar2Write a bs ns) s (if s.unlocked then (s.arrive ns).sramPut a bs else (s.arrive ns).inc R.GLB_LOCKVIOL 1)) ∧
  (∀ (s : State) (a ns : Nat) (bs : List Byte), (0x2400000 ≤ a ∧ a + bs.length ≤ 0x2580000 ∨ 0x2800000 ≤ a ∧ a + bs.length ≤ 0x2C00000 ∨
      0x3200000 ≤ a ∧ a + bs.length ≤ 0x3A80000) → Gives (.bar2Write a bs ns) s (s.arrive ns)) ∧
  (∀ (s : State) (a ns : Nat) (bs : List Byte), 0x4000000 < a + bs.length → Gives (.bar2Write a bs ns) s s) ∧
  -- BAR4_WRITE
  (∀ (s : State) (x ns : Nat) (b : Byte), x < 0x10000000 →
    let a := s.fld R.HQ_APER F.HQ_APER_BASE * 2 ^ 28 + x
    (a < s.fld R.GLB_DRAM_CAP F.GLB_DRAM_CAP_CAP * 2 ^ 20 → (s.dramRegionOf a = some 3 ∨ s.dramRegionOf a = some 5) →
      Gives (.bar4Write x [b] ns) s ((s.arrive ns).dramPut a [b])) ∧
    ((s.fld R.GLB_DRAM_CAP F.GLB_DRAM_CAP_CAP * 2 ^ 20 ≤ a ∨ s.dramRegionOf a = none ∨ s.dramRegionOf a = some 2 ∨ s.dramRegionOf a = some 4) →
      Gives (.bar4Write x [b] ns) s (s.arrive ns))) ∧
  ∀ (s : State) (x ns : Nat) (bs : List Byte), 0x10000000 < x + bs.length → Gives (.bar4Write x bs ns) s s

/-- The canonical form of the memories (Memory.wf), kept by the commands that write them from outside, and the frame of two such writes. -/
def Obligations.MemoryKeepsItsForm : Prop :=
  (∀ (s : State) (a ns : Nat) (bs : List Byte), s.mem.wf = true → 0x3A80000 ≤ a → a + bs.length ≤ 0x4000000 →
    Runs (.bar2Write a bs ns) s fun t => t.mem.wf = true ∧ t.sramBytes a bs.length = bs ∧
      (∀ k, k < a ∨ a + bs.length ≤ k → sget zeroByte k t.mem.sram = sget zeroByte k s.mem.sram) ∧
      t.mem.dram = s.mem.dram ∧ t.mem.host = s.mem.host) ∧
  (∀ (s : State) (a ns : Nat) (bs : List Byte), s.mem.wf = true → a + bs.length ≤ 0x2000000 →
    Runs (.bar2Write a bs ns) s fun t => t.mem.wf = true) ∧
  (∀ (s : State) (x ns : Nat) (b : Byte), s.mem.wf = true → x < 0x10000000 → Runs (.bar4Write x [b] ns) s fun t => t.mem.wf = true) ∧
  (∀ (s : State) (n off a ns : Nat) (bs : List Byte), s.mem.wf = true →
    Runs (.hostDmaCompletion n false off a bs ns) s fun t => t.mem.wf = true ∧ t.hostBytes a bs.length = bs ∧
      (∀ k, k < a ∨ a + bs.length ≤ k → sget zeroByte k t.mem.host = sget zeroByte k s.mem.host) ∧ t.mem.sram = s.mem.sram)

/-- R35 to R37, the end of an unlatched force-zero in R41 and R42, and R40 with the release of EMIT_EN_N of R39. -/
def Obligations.InterlockAndRelayInputs : Prop :=
  (
    -- ILK_INPUT_EDGE
    (∀ (s : State) (i ns : Nat) (high : Bool), i < 8 →
      Gives (.ilkInputEdge i high ns) s { s.arrive ns with glb := { s.glb with pins := setBit s.glb.pins i high } }) ∧
    -- ILK_HEALTHY_CONFIRMED
    (∀ (s : State) (i ns : Nat), i < 8 → bit s.glb.pins i = true →
      Gives (.ilkHealthyConfirmed i ns) s
        { (s.arrive ns).setFld R.GLB_ILK_STAT F.GLB_ILK_STAT_LEVEL (setBit (s.fld R.GLB_ILK_STAT F.GLB_ILK_STAT_LEVEL) i true) with
          glb := { s.glb with tripping := setBit s.glb.tripping i false } }) ∧
    -- ILK_TRIP_CONFIRMED of an input that is not used, or is tripped already
    (∀ (s : State) (i ns : Nat), i < 8 → bit s.glb.pins i = false →
      (bit (fget s.glb.ilkCfg F.GLB_ILK_CFG_USE) i = false ∨ bit s.glb.tripping i = true) →
      Gives (.ilkTripConfirmed i ns) s
        ((s.arrive ns).setFld R.GLB_ILK_STAT F.GLB_ILK_STAT_LEVEL (setBit (s.fld R.GLB_ILK_STAT F.GLB_ILK_STAT_LEVEL) i false))) ∧
    -- ILK_REARM_EXPIRY
    (∀ (s : State) (i ns : Nat), i < 8 → bit (s.fld R.GLB_ILK_STAT F.GLB_ILK_STAT_LEVEL) i = true → bit s.glb.force i = true → s.mode ≠ .hold →
      Gives (.ilkRearmExpiry i ns) s { s.arrive ns with glb := { s.glb with force := setBit s.glb.force i false } }) ∧
    -- no effect
    ∀ (s : State) (i ns : Nat), (8 ≤ i → Gives (.ilkInputEdge i true ns) s (s.arrive ns)) ∧
      ((8 ≤ i ∨ bit s.glb.pins i = true) → Gives (.ilkTripConfirmed i ns) s (s.arrive ns)) ∧
      ((8 ≤ i ∨ bit s.glb.pins i = false) → Gives (.ilkHealthyConfirmed i ns) s (s.arrive ns)) ∧
      (bit s.glb.force i = false → Gives (.ilkRearmExpiry i ns) s (s.arrive ns))) ∧
  -- RELAY_FEEDBACK_EDGE
  (∀ (s : State) (high : Bool) (ns : Nat), Runs (.relayFeedbackEdge high ns) s fun t =>
    t.glb.fbLow = !high ∧ t.fld R.GLB_ILK_STAT F.GLB_ILK_STAT_FB_OPEN = b2n high ∧ t.mode = s.mode ∧ t.forceZero = s.forceZero ∧
    (∀ off, off ∉ R.GLB_ILK_STAT :: irqRegs → t.rd off = s.rd off) ∧ (t.glb.mismatch = true → s.glb.mismatch = true)) ∧
  -- RELAY_MISMATCH
  (∀ (s : State) (ns : Nat), (s.fbEnabled = false ∨ s.glb.fbLow = s.emitEn) → Gives (.relayMismatch ns) s (s.arrive ns)) ∧
  ∀ (s : State) (ns : Nat), s.fbEnabled = true → s.glb.fbLow ≠ s.emitEn →
    Runs (.relayMismatch ns) s fun t => t.glb.mismatch = true ∧ t.emitEn = false ∧
      (safeFrom s.mode = true → t.mode = .safe ∧ t.fld R.GLB_SAFE_CAUSE F.GLB_SAFE_CAUSE_RELAY = 1 ∧ t.forceZero = true) ∧
      (safeFrom s.mode = false → t.mode = s.mode)

/-- R41 with the effects of R37 and the release of EMIT_EN_N of R39, for every state. -/
def Obligations.ClassSTrip : Prop :=
  ∀ (s : State) (i ns : Nat), i < 8 → bit s.glb.pins i = false → bit (fget s.glb.ilkCfg F.GLB_ILK_CFG_USE) i = true →
    bit (fget s.glb.ilkCfg F.GLB_ILK_CFG_CLASS) i = true → bit s.glb.tripping i = false →
    Runs (.ilkTripConfirmed i ns) s fun t =>
      t.forceZero = true ∧ t.emitEn = false ∧ bit (t.fld R.GLB_ILK_STAT F.GLB_ILK_STAT_LEVEL) i = false ∧
      bit (t.fld R.GLB_ILK_STAT F.GLB_ILK_STAT_TRIPPED) i = true ∧ t.rd (R.GLB_ILK_TRIPCNT i) = satAdd (s.rd (R.GLB_ILK_TRIPCNT i)) 1 ∧
      ((safeFrom s.mode = true ∨ s.mode = .safe) → t.mode = .safe ∧ t.glb.latched = true) ∧
      ((s.mode = .boot ∨ s.mode = .idle) → t.mode = s.mode ∧ t.glb.latched = s.glb.latched)

/-- R42 for every state. -/
def Obligations.ClassPTrip : Prop :=
  ∀ (s : State) (i ns : Nat), i < 8 → bit s.glb.pins i = false → bit (fget s.glb.ilkCfg F.GLB_ILK_CFG_USE) i = true →
    bit (fget s.glb.ilkCfg F.GLB_ILK_CFG_CLASS) i = false → bit s.glb.tripping i = false →
    Runs (.ilkTripConfirmed i ns) s fun t =>
      t.forceZero = true ∧ t.emitEn = false ∧ bit (t.fld R.GLB_ILK_STAT F.GLB_ILK_STAT_TRIPPED) i = true ∧ t.glb.latched = s.glb.latched ∧
      (s.runMode = true → t.mode = .hold ∧ t.glb.holdTrips = 2 ^ i ∧ t.glb.holdPaused = false) ∧
      (s.runMode = false → t.mode = s.mode)

/-- Table 2-4 and R47: the result code is the only effect of a refused operation. Result codes as in Table 3-7: WRONG_MODE 1, ILK_ACTIVE 2, NOT_READY 3, FAULT_PENDING 4, RELAY 5, BAD_PARAM 6. -/
def Obligations.ModeOperationRefusals : Prop :=
  let res (s : State) (op code : Nat) : State := s.wr R.GLB_MODE_RES (BitVec.ofNat 32 (op + 256 * code))
  -- BOOT
  (∀ s : State, s.mode = .boot → Gives .arm s s ∧ Gives .disarm s s ∧ Gives .start s s ∧ Gives .pause s s ∧ Gives .resume s s ∧
    Gives .abort s s ∧ Gives .enterService s s ∧ Gives .leaveService s s ∧ Gives .enterSafe s s ∧ Gives .clearSafe s s ∧
    Gives (.modeReqInvalidOp 11) s s) ∧
  -- WRONG_MODE
  (∀ s : State, s.mode ≠ .boot → (s.mode ≠ .idle ∨ s.lc ≠ 2) → Gives .arm s (res s 1 1)) ∧
  (∀ s : State, s.mode ≠ .boot → s.mode ≠ .armed → Gives .disarm s (res s 2 1) ∧ Gives .start s (res s 3 1)) ∧
  (∀ s : State, s.mode ≠ .boot → s.runMode = false → Gives .pause s (res s 4 1)) ∧
  (∀ s : State, s.mode ≠ .boot → s.mode ≠ .hold → Gives .resume s (res s 5 1)) ∧
  (∀ s : State, (s.mode = .safe ∨ s.mode = .service) → Gives .abort s (res s 6 1)) ∧
  (∀ s : State, s.mode ≠ .boot → s.mode ≠ .idle → Gives .enterService s (res s 7 1)) ∧
  (∀ s : State, s.mode ≠ .boot → s.mode ≠ .service → Gives .leaveService s (res s 8 1)) ∧
  (∀ s : State, s.mode = .safe → Gives .enterSafe s (res s 9 1)) ∧
  (∀ s : State, s.mode ≠ .boot → s.mode ≠ .safe → Gives .clearSafe s (res s 10 1)) ∧
  -- the first failing condition
  (∀ s : State, s.mode = .armed → s.ilkHealthy = false → Gives .start s (res s 3 2)) ∧
  (∀ s : State, s.mode = .hold → s.forceZero = true → Gives .resume s (res s 5 2)) ∧
  (∀ s : State, s.mode = .safe → s.ilkHealthy = false → Gives .clearSafe s (res s 10 2)) ∧
  (∀ s : State, s.mode = .safe → s.ilkHealthy = true → s.rd R.FLT_FATAL ≠ 0 → Gives .clearSafe s (res s 10 4)) ∧
  (∀ s : State, s.mode = .safe → s.ilkHealthy = true → s.rd R.FLT_FATAL = 0 → s.fbEnabled = true → s.glb.fbLow = true →
    Gives .clearSafe s (res s 10 5)) ∧
  -- MODE_REQ_INVALID_OP
  ∀ (s : State) (op : Nat), s.mode ≠ .boot → 11 ≤ op → op ≤ 15 → Gives (.modeReqInvalidOp op) s (res s op 6)

/-- The transitions of Table 2-4, with the result code DONE. -/
def Obligations.ModeOperations : Prop :=
  let res (t : State) (op : Nat) : Prop := t.rd R.GLB_MODE_RES = BitVec.ofNat 32 op
  (∀ s : State, s.mode = .idle → s.lc = 2 → s.latchIlk.ilkHealthy = true → s.rd R.FLT_FATAL = 0 →
    (∀ h < 24, s.headConfigured h = true → s.inService h = true) → s.expwin = false → s.cfgFail = none →
    Runs .arm s fun t => t.mode = .armed ∧ res t 1 ∧ t.glb.ilkCfg = s.rd R.GLB_ILK_CFG ∧ t.glb.ilkCfg2 = s.rd R.GLB_ILK_CFG2) ∧
  (∀ s : State, s.mode = .armed → Runs .disarm s fun t => t.mode = .idle ∧ res t 2) ∧
  (∀ s : State, s.mode = .armed → s.ilkHealthy = true → s.tsc.committed = true → (s.ntiles = 0 ∨ (s.tileD 0).cal = false) → s.expwin = false →
    Runs .start s fun t => (t.mode = .expose ∨ t.mode = .degraded) ∧ res t 3) ∧
  (∀ s : State, s.runMode = true → Runs .pause s fun t => t.mode = s.mode ∧ t.fld R.GLB_MODE F.GLB_MODE_PENDING = 1 ∧ res t 4) ∧
  (∀ s : State, s.mode = .hold → s.forceZero = false → Runs .resume s fun t => (t.mode = .expose ∨ t.mode = .degraded) ∧ res t 5) ∧
  (∀ s : State, (s.runMode = true ∨ s.mode = .hold) → Runs .abort s fun t => t.mode = .armed ∧ res t 6) ∧
  (∀ s : State, (s.mode = .idle ∨ s.mode = .armed) → Runs .abort s fun t => t.mode = s.mode ∧ res t 6) ∧
  (∀ s : State, s.mode = .idle → s.cfgFail = none → Runs .enterService s fun t => t.mode = .service ∧ res t 7) ∧
  (∀ s : State, s.mode = .service → (∀ h < 24, s.held h = none) → s.cal.kind ≠ 1 →
    Runs .leaveService s fun t => t.mode = .idle ∧ t.fld R.GLB_SVC_CTRL F.GLB_SVC_CTRL_EMIT_PERMIT = 0 ∧ res t 8) ∧
  (∀ s : State, s.mode ≠ .boot → s.mode ≠ .safe →
    Runs .enterSafe s fun t => t.mode = .safe ∧ t.forceZero = true ∧ t.emitEn = false ∧
      t.fld R.GLB_SAFE_CAUSE F.GLB_SAFE_CAUSE_HOST = 1 ∧ res t 9) ∧
  ∀ s : State, s.mode = .safe → s.ilkHealthy = true → s.rd R.FLT_FATAL = 0 → (s.fbEnabled = true → s.glb.fbLow = false) →
    Runs .clearSafe s fun t => t.mode = .idle ∧ t.glb.latched = false ∧ t.rd R.GLB_SAFE_CAUSE = s.rd R.GLB_SAFE_CAUSE ∧ res t 10

/-- R49 (PAUSE) and R168 (the run's end). -/
def Obligations.PauseAndRunEnd : Prop :=
  -- PAUSE_COMPLETE
  (∀ s : State, s.runMode = true → s.fld R.GLB_MODE F.GLB_MODE_PENDING ≠ 0 → (∀ h < 24, s.inVector h = false) →
    Runs .pauseComplete s fun t => t.mode = .hold ∧ t.fld R.GLB_MODE F.GLB_MODE_PENDING = 0 ∧ t.glb.holdPaused = true) ∧
  (∀ s : State, (s.runMode = false ∨ s.fld R.GLB_MODE F.GLB_MODE_PENDING = 0 ∨ ∃ h < 24, s.inVector h = true) → Gives .pauseComplete s s) ∧
  -- PAUSE_TIMEOUT
  (∀ (s : State) (ns : Nat), s.runMode = true → s.fld R.GLB_MODE F.GLB_MODE_PENDING ≠ 0 →
    s.glb.pauseAt + (s.fld R.GLB_PAUSE_CFG F.GLB_PAUSE_CFG_PAUSE_TMO + 1) * 1000 ≤ (s.arrive ns).now →
    Runs (.pauseTimeout ns) s fun t => t.mode = .hold ∧ t.fld R.GLB_MODE F.GLB_MODE_PENDING = 0) ∧
  (∀ (s : State) (ns : Nat), (s.arrive ns).now < s.glb.pauseAt + (s.fld R.GLB_PAUSE_CFG F.GLB_PAUSE_CFG_PAUSE_TMO + 1) * 1000 →
    Gives (.pauseTimeout ns) s (s.arrive ns)) ∧
  -- RUN_COMPLETE
  (∀ s : State, s.runMode = true → (∀ i < s.ntiles, finalState (s.tileState i) = true) → (∀ h < 24, s.held h = none) →
    Runs .runComplete s fun t => t.mode = .armed) ∧
  ∀ s : State, (s.runMode = false ∨ (∃ i < s.ntiles, finalState (s.tileState i) = false) ∨ ∃ h < 24, s.held h ≠ none) → Gives .runComplete s s

/-- R62 and R66. The refusal of PATH = 3 is the model's (log entry 13). -/
def Obligations.QueueConfiguration : Prop :=
  -- QUEUE_ENABLE
  (∀ (s : State) (q : Nat) (v : Word), q < 16 → s.mode ≠ .boot → fget v F.HQ_CFG_EN = 1 → s.fld (R.HQ_CFG q) F.HQ_CFG_EN = 0 →
    let w := v &&& 0x00FFE0FF#32
    (fget w F.HQ_CFG_SIZE ≠ 0 → fget w F.HQ_CFG_SIZE ≤ 64 → fget w F.HQ_CFG_PATH ≠ 3 →
      Gives (.queueEnable q v) s (((s.wr (R.HQ_CFG q) w).setFld (R.HQ_QSTAT q) F.HQ_QSTAT_EN 1).setFld (R.HQ_QSTAT q) F.HQ_QSTAT_ACTIVE 1)) ∧
    ((fget w F.HQ_CFG_SIZE = 0 ∨ 64 < fget w F.HQ_CFG_SIZE ∨ fget w F.HQ_CFG_PATH = 3) →
      Gives (.queueEnable q v) s ((s.wr (R.HQ_CFG q) (fput w F.HQ_CFG_EN 0)).setFld (R.HQ_QSTAT q) F.HQ_QSTAT_COMMIT_REJECT 1))) ∧
  (∀ (s : State) (q : Nat) (v : Word), q < 16 → s.mode ≠ .boot → fget v F.HQ_CFG_EN = 1 → s.fld (R.HQ_CFG q) F.HQ_CFG_EN = 1 →
    Gives (.queueEnable q v) s (s.setFld (R.HQ_QSTAT q) F.HQ_QSTAT_CFG_VIOL 1)) ∧
  -- QUEUE_DISABLE
  (∀ (s : State) (q : Nat) (v : Word), q < 16 → s.mode ≠ .boot → fget v F.HQ_CFG_EN = 0 →
    (s.fld (R.HQ_CFG q) F.HQ_CFG_EN = 1 →
      Gives (.queueDisable q v) s ((s.setFld (R.HQ_CFG q) F.HQ_CFG_EN 0).setFld (R.HQ_QSTAT q) F.HQ_QSTAT_EN 0)) ∧
    (s.fld (R.HQ_CFG q) F.HQ_CFG_EN = 0 → Gives (.queueDisable q v) s (s.wr (R.HQ_CFG q) (v &&& 0x00FFE0FF#32)))) ∧
  -- QUEUE_DRAIN_COMPLETE
  (∀ (s : State) (q : Nat), q < 16 → s.fld (R.HQ_CFG q) F.HQ_CFG_EN = 0 → s.fld (R.HQ_QSTAT q) F.HQ_QSTAT_ACTIVE = 1 →
    (s.hq.cmds.all fun c => c.queue ≠ q) = true →
    Gives (.queueDrainComplete q) s
      (((((s.wr (R.HQ_PTR q) (regReset (R.HQ_PTR q))).wr (R.HQ_SQ_TAIL q) 0).wr (R.HQ_CQ_HEAD q) 0).setFld (R.HQ_QSTAT q) F.HQ_QSTAT_ACTIVE 0).setQueue
        q Queue.reset)) ∧
  ∀ (s : State) (q : Nat) (c : Cmd), c ∈ s.hq.cmds → c.queue = q → c.journalOnly = false → Gives (.queueDrainComplete q) s s

/-- R63, with the activity that R87 counts. -/
def Obligations.Doorbells : Prop :=
  let seen (s : State) (ns : Nat) : State := { s.arrive ns with hq := { s.hq with hostAt := (s.arrive ns).now, hostOut := false } }
  let valid (s : State) (q i : Nat) : Prop :=
    s.fld (R.HQ_CFG q) F.HQ_CFG_EN = 1 ∧ s.fld (R.HQ_CFG q) F.HQ_CFG_PATH = 0 ∧ i < s.fld (R.HQ_CFG q) F.HQ_CFG_SIZE
  let wrong (s : State) (q i : Nat) : Prop :=
    s.fld (R.HQ_CFG q) F.HQ_CFG_EN = 0 ∨ s.fld (R.HQ_CFG q) F.HQ_CFG_PATH ≠ 0 ∨ s.fld (R.HQ_CFG q) F.HQ_CFG_SIZE ≤ i
  -- SQ_TAIL_DOORBELL
  (∀ (s : State) (q ns : Nat) (v : Word), q < 16 → s.mode ≠ .boot →
    (valid s q (fget v F.HQ_SQ_TAIL_INDEX) →
      Gives (.sqTailDoorbell q v ns) s ((seen s ns).setFld (R.HQ_SQ_TAIL q) F.HQ_SQ_TAIL_INDEX (fget v F.HQ_SQ_TAIL_INDEX))) ∧
    (wrong s q (fget v F.HQ_SQ_TAIL_INDEX) → Gives (.sqTailDoorbell q v ns) s ((seen s ns).setFld (R.HQ_QSTAT q) F.HQ_QSTAT_DB_ERR 1))) ∧
  -- CQ_HEAD_DOORBELL
  (∀ (s : State) (q ns : Nat) (v : Word), q < 16 → s.mode ≠ .boot →
    (valid s q (fget v F.HQ_CQ_HEAD_INDEX) →
      let size := s.fld (R.HQ_CFG q) F.HQ_CFG_SIZE
      let moved := (fget v F.HQ_CQ_HEAD_INDEX + size - s.fld (R.HQ_CQ_HEAD q) F.HQ_CQ_HEAD_INDEX % size) % size
      Gives (.cqHeadDoorbell q v ns) s
        (((seen s ns).setFld (R.HQ_CQ_HEAD q) F.HQ_CQ_HEAD_INDEX (fget v F.HQ_CQ_HEAD_INDEX)).setQueue q
          { s.queue q with cqUsed := (s.queue q).cqUsed - moved })) ∧
    (wrong s q (fget v F.HQ_CQ_HEAD_INDEX) → Gives (.cqHeadDoorbell q v ns) s ((seen s ns).setFld (R.HQ_QSTAT q) F.HQ_QSTAT_DB_ERR 1))) ∧
  -- HOST_WATCHDOG_KICK
  ∀ (s : State) (ns : Nat), s.mode ≠ .boot → Gives (.hostWatchdogKick ns) s (seen s ns)

/-- R87's expiry and its three actions. -/
def Obligations.HostWatchdog : Prop :=
  (∀ (s : State) (ns : Nat), s.mode ≠ .boot → s.fld R.HQ_HOSTWD F.HQ_HOSTWD_TMO ≠ 0 → s.hq.hostOut = false →
    s.hq.hostAt + s.fld R.HQ_HOSTWD F.HQ_HOSTWD_TMO * 1000000 ≤ (s.arrive ns).now →
    Runs (.hostWatchdogExpiry ns) s fun t => t.fld R.HQ_STAT F.HQ_STAT_HOSTWD = 1 ∧ t.hq.hostOut = true ∧
      (s.fld R.HQ_HOSTWD F.HQ_HOSTWD_ACTION = 0 → t.mode = s.mode ∧ t.fld R.GLB_MODE F.GLB_MODE_PENDING = s.fld R.GLB_MODE F.GLB_MODE_PENDING) ∧
      (s.fld R.HQ_HOSTWD F.HQ_HOSTWD_ACTION = 1 → t.mode = s.mode ∧ (s.runMode = true → t.fld R.GLB_MODE F.GLB_MODE_PENDING = 1)) ∧
      (s.fld R.HQ_HOSTWD F.HQ_HOSTWD_ACTION = 2 → t.mode = .safe)) ∧
  (∀ (s : State) (ns : Nat), (s.mode = .boot ∨ s.fld R.HQ_HOSTWD F.HQ_HOSTWD_TMO = 0 ∨
      (s.arrive ns).now < s.hq.hostAt + s.fld R.HQ_HOSTWD F.HQ_HOSTWD_TMO * 1000000) →
    Gives (.hostWatchdogExpiry ns) s (s.arrive ns))

/-- R64, R67, R72, R73 and R80: one fetch. `pickQueue` is the arbitration of R73, whose first rule the last clause states. -/
def Obligations.DescriptorFetch : Prop :=
  (∀ (s : State) (ns q : Nat) (h : Hq), q < 16 → s.pwr.pfailAt = none → s.handoverDue = [] → s.pickQueue = some (q, h) → s.journalBusy = false →
    s.lastSeq + 1 < 2 ^ 64 → s.fld (R.HQ_CFG q) F.HQ_CFG_PATH = 0 →
    let base := (s.rd (R.HQ_SQ_BASE_LO q)).toNat + (s.rd (R.HQ_SQ_BASE_HI q)).toNat * 2 ^ 32
    let slot := s.fld (R.HQ_PTR q) F.HQ_PTR_SQ_HEAD
    let c : Cmd :=
      { seq := s.lastSeq + 1, queue := q, path := 0, slot := slot, epochAt := s.fld R.HQ_STAT F.HQ_STAT_EPOCH,
        words := wordsOf (s.hostBytes (base + 64 * slot) 64), started := false, late := false, tAccept := (s.arrive ns).nowTs, tStart := 0,
        wait := .run, journalOnly := false }
    Runs (.descriptorFetch ns) s fun t =>
      t.lastSeq = s.lastSeq + 1 ∧ t.fld (R.HQ_PTR q) F.HQ_PTR_SQ_HEAD = (slot + 1) % s.fld (R.HQ_CFG q) F.HQ_CFG_SIZE ∧
      (refusal s c = none → t.hq.cmds = s.hq.cmds ++ [c] ∧
        t.sramBytes (0x3400000 + 64 * (c.seq % 4096)) 64 = journalEntry c 0 0 0 0 (c.arg 0)) ∧
      (∀ code, refusal s c = some code → ∀ d ∈ t.hq.cmds, d.seq ≠ c.seq)) ∧
  (∀ (s : State) (ns q : Nat) (h : Hq), s.pwr.pfailAt = none → s.handoverDue = [] → s.pickQueue = some (q, h) → s.journalBusy = true →
    Gives (.descriptorFetch ns) s ((s.arrive ns).inc R.HQ_JRN_STALL 1)) ∧
  (∀ (s : State) (ns : Nat), (s.pwr.pfailAt ≠ none ∨ s.handoverDue ≠ [] ∨ s.pickQueue = none) → Gives (.descriptorFetch ns) s (s.arrive ns)) ∧
  ∀ (s : State) (q p : Nat) (h : Hq), s.pickQueue = some (q, h) → p < 16 → s.fetchable p = true → s.prio p = 3 → s.prio q = 3

/-- R74 and R75. The bound of 1 ns for lateness is the model's (log entry 13). -/
def Obligations.CommandsStart : Prop :=
  let free (s : State) (c : Cmd) : Prop := c.started = false ∧
    (∀ d ∈ s.hq.cmds, d.queue = c.queue → d.seq < c.seq → d.started = true ∧ c.fence = false) ∧
    (c.barrier = true → ∀ d ∈ s.hq.cmds, c.seq ≤ d.seq)
  let begun (s : State) (c : Cmd) (late : Bool) : State :=
    let d := { c with started := true, late := late, tStart := s.nowTs }
    (s.putCmd d).journal d 1 0 0 0 (c.arg 0)
  -- COMMAND_START
  (∀ (s : State) (n ns : Nat) (c : Cmd), s.cmd n = some c → s.handoverDue = [] → (c.timed = false ∨ c.op = 0x02) →
    (free s c → Gives (.commandStart n ns) s (begun (s.arrive ns) c false)) ∧
    (¬ free s c → Gives (.commandStart n ns) s (s.arrive ns))) ∧
  -- TIMED_COMMAND_START
  ∀ (s : State) (n ns : Nat) (c : Cmd), s.cmd n = some c → s.handoverDue = [] → c.timed = true → c.op ≠ 0x02 →
    let at_ := extendTs c.at64 (tsFine c.tAccept / 65536)
    let now : Int := ((s.arrive ns).now : Int) * 65536
    (free s c → at_ ≤ now → Gives (.timedCommandStart n ns) s (begun (s.arrive ns) c (decide (at_ + 65536 ≤ now)))) ∧
    ((¬ free s c ∨ now < at_) → Gives (.timedCommandStart n ns) s (s.arrive ns))

/-- R68, R417, R418 and R423: the checks every opcode shares, as one list of the commands that act by them. -/
def Obligations.SharedChecks : Prop :=
  ∀ (s : State) (n : Nat) (p : Nat × Instr),
    p ∈ [(0x00, Instr.nop 0 n), (0x01, .mode n), (0x02, .commit n), (0x03, .writeRegs n), (0x04, .readRegs n), (0x08, .loadProgram n),
      (0x09, .loadTiles n), (0x0A, .loadTable n), (0x0B, .commitLayer n), (0x10, .waymarkLoad n), (0x11, .productPush n), (0x12, .medium n),
      (0x18, .timeStep n), (0x19, .timeAsym n), (0x20, .recordRead n), (0x21, .traceRead n), (0x22, .journalMark n), (0x28, .calibrate n),
      (0x30, .unitReset n), (0x31, .headAuth n), (0x32, .fwUpdate n), (0x38, .cancel n)] →
    ∀ c : Cmd, s.cmd n = some c → c.started = true → c.wait = .run → c.op = p.1 →
      (s.flt.mcpHealthy = 0 → ¬ (c.op = 0x30 ∧ (c.target = 1 ∨ c.target = 2)) → Gives p.2 s (s.endCmd c St.notReady 0 0)) ∧
      (s.flt.mcpHealthy ≠ 0 → opMode c s.mode = false → Gives p.2 s (s.endCmd c St.wrongMode 0 0)) ∧
      (s.flt.mcpHealthy ≠ 0 → opMode c s.mode = true → c.epochChk = true →
        (epochPlace (epochTarget c) = none → Gives p.2 s (s.endCmd c St.badParam 0 0)) ∧
        (∀ r f, epochPlace (epochTarget c) = some (r, f) → s.fld r f ≠ c.expEpoch → Gives p.2 s (s.endCmd c St.staleEpoch 0 0)))

/-- Table 3-4, Table 3-9, R64, R65, R80 and R81: what the end of a command writes. -/
def Obligations.CommandEnd : Prop :=
  -- NOP and JOURNAL_MARK end with DONE
  (∀ (s : State) (n : Nat) (c : Cmd), s.ready n 0x00 c → Gives (.nop 0 n) s (s.endCmd c St.done 0 0)) ∧
  (∀ (s : State) (n : Nat) (c : Cmd), s.ready n 0x22 c → Gives (.journalMark n) s (s.endCmd c St.done (c.arg 0) 0)) ∧
  -- the end of a command
  (∀ (s : State) (c : Cmd) (result detail : Nat),
    (s.endCmd c St.done result detail).sramBytes (0x3400000 + 64 * (c.seq % 4096)) 64 =
        journalEntry c 2 St.done s.nowTs result (if c.op = 0x22 then c.arg 1 else c.arg 0) ∧
    (s.endCmd c St.done result detail).hq.cmds = s.hq.cmds.filter (fun d => d.seq ≠ c.seq)) ∧
  (∀ (s : State) (c : Cmd) (result detail : Nat), c.path = 0 → c.queue < 16 → c.journalOnly = false → c.noCq = false → c.irq = false →
    s.fld (R.HQ_CFG c.queue) F.HQ_CFG_IRQ_ALL = 0 → 0 < s.fld (R.HQ_CFG c.queue) F.HQ_CFG_SIZE → s.fld (R.HQ_CFG c.queue) F.HQ_CFG_SIZE ≤ 64 →
    let q := c.queue
    let size := s.fld (R.HQ_CFG q) F.HQ_CFG_SIZE
    let tail := s.fld (R.HQ_PTR q) F.HQ_PTR_CQ_TAIL
    let p := s.fld (R.HQ_PTR q) F.HQ_PTR_CQ_P
    let t := s.endCmd c St.done result detail
    t.hostBytes ((s.rd (R.HQ_CQ_BASE_LO q)).toNat + (s.rd (R.HQ_CQ_BASE_HI q)).toNat * 2 ^ 32 + 16 * tail) 16 =
        completionEntry c size St.done result p ∧
    t.fld (R.HQ_PTR q) F.HQ_PTR_CQ_TAIL = (tail + 1) % size ∧
    t.fld (R.HQ_PTR q) F.HQ_PTR_CQ_P = (if tail + 1 = size then 1 - p else p) ∧ t.out = s.out ∧ t.mode = s.mode) ∧
  ∀ (s : State) (c : Cmd) (result detail : Nat), c.noCq = true →
    (s.endCmd c St.done result detail).rd (R.HQ_PTR c.queue) = s.rd (R.HQ_PTR c.queue) ∧ (s.endCmd c St.done result detail).out = s.out

/-- R71, whole: the first of the commands in flight with that queue and tag that has not started is the target. -/
def Obligations.CancelOfACommand : Prop :=
  (∀ (s : State) (n : Nat) (c d : Cmd) (before after : List Cmd), s.ready n 0x38 c → s.hq.cmds = before ++ d :: after →
    (∀ x ∈ before, ¬ (x.queue = c.arg 0 ∧ x.tag = c.arg 1 ∧ x.started = false)) →
    d.queue = c.arg 0 → d.tag = c.arg 1 → d.started = false →
    Gives (.cancel n) s ((s.endCmd d St.aborted 0 0).endCmd c St.done 1 0)) ∧
  ∀ (s : State) (n : Nat) (c : Cmd), s.ready n 0x38 c →
    (∀ x ∈ s.hq.cmds, x.queue = c.arg 0 → x.tag = c.arg 1 → x.started = true) →
    Gives (.cancel n) s (s.endCmd c St.done 0 0)

/-- R58 (what the link reset changes and leaves) and R59. -/
def Obligations.HostLink : Prop :=
  -- PCIE_LINK_RESET
  (∀ (s : State) (ns : Nat), Runs (.pcieLinkReset ns) s fun t =>
    t.fld R.HQ_STAT F.HQ_STAT_EPOCH = (s.fld R.HQ_STAT F.HQ_STAT_EPOCH + 1) % 16 ∧
    (∀ q < 16, t.fld (R.HQ_CFG q) F.HQ_CFG_EN = 0) ∧ t.fld R.HQ_JRN_CTRL F.HQ_JRN_CTRL_MIR_EN = 0 ∧
    (∀ d ∈ t.hq.cmds, d.started = true ∧ d.journalOnly = true) ∧ t.mode = s.mode ∧ t.tsc = s.tsc ∧ t.seqs = s.seqs ∧ t.bld = s.bld ∧
    t.cen = s.cen ∧ t.lnk = s.lnk ∧ t.maps = s.maps ∧ t.cams = s.cams ∧ t.tim = s.tim ∧ t.axf = s.axf ∧ t.mem.dram = s.mem.dram) ∧
  -- HOST_DMA_COMPLETION
  (∀ (s : State) (n off a ns : Nat) (bs : List Byte), Gives (.hostDmaCompletion n false off a bs ns) s ((s.arrive ns).hostPut a bs)) ∧
  (∀ (s : State) (n off a ns : Nat) (bs : List Byte) (c : Cmd), s.cmd n = some c → c.started = true → c.path = 0 → c.wait = .run →
    dataOp c.op = true → off < c.len →
    (s.hq.sbc.all fun j => j.seq ≠ c.seq) = true →
    Gives (.hostDmaCompletion n true off a bs ns) s ((s.arrive ns).endJob c St.dmaError 0 off)) ∧
  ∀ (s : State) (n off a ns : Nat) (bs : List Byte) (c : Cmd), s.cmd n = some c → (c.started = false ∨ c.path ≠ 0 ∨ c.len ≤ off) →
    Gives (.hostDmaCompletion n true off a bs ns) s (s.arrive ns)

/-- R84, for a datagram that R83 lets in. `ackTo` is the host's own acknowledgement in the datagram's header (R86). -/
def Obligations.SubmitInOrder : Prop :=
  ∀ (s : State) (p ns : Nat) (bs : List Byte), s.portUp p = true → s.mode ≠ .boot → hdr bs 1 1 = 1 →
    let a := (s.arrive ns).rxOk p
    a.datagramOk p bs = true →
    let q := hdr bs 2 1 % 16
    let b := a.ackTo q (hdr bs 8 4)
    let last := (b.queue q).rxSeq
    let ahead := (BitVec.ofNat 32 (hdr bs 4 4) - BitVec.ofNat 32 last).toNat
    (∀ k, hdr bs 3 1 = k → k ≤ 16 → bs.length = 32 + 64 * k → ahead = 1 →
      Runs (.submitDatagram p bs ns) s fun t =>
        (t.queue q).posted = (b.queue q).posted ++ (List.range k).map (fun i => wordsOf (((bs.drop 16).drop (64 * i)).take 64)) ∧
        (t.queue q).rxSeq = hdr bs 4 4 ∧ t.out.head? = some (.datagram p 2 q 0 (hdr bs 4 4) 0 []) ∧ t.hq.cmds = s.hq.cmds) ∧
    ((ahead = 0 ∨ 2 ^ 31 ≤ ahead) → Gives (.submitDatagram p bs ns) s (b.ethSend p (.datagram p 2 q 0 last 0 []))) ∧
    (2 ≤ ahead → ahead < 2 ^ 31 → Gives (.submitDatagram p bs ns) s (b.inc R.HQ_ETH_SEQDROP 1))

/-- R83, R85 and R86. -/
def Obligations.ManagementDatagrams : Prop :=
  (∀ (s : State) (p ns : Nat) (bs : List Byte), s.portUp p = true → s.mode ≠ .boot →
    let a := (s.arrive ns).rxOk p
    let q := hdr bs 2 1 % 16
    let b := a.ackTo q (hdr bs 8 4)
    let x := hdr bs 12 4
    let body := (bs.drop 16).take (bs.length - 32)
    (a.datagramOk p bs = true →
      (hdr bs 1 1 = 2 → Gives (.ackDatagram p bs ns) s b) ∧
      (hdr bs 1 1 = 4 → body.length ≤ 1024 → x + body.length ≤ (b.dramRegion 5).2 →
        Gives (.memwriteDatagram p bs ns) s (b.dramPut ((b.dramRegion 5).1 + x) body)) ∧
      (hdr bs 1 1 = 5 → ∀ n, Gives (.memreadDatagram p bs n ns) s
        (b.ethSend p (.datagram p 6 q 0 (b.queue q).rxSeq x ((List.range (min n 1024)).map fun i => b.memByte (x + i)))))) ∧
    (a.datagramOk p bs = false →
      (hdr bs 1 1 = 1 → Gives (.submitDatagram p bs ns) s (a.inc R.HQ_ETH_AUTHDROP 1)) ∧
      (hdr bs 1 1 = 2 → Gives (.ackDatagram p bs ns) s (a.inc R.HQ_ETH_AUTHDROP 1)) ∧
      (hdr bs 1 1 = 4 → Gives (.memwriteDatagram p bs ns) s (a.inc R.HQ_ETH_AUTHDROP 1)) ∧
      (hdr bs 1 1 = 5 → ∀ n, Gives (.memreadDatagram p bs n ns) s (a.inc R.HQ_ETH_AUTHDROP 1)))) ∧
  -- COMPLETE_RETRANSMIT
  (∀ (s : State) (q ns : Nat) (u : EthComplete), q < 16 → (s.fld (R.HQ_CFG q) F.HQ_CFG_PATH = 1 ∨ s.fld (R.HQ_CFG q) F.HQ_CFG_PATH = 2) →
    (s.queue q).unacked = [u] → u.sentAt + (s.fld R.HQ_ETH_CFG F.HQ_ETH_CFG_RTO + 1) * 100000 ≤ (s.arrive ns).now →
    (u.repeats < s.fld R.HQ_ETH_CFG F.HQ_ETH_CFG_RETRY →
      let p := s.fld (R.HQ_CFG q) F.HQ_CFG_PATH - 1
      Gives (.completeRetransmit q ns) s (((s.arrive ns).ethSend p (.datagram p 3 q u.dseq (s.queue q).rxSeq 0 u.entry)).setQueue q
        { s.queue q with unacked := [{ u with repeats := u.repeats + 1, sentAt := (s.arrive ns).now }] })) ∧
    (s.fld R.HQ_ETH_CFG F.HQ_ETH_CFG_RETRY ≤ u.repeats →
      Gives (.completeRetransmit q ns) s (((s.arrive ns).setQueue q { s.queue q with unacked := [] }).setFld (R.HQ_QSTAT q) F.HQ_QSTAT_LOST 1)))

/-- R92 and R101 as integer arithmetic. `alu` takes the opcode, MOD.A, the C flag and the two operands. -/
def Obligations.AluResults : Prop :=
  ∀ (ar c : Bool) (a b : Word),
    let add := alu 0x10 ar c a b
    let sub := alu 0x11 ar c a b
    let shl := alu 0x15 ar c a b
    let shr := alu 0x16 false c a b
    let sar := alu 0x16 true c a b
    let cmp := alu 0x17 ar c a b
    let k := b.toNat % 64
    (add.val.toNat + (if add.c then 2 ^ 32 else 0) = a.toNat + b.toNat) ∧
    (sub.val.toNat + b.toNat = a.toNat + (if sub.c then 2 ^ 32 else 0)) ∧
    ((alu 0x12 ar c a b).val = a &&& b ∧ (alu 0x13 ar c a b).val = a ||| b ∧ (alu 0x14 ar c a b).val = a ^^^ b) ∧
    (∀ op ∈ [0x12, 0x13, 0x14], (alu op ar c a b).c = c) ∧
    (shl.val.toNat = a.toNat * 2 ^ k % 2 ^ 32 ∧ (shl.c = true ↔ k ≠ 0 ∧ a.toNat * 2 ^ k / 2 ^ 32 % 2 = 1)) ∧
    (shr.val.toNat = a.toNat / 2 ^ k ∧ (shr.c = true ↔ k ≠ 0 ∧ a.toNat / 2 ^ (k - 1) % 2 = 1)) ∧
    (sar.val.toInt = a.toInt / 2 ^ k ∧ (sar.c = true ↔ k ≠ 0 ∧ a.toInt / 2 ^ (k - 1) % 2 = 1)) ∧
    (∀ op ∈ [0x10, 0x11, 0x12, 0x13, 0x14, 0x15, 0x16],
      ((alu op ar c a b).z = true ↔ (alu op ar c a b).val.toNat = 0) ∧ ((alu op ar c a b).n = true ↔ 2 ^ 31 ≤ (alu op ar c a b).val.toNat)) ∧
    ((cmp.z = true ↔ a.toNat = b.toNat) ∧ (cmp.n = true ↔ a.toInt < b.toInt) ∧ (cmp.c = true ↔ a.toNat < b.toNat))

/-- The register-format instructions on both classes of program. `alu` is AluResults; `reg` is Table 4-1 and `opB` the second operand, IMM with MOD.I. -/
def Obligations.RegisterInstructions : Prop :=
  -- beam sequencers
  (∀ (s : State) (n : Nat) (i : Iw) (p : Nat × Instr), s.issues n i → i.op = p.1 →
    p ∈ [(0x10, Instr.add (0x100 + n)), (0x11, .sub (0x100 + n)), (0x12, .and (0x100 + n)), (0x13, .orr (0x100 + n)), (0x14, .xor (0x100 + n)),
      (0x15, .shl (0x100 + n)), (0x16, .shr (0x100 + n))] →
    let q := (s.seq n).spend i.len
    (∀ a b, q.reg i.ga = .ok a → q.opB i = .ok b →
      (i.gd < 16 →
        let r := alu i.op (i.md 11) q.arch.fc a b
        Gives p.2 s (s.setSeq n { q with arch := { q.arch with
          g := q.arch.g.set i.gd r.val, pc := q.arch.pc + 1, fz := if i.md 12 then q.arch.fz else r.z,
          fn := if i.md 12 then q.arch.fn else r.n, fc := if i.md 12 then q.arch.fc else r.c } })) ∧
      (i.gd ∈ [16, 17, 18, 24, 25, 26, 27, 28, 29, 30, 31] → Gives p.2 s (s.progFault n Pf.illegalReg))) ∧
    (28 ≤ i.ga → Gives p.2 s (s.progFault n Pf.illegalReg))) ∧
  (∀ (s : State) (n : Nat) (i : Iw), s.issues n i → i.op = 0x17 →
    let q := (s.seq n).spend i.len
    (∀ a b, q.reg i.ga = .ok a → q.opB i = .ok b →
      let r := alu 0x17 false q.arch.fc a b
      Gives (.cmp (0x100 + n)) s (s.setSeq n { q with arch := { q.arch with pc := q.arch.pc + 1, fz := r.z, fn := r.n, fc := r.c } })) ∧
    (28 ≤ i.ga → Gives (.cmp (0x100 + n)) s (s.progFault n Pf.illegalReg))) ∧
  -- control engines
  (∀ (s : State) (e : Nat) (x : Eval) (i : Iw) (p : Nat × Instr), s.evaluates e x i → i.op = p.1 → i.gd < 16 →
    p ∈ [(0x10, Instr.add (0x400 + e)), (0x11, .sub (0x400 + e)), (0x12, .and (0x400 + e)), (0x13, .orr (0x400 + e)), (0x14, .xor (0x400 + e)),
      (0x15, .shl (0x400 + e)), (0x16, .shr (0x400 + e))] →
    let r := alu i.op (i.md 11) x.fc (s.creg x i.ga) (s.copB x i)
    Gives p.2 s (s.setEval e (some { x with
      g := x.g.set i.gd r.val, pc := x.pc + i.len, issued := x.issued + 1, fz := if i.md 12 then x.fz else r.z,
      fn := if i.md 12 then x.fn else r.n, fc := if i.md 12 then x.fc else r.c }))) ∧
  ∀ (s : State) (e : Nat) (x : Eval) (i : Iw), s.evaluates e x i → i.op = 0x17 →
    let r := alu 0x17 false x.fc (s.creg x i.ga) (s.copB x i)
    Gives (.cmp (0x400 + e)) s (s.setEval e (some { x with pc := x.pc + i.len, issued := x.issued + 1, fz := r.z, fn := r.n, fc := r.c }))

/-- R100 and R102, with the writes to the special registers of R88 and R89. -/
def Obligations.LoadsAndStores : Prop :=
  (∀ (s : State) (n : Nat) (i : Iw), s.issues n i →
    let q := (s.seq n).spend i.len
    let fault (c : Instr) (code : Nat) : Prop := Gives c s (s.progFault n code)
    let lands (c : Instr) (x : Seq) : Prop := Gives c s (s.setSeq n { x with arch := { x.arch with pc := x.arch.pc + 1 } })
    let a := (q.arch.g.getD i.ga 0 + BitVec.ofNat 32 i.hi).toNat
    -- LDI
    (i.op = 0x08 →
      let v : Word := BitVec.ofNat 32 i.hi
      (i.gd < 16 → lands (.ldi (0x100 + n)) { q with arch := { q.arch with g := q.arch.g.set i.gd v } }) ∧
      (i.gd = 19 → lands (.ldi (0x100 + n)) { q with arch := { q.arch with speed := v.toNat } }) ∧
      (i.gd = 20 → lands (.ldi (0x100 + n)) { q with arch := { q.arch with jspeed := v.toNat } }) ∧
      (i.gd = 21 → if v.toNat ≤ 65535 then lands (.ldi (0x100 + n)) (q.setLevel v.toNat) else fault (.ldi (0x100 + n)) Pf.badOperand) ∧
      (i.gd = 22 → if v.toNat ≤ 255 then lands (.ldi (0x100 + n)) ({ q with arch := { q.arch with mask := v.toNat } } : Seq).mark
        else fault (.ldi (0x100 + n)) Pf.badOperand) ∧
      (i.gd = 23 → if v.toNat ≤ 15 then lands (.ldi (0x100 + n)) ({ q with arch := { q.arch with region := v.toNat } } : Seq).mark
        else fault (.ldi (0x100 + n)) Pf.badOperand) ∧
      (i.gd ∈ [16, 17, 18, 24, 25, 26, 27, 28, 29, 30, 31] → fault (.ldi (0x100 + n)) Pf.illegalReg)) ∧
    -- LD
    (i.op = 0x09 → i.gd < 16 →
      (i.ga < 16 → i.md 10 = false → if a ≤ 255
        then lands (.ld (0x100 + n)) { q with arch := { q.arch with g := q.arch.g.set i.gd (sget (fun _ => 0) a q.arch.scratch) } }
        else fault (.ld (0x100 + n)) Pf.memRange) ∧
      (i.ga < 16 → i.md 10 = true → if a ≤ 8388607
        then lands (.ld (0x100 + n)) { q with arch := { q.arch with g := q.arch.g.set i.gd (BitVec.ofNat 32 (s.sramNat (4 * a) 4)) } }
        else fault (.ld (0x100 + n)) Pf.memRange) ∧
      (16 ≤ i.ga → fault (.ld (0x100 + n)) Pf.illegalReg)) ∧
    -- ST
    (i.op = 0x0A →
      (∀ v, i.ga < 16 → q.reg i.gd = .ok v → if i.md 10 = false ∧ a ≤ 255
        then lands (.st (0x100 + n)) { q with arch := { q.arch with scratch := sput (fun _ => 0) a v q.arch.scratch } }
        else fault (.st (0x100 + n)) Pf.memRange) ∧
      (16 ≤ i.ga → fault (.st (0x100 + n)) Pf.illegalReg)) ∧
    -- NOP
    (i.op = 0x00 → ∀ m, Gives (.nop (0x100 + n) m) s (s.setSeq n { q with arch := { q.arch with pc := q.arch.pc + i.len } }))) ∧
  -- control engines
  ∀ (s : State) (e : Nat) (x : Eval) (i : Iw), s.evaluates e x i →
    (i.op = 0x08 → i.gd < 16 → Gives (.ldi (0x400 + e)) s
      (s.setEval e (some { x with g := x.g.set i.gd (BitVec.ofNat 32 i.hi), pc := x.pc + i.len, issued := x.issued + 1 }))) ∧
    (i.op = 0x00 → ∀ m, Gives (.nop (0x400 + e) m) s (s.setEval e (some { x with pc := x.pc + i.len, issued := x.issued + 1 })))

/-- R103 with Table 4-9. -/
def Obligations.Branches : Prop :=
  let holds (cond : Nat) (z n c w t : Bool) : Prop :=
    match cond with
    | 0 => True
    | 1 => z = true
    | 2 => z = false
    | 3 => n = true
    | 4 => n = false
    | 5 => c = true
    | 6 => c = false
    | 7 => w = true
    | 8 => w = false
    | 9 => t = true
    | 10 => t = false
    | 11 => z = true ∨ n = true
    | 12 => z = false ∧ n = false
    | _ => False
  (∀ (s : State) (n : Nat) (i : Iw), s.issues n i →
    let q := (s.seq n).spend i.len
    let at_ (c : Instr) (x : Seq) (pc : Int) : Prop :=
      if 0 ≤ pc ∧ pc < 4194304 then Gives c s (s.setSeq n { x with arch := { x.arch with pc := pc.toNat } }) else Gives c s (s.progFault n Pf.pcRange)
    let go (c : Instr) (x : Seq) : Prop := Gives c s (s.setSeq n { x with arch := { x.arch with pc := q.arch.pc + 1 } })
    let lands : Int := (q.arch.pc : Int) + sgn 32 i.hi
    let cond := bits i.base 19 16
    let gc := bits i.base 24 20
    let v := q.arch.g.getD gc 0
    (i.op = 0x20 → at_ (.br (0x100 + n)) q lands) ∧
    (i.op = 0x21 →
      (holds cond q.arch.fz q.arch.fn q.arch.fc q.arch.fw q.arch.ft → at_ (.brc (0x100 + n)) q lands) ∧
      (cond ≤ 12 → ¬ holds cond q.arch.fz q.arch.fn q.arch.fc q.arch.fw q.arch.ft → go (.brc (0x100 + n)) q) ∧
      (13 ≤ cond → Gives (.brc (0x100 + n)) s (s.progFault n Pf.illegalInstr))) ∧
    (i.op = 0x22 →
      (q.arch.stack.length < 8 → at_ (.cal (0x100 + n)) { q with arch := { q.arch with stack := (q.arch.pc + 1) :: q.arch.stack } } lands) ∧
      (8 ≤ q.arch.stack.length → Gives (.cal (0x100 + n)) s (s.progFault n Pf.stack))) ∧
    (i.op = 0x23 →
      (∀ r l, q.arch.stack = r :: l → Gives (.ret (0x100 + n)) s (s.setSeq n { q with arch := { q.arch with pc := r, stack := l } })) ∧
      (q.arch.stack = [] → Gives (.ret (0x100 + n)) s (s.progFault n Pf.stack))) ∧
    (i.op = 0x24 → gc < 16 →
      (v = 0 → go (.lop (0x100 + n)) q) ∧
      (v = 1 → go (.lop (0x100 + n)) { q with arch := { q.arch with g := q.arch.g.set gc 0 } }) ∧
      (v ≠ 0 → v ≠ 1 → at_ (.lop (0x100 + n)) { q with arch := { q.arch with g := q.arch.g.set gc (v - 1) } } lands))) ∧
  ∀ (s : State) (e : Nat) (x : Eval) (i : Iw), s.evaluates e x i →
    let lands (c : Instr) (pc : Nat) : Prop := Gives c s (s.setEval e (some { x with pc := pc, issued := x.issued + 1 }))
    let there : Nat := ((x.pc : Int) + sgn 32 i.hi).toNat
    let cond := bits i.base 19 16
    (i.op = 0x20 → lands (.br (0x400 + e)) there) ∧
    (i.op = 0x21 →
      (holds cond x.fz x.fn x.fc x.fw x.ft → lands (.brc (0x400 + e)) there) ∧
      (cond ≤ 12 → ¬ holds cond x.fz x.fn x.fc x.fw x.ft → lands (.brc (0x400 + e)) (x.pc + i.len)))

/-- R109 to R112. `mark` records the attributes from the slot at the cursor on. -/
def Obligations.DoseInstructions : Prop :=
  ∀ (s : State) (n : Nat) (i : Iw), s.issues n i →
    let q := (s.seq n).spend i.len
    let lands (c : Instr) (k : Nat) (x : Seq) : Prop := Gives c s (s.setSeq n { x with arch := { x.arch with pc := q.arch.pc + k } })
    let fault (c : Instr) (code : Nat) : Prop := Gives c s (s.progFault n code)
    -- PWR
    (i.op = 0x38 →
      let lv := i.md 10
      let mk := i.md 11
      let rc := i.md 12
      let arch := { q.arch with
        mask := if mk then bits i.base 39 32 else q.arch.mask, region := if rc then bits i.base 43 40 else q.arch.region,
        level := if lv then bits i.base 31 16 else q.arch.level, ramp := if lv then Ramp.none else q.arch.ramp }
      (lv || mk || rc) = true → lands (.pwr (0x100 + n)) 1 ({ q with arch := arch } : Seq).mark) ∧
    (i.op = 0x38 → (i.md 10 || i.md 11 || i.md 12) = false → lands (.pwr (0x100 + n)) 1 q) ∧
    -- RMP without WAIT
    (i.op = 0x39 → i.md 10 = false →
      let target := bits i.base 31 16
      let time := bits i.base 55 32
      (time = 0 → lands (.rmp (0x100 + n)) 1 ({ q with arch := { q.arch with level := target, ramp := Ramp.none } } : Seq).mark) ∧
      (time ≠ 0 → lands (.rmp (0x100 + n)) 1
        ({ q with arch := { q.arch with level := q.level, ramp := ⟨true, q.level, target, time, 0, q.cursor⟩ } } : Seq).mark)) ∧
    -- CRV
    (i.op = 0x3A →
      let c := bits i.base 19 16
      let cm := bits i.base 27 20
      (cm = 0 → lands (.crv (0x100 + n)) 1 q) ∧
      (cm ≠ 0 → s.present s.curveLive q.head c = false → fault (.crv (0x100 + n)) Pf.badOperand) ∧
      (cm ≠ 0 → s.present s.curveLive q.head c = true → q.shape.curves < 2 ^ 32 →
        Runs (.crv (0x100 + n)) s fun t =>
          (∀ b < 8, (t.seq n).shape.curves / 2 ^ (4 * b) % 16 = if bit cm b then c else q.shape.curves / 2 ^ (4 * b) % 16) ∧
          (t.seq n).arch = { q.arch with pc := q.arch.pc + 1 } ∧ (t.seq n).spans = q.spans ∧ (t.seq n).cursor = q.cursor)) ∧
    -- DLY
    (i.op = 0x3C →
      let k := bits i.base 18 16
      let v := sgn 32 i.hi
      (5 ≤ k → fault (.dly (0x100 + n)) Pf.illegalInstr) ∧
      (2 ≤ k → k < 5 → v < 0 → fault (.dly (0x100 + n)) Pf.badOperand) ∧
      (k < 5 → (k < 2 ∨ 0 ≤ v) → lands (.dly (0x100 + n)) 1 { q with arch := { q.arch with delays := q.arch.delays.set k v } })) ∧
    -- SKY
    (i.op = 0x3D →
      (i.md 10 = true → lands (.sky (0x100 + n)) 2 { q with shape := { q.shape with
        skyOn := true, skyLimit := bits i.base 31 16, runIn := bits i.w1 31 0, runOut := bits i.w1 63 32 } }) ∧
      (i.md 10 = false → lands (.sky (0x100 + n)) 1 { q with shape := { q.shape with skyOn := false } }))

/-- R262, R265 and R267 whole, and in the manual's own order CLP (R263), INT (R264), SCH (R266) and HLT. Destination codes from 16 up have no effect (log entry 23); the clauses take g0 to g15. -/
def Obligations.ControlInstructions : Prop :=
  ∀ (s : State) (e : Nat) (x : Eval) (i : Iw), s.evaluates e x i →
    let u := 0x400 + e
    let on (y : Eval) : Option Eval := some { y with pc := x.pc + i.len, issued := x.issued + 1 }
    let ga : Int := (s.creg x i.gd).toInt
    let coef : Int := (s.gain x.gset (8 + 4 * bits i.base 27 24)).toInt
    let p := bits i.base 30 28
    let lo := (s.limits x.gset p).1
    let hi := (s.limits x.gset p).2
    let traced (c : Bool) : State := s.limitTrigger x.loop c
    -- MAC
    (i.op = 0x80 →
      let c : Int := if i.md 11 then (BitVec.ofNat 32 (bits i.w1 31 0)).toInt else coef
      let sum : Int := (if i.md 10 then 0 else x.acc) + ga * c
      let t := min (max sum (-(2 ^ 63))) (2 ^ 63 - 1)
      (sum = t → Gives (.mac u) s (s.setEval e (on { x with acc := sum }))) ∧
      (sum ≠ t → Gives (.mac u) s ((s.inc (R.CEN_CE_ACCSAT e) 1).setEval e (on { x with acc := t })))) ∧
    -- CLP
    (i.op = 0x81 → i.gd < 16 →
      let v : Int := if i.md 10 then min (max ((x.acc + 0x8000) / 65536) (-(2 ^ 31))) (2 ^ 31 - 1) else (s.creg x i.ga).toInt
      let r := min (max v lo) hi
      Gives (.clp u) s ((traced (decide (r ≠ v))).setEval e
        (on { x with g := x.g.set i.gd (BitVec.ofInt 32 r), fc := decide (r ≠ v), limited := decide (r ≠ v) }))) ∧
    -- INT
    (i.op = 0x82 →
      let v : Int := x.intg.toInt + (coef * ga + 0x8000) / 65536
      let r := min (max v lo) hi
      ((i.md 10 = true ∨ x.dark = true) → Gives (.int u) s (s.setEval e (on { x with fc := false, pair := p }))) ∧
      (i.md 10 = false → x.dark = false → Gives (.int u) s ((traced (decide (r ≠ v))).setEval e
        (on { x with intg := BitVec.ofInt 32 r, fc := decide (r ≠ v), pair := p })))) ∧
    -- PRE
    (i.op = 0x83 →
      let r := min (max ga lo) hi
      Gives (.pre u) s (s.setEval e (on { x with intg := BitVec.ofInt 32 r, fc := decide (r ≠ ga) }))) ∧
    -- SCH
    (i.op = 0x84 →
      let g := bits i.base 23 16 + (if i.md 10 then x.region else 0) + (if i.md 11 then 16 * s.band x.umps else 0)
      (g < s.gsCount → Gives (.sch u) s (s.setEval e (on { x with gset := g }))) ∧
      (s.gsCount ≤ g → Gives (.sch u) s ((s.inc (R.CEN_CE_IDXMISS e) 1).setEval e (on { x with gset := 0 })))) ∧
    -- OUT
    (i.op = 0x85 → Gives (.out u) s (s.setEval e (on { x with held := some (s.creg x i.gd) }))) ∧
    -- TRC
    (i.op = 0x86 →
      (x.taps.length < 3 → Gives (.trc u) s (s.setEval e (on { x with taps := x.taps ++ [(bits i.base 27 24, s.creg x i.gd, x.fc)] }))) ∧
      (3 ≤ x.taps.length → Gives (.trc u) s ((s.inc (R.CEN_CE_TRCDROP e) 1).setEval e (on x)))) ∧
    -- HLT
    (i.op = 0x01 → Gives (.hlt u) s (s.setEval e (some { x with ended := true, issued := x.issued + 1 })))

/-- R104 to R107, R113, R125 and R127 with skywriting off (R136 with it on is left to the plan). `firingVec` gives the vector of a firing motion within the tile's bounds, or its fault. -/
def Obligations.MotionInstructions : Prop :=
  let same (s t : State) (n : Nat) : Prop := t.mem = s.mem ∧ t.mode = s.mode ∧ s.sameBut [R.BSQ_DLYCLAMP n] t ∧ (∀ m, m ≠ n → t.seq m = s.seq m)
  let wordsOn (s : State) (n : Nat) (i : Iw) : Seq := (s.seq n).spend i.len
  -- the target of MRK
  (∀ (q : Seq) (b : Bounds) (i : Iw) (w : Vec), i.op = 0x31 → q.firingVec b i = some (.ok w) → i.md 11 = false → i.md 13 = false →
    w.p0 = ⟨q.arch.px, q.arch.py, q.arch.pz⟩ ∧ b.has w.p1 = true ∧
    (i.md 10 = false → w.p1 = ⟨lo32 i.w1, hi32 i.w1, q.arch.pz⟩) ∧
    (i.md 10 = true → w.p1 = ⟨q.arch.px + lo32 i.w1, q.arch.py + hi32 i.w1, q.arch.pz⟩) ∧
    w.v = (if i.md 12 then bits i.w2 63 32 else q.arch.speed)) ∧
  -- MRK, ARC and CUB
  (∀ (s : State) (n : Nat) (i : Iw) (w : Vec) (p : Nat × Instr), s.issues n i → (s.seq n).inSwitch = false → i.op = p.1 →
    p ∈ [(0x31, Instr.mrk (0x100 + n)), (0x32, .arc (0x100 + n)), (0x33, .cub (0x100 + n))] →
    (wordsOn s n i).firingVec (s.env (s.seq n)).bounds i = some (.ok w) → w.len ≠ 0 → w.v ≠ 0 →
    (s.seq n).shape.skyOn = false → (s.seq n).runInDone = false →
    Runs p.2 s fun t => same s t n ∧
      (t.seq n).arch.px = w.p1.x ∧ (t.seq n).arch.py = w.p1.y ∧ (t.seq n).arch.pz = w.p1.z ∧
      (t.seq n).arch.vidx = ((s.seq n).arch.vidx + 1) % 2 ^ 32 ∧ (t.seq n).arch.pc = (s.seq n).arch.pc + i.len ∧
      (t.seq n).arch.speed = (if (i.op = 0x31 ∨ i.op = 0x32) ∧ i.md 12 then w.v else (s.seq n).arch.speed) ∧
      (t.seq n).arch.g = (s.seq n).arch.g ∧ (t.seq n).act = .motion ∧
      ∃ sp ∈ (t.seq n).spans, sp.kind = .motion ∧ sp.fire = true ∧ sp.start % 1250 = 0 ∧ (s.seq n).cursor ≤ sp.start ∧
        sp.len = 1250 * ((2000 * w.len + w.v - 1) / w.v)) ∧
  -- a zero-length MRK, ARC or CUB
  (∀ (s : State) (n : Nat) (i : Iw) (w : Vec) (p : Nat × Instr), s.issues n i → i.op = p.1 →
    p ∈ [(0x31, Instr.mrk (0x100 + n)), (0x32, .arc (0x100 + n)), (0x33, .cub (0x100 + n))] →
    (wordsOn s n i).firingVec (s.env (s.seq n)).bounds i = some (.ok w) → w.len = 0 → w.p0 = w.p1 →
    Runs p.2 s fun t => same s t n ∧ (t.seq n).arch.vidx = ((s.seq n).arch.vidx + 1) % 2 ^ 32 ∧ (t.seq n).arch.pc = (s.seq n).arch.pc + i.len ∧
      (t.seq n).cursor = (s.seq n).cursor ∧ (t.seq n).spans = (s.seq n).spans ∧ (t.seq n).act = (s.seq n).act) ∧
  -- faults of MRK, ARC and CUB
  (∀ (s : State) (n : Nat) (i : Iw) (p : Nat × Instr), s.issues n i → (s.seq n).inSwitch = false → i.op = p.1 →
    p ∈ [(0x31, Instr.mrk (0x100 + n)), (0x32, .arc (0x100 + n)), (0x33, .cub (0x100 + n))] →
    (∀ c, (wordsOn s n i).firingVec (s.env (s.seq n)).bounds i = some (.error c) → Gives p.2 s (s.progFault n c)) ∧
    (∀ w, (wordsOn s n i).firingVec (s.env (s.seq n)).bounds i = some (.ok w) → w.len ≠ 0 → w.v = 0 →
      Gives p.2 s (s.progFault n Pf.speedZero))) ∧
  -- JMP
  (∀ (s : State) (n : Nat) (i : Iw), s.issues n i → (s.seq n).inSwitch = false → i.op = 0x30 →
    (∀ c, (wordsOn s n i).target i (s.seq n).arch.jspeed = .error c → Gives (.jmp (0x100 + n)) s (s.progFault n c)) ∧
    (∀ (e : Pt) (v : Nat), (wordsOn s n i).target i (s.seq n).arch.jspeed = .ok (e, v) →
      ((s.env (s.seq n)).bounds.has e = false → Gives (.jmp (0x100 + n)) s (s.progFault n Pf.fieldRange)) ∧
      ((s.env (s.seq n)).bounds.has e = true → e ≠ (s.seq n).point → v = 0 → Gives (.jmp (0x100 + n)) s (s.progFault n Pf.speedZero)) ∧
      ((s.env (s.seq n)).bounds.has e = true → e ≠ (s.seq n).point → v ≠ 0 → (s.seq n).shape.skyOn = false → 0 ≤ (s.seq n).delay 0 →
        Runs (.jmp (0x100 + n)) s fun t => same s t n ∧
          (t.seq n).arch.px = e.x ∧ (t.seq n).arch.py = e.y ∧ (t.seq n).arch.pz = e.z ∧
          (t.seq n).arch.vidx = ((s.seq n).arch.vidx + 1) % 2 ^ 32 ∧ (t.seq n).arch.pc = (s.seq n).arch.pc + i.len ∧
          (t.seq n).arch.jspeed = v ∧ (t.seq n).arch.g = (s.seq n).arch.g ∧ (t.seq n).inRun = false ∧
          ∃ l, (t.seq n).spans = (s.seq n).spans ++ l ∧ ∀ sp ∈ l, sp.fire = false))) ∧
  -- BRS
  (∀ (s : State) (n : Nat) (i : Iw), s.issues n i → i.op = 0x40 → bits i.base 19 16 = 0 →
    Gives (.brs (0x100 + n)) s (s.setSeq n ((wordsOn s n i).pcAdd i.len))) ∧
  ∀ (s : State) (n : Nat) (i : Iw) (e : Pt) (v : Nat), s.issues n i → (s.seq n).inSwitch = false → i.op = 0x40 → bits i.base 19 16 ≠ 0 →
    (i.md 13 = true → bits i.base 27 20 + bits i.base 19 16 ≤ 257) →
    (wordsOn s n i).target i (s.seq n).arch.speed = .ok (e, v) → (lineVec (s.seq n).point e v).len ≠ 0 → v ≠ 0 → (s.seq n).arch.jspeed ≠ 0 →
    (s.seq n).shape.skyOn = false → (s.seq n).runInDone = false →
    (∀ k < bits i.base 19 16,
      let w := brushVec (s.seq n).point e v (i.md 11) ((wordsOn s n i).feedSum i k) k
      (s.env (s.seq n)).bounds.has w.p0 = true ∧ (s.env (s.seq n)).bounds.has w.p1 = true ∧
        fits32 w.p0.x = true ∧ fits32 w.p0.y = true ∧ fits32 w.p1.x = true ∧ fits32 w.p1.y = true) →
    Runs (.brs (0x100 + n)) s fun t => same s t n ∧
      (t.seq n).arch.vidx = ((s.seq n).arch.vidx + bits i.base 19 16) % 2 ^ 32 ∧ (t.seq n).arch.pc = (s.seq n).arch.pc + i.len ∧
      (t.seq n).arch.speed = v ∧ (t.seq n).arch.g = (s.seq n).arch.g ∧ (t.seq n).act = .motion ∧
      ((t.seq n).spans.filter fun sp => sp.kind = .motion).length = ((s.seq n).spans.filter fun sp => sp.kind = .motion).length + bits i.base 19 16

/-- R108, R110, R115 to R117: DWL and RMP with skywriting off, BAR's release for two tiles. -/
def Obligations.HoldsAndWaits : Prop :=
  ∀ (s : State) (n : Nat) (i : Iw), s.issues n i → (s.seq n).inSwitch = false →
    let q := (s.seq n).spend i.len
    let fault (c : Instr) (code : Nat) : Prop := Gives c s (s.progFault n code)
    let skip (c : Instr) : Prop := Gives c s (s.setSeq n { q with arch := { q.arch with pc := q.arch.pc + i.len } })
    let holds (t : State) (len : Nat) (fire : Bool) : Prop :=
      ∃ sp ∈ (t.seq n).spans, sp.start = q.cursor ∧ sp.len = len ∧ sp.fire = fire ∧ sp.kind = .dwell
    -- DWL
    (i.op = 0x34 →
      let count := bits i.base 47 16
      (count = 0 → skip (.dwl (0x100 + n))) ∧
      (count ≠ 0 → i.md 10 = false → Runs (.dwl (0x100 + n)) s fun t =>
        holds t count false ∧ (t.seq n).cursor = q.cursor + count ∧ (t.seq n).act = .dwell ∧ (t.seq n).inRun = false ∧
        (t.seq n).arch = { q.arch with pc := q.arch.pc + 1 } ∧ t.mem = s.mem ∧ s.sameBut [] t) ∧
      (count ≠ 0 → i.md 10 = true → q.shape.skyOn = false → Runs (.dwl (0x100 + n)) s fun t =>
        holds t count true ∧ q.cursor + count ≤ (t.seq n).cursor ∧ (t.seq n).act = .dwell ∧
        (t.seq n).arch = { q.arch with pc := q.arch.pc + 1 } ∧ t.mem = s.mem ∧ s.sameBut [R.BSQ_DLYCLAMP n] t)) ∧
    -- RMP with WAIT
    (i.op = 0x39 → i.md 10 = true → bits i.base 55 32 ≠ 0 → q.shape.skyOn = false → Runs (.rmp (0x100 + n)) s fun t =>
      holds t (bits i.base 55 32) true ∧ (t.seq n).act = .dwell ∧
      (t.seq n).arch = { q.arch with
        pc := q.arch.pc + 1, level := q.level, ramp := ⟨true, q.level, bits i.base 31 16, bits i.base 55 32, 0, q.cursor⟩ } ∧
      t.mem = s.mem ∧ s.sameBut [R.BSQ_DLYCLAMP n] t) ∧
    -- WTM
    (i.op = 0x49 → i.md 10 = false →
      let count := bits i.base 47 16
      (count = 0 → skip (.wtm (0x100 + n))) ∧
      (count ≠ 0 → Runs (.wtm (0x100 + n)) s fun t =>
        (t.seq n).cursor = 1250 * ((q.cursor - 1) / 1250 + 1 + count) ∧ (t.seq n).act = .waitTime false ∧ (t.seq n).arch = q.arch ∧
        t.mem = s.mem ∧ s.sameBut [] t)) ∧
    (i.op = 0x49 → i.md 10 = true →
      let at_ := extendTs i.w1 s.now
      (tsValid i.w1 = false → fault (.wtm (0x100 + n)) Pf.badParam) ∧
      (tsValid i.w1 = true → at_ * 5 < (q.cursor * 131072 : Nat) → Runs (.wtm (0x100 + n)) s fun t =>
        (t.seq n).arch = { q.arch with fc := true, pc := q.arch.pc + i.len } ∧ (t.seq n).cursor = q.cursor ∧ (t.seq n).act = q.act ∧
        t.mem = s.mem ∧ s.sameBut [] t) ∧
      (tsValid i.w1 = true → (q.cursor * 131072 : Nat) ≤ at_ * 5 → 1250 * ((at_.toNat + 32767999) / 32768000) ≤ q.cursor →
        Runs (.wtm (0x100 + n)) s fun t =>
          (t.seq n).arch = { q.arch with fc := false, pc := q.arch.pc + i.len } ∧ (t.seq n).cursor = q.cursor ∧ (t.seq n).act = q.act) ∧
      (tsValid i.w1 = true → (q.cursor * 131072 : Nat) ≤ at_ * 5 → q.cursor < 1250 * ((at_.toNat + 32767999) / 32768000) → Runs (.wtm (0x100 + n)) s fun t =>
        (t.seq n).cursor = 1250 * ((at_.toNat + 32767999) / 32768000) ∧ (t.seq n).act = .waitTime false ∧ (t.seq n).arch = q.arch ∧
        t.mem = s.mem ∧ s.sameBut [] t)) ∧
    -- WPM
    (i.op = 0x48 →
      let a := bits i.base 18 16
      let w := bits i.base 43 32
      let armed (t : State) : Prop :=
        (t.seq n).shape = { q.shape with wmArmed := true, wmAxis := a, wmIndex := w } ∧ t.mem = s.mem ∧ s.sameBut [] t
      (s.wmLen a ≤ w → fault (.wpm (0x100 + n)) Pf.badOperand) ∧
      (w < s.wmLen a → ((s.wm a w).state = 2 ∨ (s.wm a w).state = 3) → Runs (.wpm (0x100 + n)) s fun t =>
        armed t ∧ (t.seq n).arch = { q.arch with fw := true, fz := true, pc := q.arch.pc + i.len }) ∧
      (w < s.wmLen a → (s.wm a w).state ≠ 2 → (s.wm a w).state ≠ 3 → i.md 10 = true → Runs (.wpm (0x100 + n)) s fun t =>
        armed t ∧ (t.seq n).arch = { q.arch with fw := false, pc := q.arch.pc + i.len } ∧ (t.seq n).act = q.act) ∧
      (w < s.wmLen a → (s.wm a w).state ≠ 2 → (s.wm a w).state ≠ 3 → i.md 10 = false → Runs (.wpm (0x100 + n)) s fun t =>
        armed t ∧ (t.seq n).arch = { q.arch with fw := false } ∧
        (t.seq n).act = .waitWm a w ((q.cursor - 1) / 1250 + bits i.w1 31 0) (i.md 11))) ∧
    -- BAR
    (i.op = 0x4A →
      let b := bits i.base 21 16
      let count := bits i.base 36 32
      let now := (q.cursor - 1) / 1250
      (count ≤ 1 → skip (.bar (0x100 + n))) ∧
      (24 < count → fault (.bar (0x100 + n)) Pf.barId) ∧
      (∀ p ∈ s.barWait b, p.2.1 ≠ count → 2 ≤ count → fault (.bar (0x100 + n)) Pf.barId) ∧
      (2 ≤ count → count ≤ 24 → (s.barWait b).length + 1 < count → (∀ p ∈ s.barWait b, p.2.1 = count) → Runs (.bar (0x100 + n)) s fun t =>
        (t.seq n).act = .waitBar b count (now + bits i.w1 31 0) (i.md 11) ∧ (t.seq n).arch = q.arch ∧
        t.barWait b = s.barWait b ++ [(q.head, count, now)] ∧ t.mem = s.mem ∧ s.sameBut [] t) ∧
      (∀ h a : Nat, count = 2 → s.barWait b = [(h, 2, a)] → s.seqOf q.head = n → s.seqOf h ≠ n → Runs (.bar (0x100 + n)) s fun t =>
        t.barWait b = [] ∧ (∀ m ∈ [n, s.seqOf h], (t.seq m).act = .ready ∧
          (t.seq m).cursor = max (s.seq m).cursor (1250 * (max a now + 3))) ∧ t.mem = s.mem ∧ s.sameBut [] t))

/-- R110, R115 to R117, R125 and R196: the events that end what an instruction began. -/
def Obligations.ProgramEvents : Prop :=
  ∀ (s : State) (n : Nat), n < 26 →
    let q := s.seq n
    let beyond := q.cursor / 1250 ≤ q.nextTick
    let next (x : Seq) : State := s.setSeq n x
    (q.running = true → beyond →
      (q.act = .motion → Gives (.motionComplete (0x100 + n)) s (next { q with act := .ready, inRun := q.inRun && s.mayRun q })) ∧
      (q.act = .dwell → Gives (.dwellEnd (0x100 + n)) s (next { q with act := .ready, inRun := q.inRun && s.mayRun q })) ∧
      (q.act = .waitTime false → Gives (.wtmWaitEnd (0x100 + n)) s
        (next { q with act := .ready, arch := { q.arch with fc := false, pc := q.arch.pc + (1 + bits (progWord s.mem.sram q.arch.pc) 9 8) } }))) ∧
    ((q.running = false ∨ ¬ beyond ∨ q.act = .ready) →
      Gives (.motionComplete (0x100 + n)) s s ∧ Gives (.dwellEnd (0x100 + n)) s s ∧ Gives (.wtmWaitEnd (0x100 + n)) s s) ∧
    -- RAMP_END
    (q.arch.ramp.running = true → q.arch.ramp.time ≤ q.arch.ramp.done + (q.cursor - q.arch.ramp.since) →
      Gives (.rampEnd (0x100 + n)) s (next { q with arch := { q.arch with level := q.arch.ramp.target, ramp := Ramp.none } })) ∧
    ((q.arch.ramp.running = false ∨ q.arch.ramp.done + (q.cursor - q.arch.ramp.since) < q.arch.ramp.time) → Gives (.rampEnd (0x100 + n)) s s) ∧
    -- WPM_TIMEOUT and BAR_TIMEOUT
    (∀ a w limit : Nat, q.act = .waitWm a w limit true → q.running = true →
      (limit < q.nextTick → Gives (.wpmTimeout (0x100 + n)) s (s.progFault n Pf.waitTmo)) ∧
      (q.nextTick ≤ limit → Gives (.wpmTimeout (0x100 + n)) s s)) ∧
    (∀ b c limit : Nat, q.act = .waitBar b c limit true → q.running = true →
      (limit < q.nextTick → Gives (.barTimeout (0x100 + n)) s (s.progFault n Pf.waitTmo)) ∧
      (q.nextTick ≤ limit → Gives (.barTimeout (0x100 + n)) s s)) ∧
    (q.act = .ready → Gives (.wpmTimeout (0x100 + n)) s s ∧ Gives (.barTimeout (0x100 + n)) s s)

/-- R90, R114, R118 to R120, R143, R157 and R158. -/
def Obligations.TileEdgesAndSignals : Prop :=
  (∀ (s : State) (n : Nat) (i : Iw), s.issues n i → (s.seq n).inSwitch = false →
    let q := (s.seq n).spend i.len
    let fault (c : Instr) (code : Nat) : Prop := Gives c s (s.progFault n code)
    -- TIL
    (i.op = 0x50 →
      let kind := bits i.base 18 16
      (3 ≤ kind → fault (.til (0x100 + n)) Pf.illegalInstr) ∧
      (kind = 0 → q.arch.pc ≠ q.entry → fault (.til (0x100 + n)) Pf.tilNest) ∧
      (1 ≤ kind → kind ≤ 2 → q.begun = false → fault (.til (0x100 + n)) Pf.tilNest) ∧
      (kind = 0 → q.arch.pc = q.entry → q.args.length = 4 → Runs (.til (0x100 + n)) s fun t =>
        (t.seq n).arch = { q.arch with
          pc := q.arch.pc + 1, g := q.args ++ List.replicate 12 0, scratch := [], vidx := 2 ^ 32 - 1, fz := false, fn := false, fc := false,
          fw := false, ft := false } ∧
        (t.seq n).begun = true ∧ t.mem = s.mem ∧ s.sameBut [] t) ∧
      (kind = 1 → q.begun = true → s.held q.head ≠ none → s.seqOf q.head = n → Runs (.til (0x100 + n)) s fun t =>
        t.held q.head = none ∧ (t.seq n).running = false ∧ (t.seq n).act = .ready ∧ t.mode = s.mode) ∧
      (kind = 2 → q.begun = true → q.arch.ft = false → Gives (.til (0x100 + n)) s (s.setSeq n (q.leaveRun.pcAdd 1)))) ∧
    -- SIG
    (i.op = 0x4B →
      let e := bits i.base 23 16
      Runs (.sig (0x100 + n)) s fun t =>
        (t.seq n).arch = { q.arch with pc := q.arch.pc + 1 } ∧ t.posted e = true ∧
        (i.md 10 = true → bit (t.rd (R.BSQ_EVT n)).toNat (e % 32) = true ∧ bit (t.fld R.GLB_IRQ_SRC F.GLB_IRQ_SRC_SRC) 0 = true) ∧
        (i.md 10 = false → t.rd (R.BSQ_EVT n) = s.rd (R.BSQ_EVT n)) ∧ t.mem = s.mem) ∧
    -- QRC
    (i.op = 0x58 → ∀ v, q.reg (bits i.base 20 16) = .ok v → s.fld R.REC_QS_CFG F.REC_QS_CFG_EN = 0 →
      Gives (.qrc (0x100 + n)) s ((s.setSeq n (q.pcAdd 1)).inc (R.BSQ_QDROP n) 1)) ∧
    (i.op = 0x58 → ∀ c, q.reg (bits i.base 20 16) = .error c → fault (.qrc (0x100 + n)) c) ∧
    -- HLT
    (i.op = 0x01 → s.seqOf q.head = n → s.held q.head ≠ none → Runs (.hlt (0x100 + n)) s fun t =>
      t.fld (R.BSQ_FAULT n) F.BSQ_FAULT_FAULTED = 1 ∧ t.held q.head = none ∧ (t.seq n).running = false ∧ (t.seq n).act = .faulted ∧
      (s.fld (R.BSQ_FAULT n) F.BSQ_FAULT_FAULTED = 0 → t.fld (R.BSQ_FAULT n) F.BSQ_FAULT_CODE = Pf.halted ∧
        t.fld (R.BSQ_FAULT_PC n) F.BSQ_FAULT_PC_PC = q.arch.pc % 2 ^ 22)) ∧
    -- COL
    (i.op = 0x41 →
      let a := s.fld (R.BLD_H_BCFG q.head) F.BLD_H_BCFG_AREA
      let col0 := bits i.base 31 16
      let ncol := bits i.base 47 32
      let period := bits i.w1 31 0
      let dot := bits i.w1 47 32
      let beyond := s.colCap a ≤ (if i.md 11 then col0 else col0 + ncol - 1) ∨ (i.md 11 = true ∧ col0 + 1 < ncol)
      (ncol = 0 → Gives (.col (0x100 + n)) s (s.setSeq n (q.pcAdd i.len))) ∧
      (ncol ≠ 0 → (period = 0 ∨ (i.md 10 = false ∧ period < dot) ∨ beyond) → fault (.col (0x100 + n)) Pf.badOperand) ∧
      (ncol ≠ 0 → period ≠ 0 → i.md 10 = false → dot ≤ period → ¬ beyond → s.fld (R.BLD_CA_CFG a) F.BLD_CA_CFG_SRC = 0 →
        s.caReady a (s.caActive a) = true → Runs (.col (0x100 + n)) s fun t =>
          (t.seq n).act = .column ∧ (t.seq n).colRun.ncol = ncol ∧ (t.seq n).colRun.col0 = col0 ∧ (t.seq n).colRun.period = period ∧
          (t.seq n).colRun.next = 0 ∧ (t.seq n).colRun.s0 = q.cursor ∧ (t.seq n).colRun.starved = false ∧
          (t.seq n).arch = { q.arch with vidx := (q.arch.vidx + 1) % 2 ^ 32 } ∧ t.mem = s.mem ∧ s.sameBut [] t))) ∧
  -- COLUMN_FIRE in time mode, no counter bound
  (∀ (s : State) (n : Nat), n < 26 → s.mayRun (s.seq n) = true → (s.seq n).act = .column → s.inWeb n = false →
    let c := (s.seq n).colRun
    c.axisMode = false → c.starved = false → c.next + 1 < c.ncol → c.s0 + c.next * c.period < 1250 * ((s.seq n).nextTick + 1) →
    (∀ u < 16, s.fld (R.LCS_UC_STAT u) F.LCS_UC_STAT_BOUND = 0) → (s.seq n).job = none →
    Runs (.columnFire (0x100 + n)) s fun t =>
      (t.seq n).colRun.next = c.next + 1 ∧ (t.seq n).act = .column ∧ (t.seq n).cursor = (s.seq n).cursor ∧ t.mem = s.mem) ∧
  (∀ (s : State) (n : Nat), n < 26 → (s.mayRun (s.seq n) = false ∨ (s.seq n).act = .ready) → Gives (.columnFire (0x100 + n)) s s) ∧
  -- BSQ_FAULT_CLEAR
  (∀ (s : State) (n : Nat) (v : Word), n < 26 → s.mode ≠ .boot →
    (fget v F.BSQ_FAULT_FAULTED = 1 → Gives (.bsqFaultClear n v) s
      ((s.setFld (R.BSQ_FAULT n) F.BSQ_FAULT_FAULTED 0).setSeq n
        (if (s.seq n).act = .faulted then { s.seq n with act := .ready } else s.seq n))) ∧
    (fget v F.BSQ_FAULT_FAULTED = 0 → Gives (.bsqFaultClear n v) s s)) ∧
  -- a word that faults before any effect
  ∀ (s : State) (n c : Nat), n < 26 → s.nextIw n = some (.error c) → progEnd ≤ (s.seq n).arch.pc → Gives (.add (0x100 + n)) s (s.progFault n c)

/-- R152's phases with BSQn_SWB.PHASE and BSQn_SWBCNT, and the stall tick of R97 at the deadline of R126. -/
def Obligations.StreamTicks : Prop :=
  (∀ (s : State) (n : Nat), n < 26 →
    let q := s.seq n
    let ends (a : Activity) : Prop := q.running = true ∧ q.act = a ∧ q.cursor / 1250 ≤ q.nextTick
    (ends .swbStop → Gives (.switchbackStopEnd (0x100 + n)) s ((s.setSeq n { q with act := .swbWait }).setFld (R.BSQ_SWB n) F.BSQ_SWB_PHASE 2)) ∧
    (ends .swbApproach → Gives (.switchbackApproachEnd (0x100 + n)) s
      (((s.setSeq n { q with act := .ready, swb := Swb.none }).setFld (R.BSQ_SWB n) F.BSQ_SWB_PHASE 0).inc (R.BSQ_SWBCNT n) 1)) ∧
    (ends .swbBack → Runs (.switchbackBackEnd (0x100 + n)) s fun t =>
      (t.seq n).act = .swbApproach ∧ t.fld (R.BSQ_SWB n) F.BSQ_SWB_PHASE = 4 ∧ (t.seq n).swb = q.swb ∧ (t.seq n).arch.pc = q.arch.pc ∧
      (t.seq n).pos = q.swb.ps ∧ ∃ l, (t.seq n).spans = q.spans ++ l ∧ ∀ sp ∈ l, sp.fire = false) ∧
    (ends .swbWait → ∀ i, s.nextIw n = some (.ok i) →
      (i.op = 0x34 → i.md 10 = false → bits i.base 47 16 ≠ 0 → Gives (.switchbackWaitEnd (0x100 + n)) s
        (((s.setSeq n { q with act := .ready, swb := Swb.none }).setFld (R.BSQ_SWB n) F.BSQ_SWB_PHASE 0).inc (R.BSQ_SWBCNT n) 1)) ∧
      (∀ w, i.op = 0x31 → q.firingVec (s.env q).bounds i = some (.ok w) → w.len ≠ 0 → q.arch.jspeed ≠ 0 →
        Runs (.switchbackWaitEnd (0x100 + n)) s fun t =>
          (t.seq n).act = .swbBack ∧ t.fld (R.BSQ_SWB n) F.BSQ_SWB_PHASE = 3 ∧ (t.seq n).arch.pc = q.arch.pc ∧
          (t.seq n).swb.ps = q.swb.ps ∧ ∃ l, (t.seq n).spans = q.spans ++ l ∧ ∀ sp ∈ l, sp.fire = false)) ∧
    (q.act = .ready → Gives (.switchbackStopEnd (0x100 + n)) s s ∧ Gives (.switchbackWaitEnd (0x100 + n)) s s ∧
      Gives (.switchbackBackEnd (0x100 + n)) s s ∧ Gives (.switchbackApproachEnd (0x100 + n)) s s)) ∧
  -- INTENT_DEADLINE with one sequencer at work
  ∀ (s : State) (n : Nat), n < 26 → (∀ m, m ≠ n → (s.seq m).running = false) →
    let q := s.seq n
    q.running = true → q.act = .ready → q.inRun = false → s.mayRun q = true → q.nextTick = s.tick + 2 →
    q.cursor = 1250 * (s.tick + 2) →
    Runs .intentDeadline s fun t =>
      (t.seq n).cursor = 1250 * (s.tick + 3) ∧ (t.seq n).nextTick = s.tick + 3 ∧ t.rd (R.BSQ_STALLCNT n) = satAdd (s.rd (R.BSQ_STALLCNT n)) 1 ∧
      (t.seq n).arch.pc = q.arch.pc ∧ (∀ x, 1250 * (s.tick + 2) ≤ x → x < 1250 * (s.tick + 3) →
        ∃ sp ∈ (t.seq n).spans, sp.start ≤ x ∧ x < sp.start + sp.len ∧ sp.fire = false)

/-- R77 to R79 and R165 for each block's set. `judge` is the check of the set's own rules at its snapshot. -/
def Obligations.CommitSnapshot : Prop :=
  let snap (s : State) (id : Nat) (ready : List Nat) (seq : Option Nat) : Pending :=
    ⟨s.nextPend, [id], ready, seq, false, 0, (setRegs id).map fun r => (r, s.rd r), s.imageTiles 0, none⟩
  let clean (s : State) : Prop := ∀ p ∈ s.pend, p.failed = none ∧ p.id < s.nextPend
  let took (s : State) (p : Pending) (offs : List Nat) (t : State) : Prop :=
    t.pend = s.pend ++ [p] ∧ t.nextPend = s.nextPend + 1 ∧ t.live = s.live ∧ t.mem = s.mem ∧ s.sameBut offs t
  -- the register commits
  (∀ (s : State) (c h p ns : Nat) (v : Word) (x : Nat × Instr), s.mode ≠ .boot → c < 4 → h < 24 → p < 2 →
    x ∈ [(2, Instr.bldCommit v), (3, .cenCommit v), (34, .axfCommit v), (35, .timCommit v), (36, .thmCommit v), (28 + p, .mapCommit p v),
      (30 + c, .camCommit c v ns), (4 + h, .geoCommit h v)] →
    (v.toNat % 2 = 0 → Gives x.2 s (if x.1 = 30 + c then s.arrive ns else s)) ∧
    (v.toNat % 2 = 1 → clean s → s.judge x.1 0 = .pass →
      Runs x.2 s (took s (snap s x.1 (if x.1 < 28 ∧ 4 ≤ x.1 then [x.1] else []) none) [R.MAP_STAT p, R.MAP_LATECOMMIT p])) ∧
    (v.toNat % 2 = 1 → clean s → ∀ cause index, s.judge x.1 0 = .bad cause index →
      Runs x.2 s fun t => t.pend = s.pend ∧ t.live = s.live ∧ t.mem = s.mem ∧ t.tsc = s.tsc ∧ t.cal = s.cal ∧ t.bld = s.bld ∧
        ∀ off, off ∉ irqRegs → t.rd off = (s.setReject x.1 cause index).rd off)) ∧
  -- DRAM_COMMIT
  (∀ (s : State) (v : Word), s.unlocked = true → v.toNat % 2 = 1 → clean s → s.judge 0 0 = .pass →
    Runs (.dramCommit v) s (took s (snap s 0 [] none) [])) ∧
  (∀ (s : State) (v : Word), s.mode ≠ .boot → s.unlocked = false → Gives (.dramCommit v) s (s.inc R.GLB_LOCKVIOL 1)) ∧
  -- COMMIT
  (∀ (s : State) (n : Nat) (c : Cmd), s.ready n 0x02 c →
    (c.arg 0 = 0 → c.arg 1 = 0 → Gives (.commit n) s (s.endCmd c St.empty 0 0)) ∧
    (∀ id, 36 < id → id < 64 → bit (c.arg 0 + c.arg 1 * 2 ^ 32) id = true → Gives (.commit n) s (s.endCmd c St.badParam 0 0)) ∧
    (∀ id, c.arg 0 + c.arg 1 * 2 ^ 32 = 2 ^ id → id ≤ 36 → setMode id s.mode = false → Gives (.commit n) s (s.endCmd c St.wrongMode 0 0)) ∧
    (∀ id, c.arg 0 + c.arg 1 * 2 ^ 32 = 2 ^ id → id ∈ [0, 34, 35, 36] → setMode id s.mode = true → c.timed = false → clean s →
      s.judge id 0 = .pass → Runs (.commit n) s fun t =>
        took s (snap s id [] (some n)) [] t ∧ t.cmd n = some { c with wait := .commit, late := false })) ∧
  -- COMMIT_LAYER
  ∀ (s : State) (n : Nat) (c : Cmd), s.ready n 0x0B c → clean s →
    (s.nslots < c.arg 0 → Gives (.commitLayer n) s (s.endCmd c St.badParam 0 0)) ∧
    (c.arg 0 = 0 → s.judge 1 0 = .pass → Runs (.commitLayer n) s fun t =>
      took s (snap s 1 [] (some n)) [] t ∧ t.tsc = s.tsc ∧ t.cmd n = some { c with wait := .commit }) ∧
    (c.arg 0 ≠ 0 → c.arg 0 ≤ s.nslots → s.judge 1 (c.arg 0) = .pass → Runs (.commitLayer n) s fun t =>
      t.pend = s.pend ++ [{ snap s 1 [1] (some n) with tiles := s.imageTiles (c.arg 0) }] ∧ t.tsc.copying = some (c.arg 0) ∧ t.mem = s.mem ∧
      t.cmd n = some { c with wait := .copy })

/-- R77, R78, R164, R165, R213, R270 and R384. -/
def Obligations.CommitGoLive : Prop :=
  -- COMMIT_GO_LIVE
  (∀ (s : State) (i : Nat) (p : Pending), (s.pend.find? fun x => x.id = i && x.ready ((s.tick + 1) * 500)) = some p → p.seq = none →
    (∀ id, p.sets = [id] → Runs (.commitGoLive i) s fun t =>
      (∀ x ∈ t.pend, x.id ≠ i) ∧
      (id ∈ [30, 31, 32, 33, 36] → ∀ r ∈ setRegs id, t.lv r = p.word r) ∧
      (id = 0 → ∀ n < 6, t.dramRegion n =
        (fget (p.word (R.GLB_DRAM_BASE n)) F.GLB_DRAM_BASE_BASE * 2 ^ 20, fget (p.word (R.GLB_DRAM_SIZE n)) F.GLB_DRAM_SIZE_SIZE * 2 ^ 20)) ∧
      (id = 2 → s.fld R.BLD_STAT F.BLD_STAT_COPYING = 0 →
        t.curveLive = s.curveShadow ∧ t.curveShadow = s.curveLive ∧ t.fld R.BLD_STAT F.BLD_STAT_COPYING = 1 ∧ t.mem = s.mem) ∧
      (id = 1 → p.tiles < 2 ^ 17 → t.ntiles = p.tiles ∧ t.tsc.ctxs = [] ∧ ∀ e < 256, t.posted e = false))) ∧
  (∀ (s : State) (i : Nat), (∀ p ∈ s.pend, p.id = i → p.ready ((s.tick + 1) * 500) = false) → Gives (.commitGoLive i) s s) ∧
  -- the copies
  (∀ s : State, s.mem.wf = true → s.bld.held = [] → s.fld R.BLD_STAT F.BLD_STAT_COPYING = 1 → Runs .curveCopyComplete s fun t =>
    t.fld R.BLD_STAT F.BLD_STAT_COPYING = 0 ∧ t.bld.holding = false ∧
    (∀ k < 0x100000, sget zeroByte (s.curveShadow + k) t.mem.sram = sget zeroByte (s.curveLive + k) s.mem.sram) ∧
    ∀ k, (k < s.curveShadow ∨ s.curveShadow + 0x100000 ≤ k) → sget zeroByte k t.mem.sram = sget zeroByte k s.mem.sram) ∧
  (∀ s : State, s.mem.wf = true → s.cen.held = [] → s.fld R.CEN_STAT F.CEN_STAT_COPYING = 1 → Runs .controlCopyComplete s fun t =>
    t.fld R.CEN_STAT F.CEN_STAT_COPYING = 0 ∧ t.cen.holding = false ∧
    (∀ k < 0x80000, sget zeroByte (s.ctlShadow + k) t.mem.sram = sget zeroByte (s.ctlLive + k) s.mem.sram) ∧
    ∀ k, (k < s.ctlShadow ∨ s.ctlShadow + 0x80000 ≤ k) → sget zeroByte k t.mem.sram = sget zeroByte k s.mem.sram) ∧
  (∀ s : State, (s.fld R.BLD_STAT F.BLD_STAT_COPYING = 0 → Gives .curveCopyComplete s s) ∧
    (s.fld R.CEN_STAT F.CEN_STAT_COPYING = 0 → Gives .controlCopyComplete s s) ∧ (s.tsc.copying = none → Gives .stagingCopyComplete s s) ∧
    ∀ h, h ∉ s.cal.copying → Gives (.geoCopyComplete h) s s) ∧
  (∀ (s : State) (k : Nat) (p : Pending), s.tsc.copying = some k → p ∈ s.pend → 1 ∈ p.notReady →
    Runs .stagingCopyComplete s fun t => t.pend = s.pend.map fun x => { x with notReady := x.notReady.filter (· ≠ 1) }) ∧
  ∀ (s : State) (h : Nat) (p : Pending), s.pend = [p] → h < 24 → h ∈ s.cal.copying → p.notReady = [4 + h] → p.failed = none →
    let f : Bounds := ⟨intOf (p.word (R.TSC_H_FXMIN h)), intOf (p.word (R.TSC_H_FYMIN h)), intOf (p.word (R.TSC_H_FXMAX h)),
      intOf (p.word (R.TSC_H_FYMAX h))⟩
    (s.geoCheck h (sget (fun _ => []) h s.cal.banks) f = .pass →
      Runs (.geoCopyComplete h) s fun t => t.pend = [{ p with notReady := [] }] ∧ h ∉ t.cal.copying) ∧
    ∀ cause index, p.seq = none → p.sets = [4 + h] → s.geoCheck h (sget (fun _ => []) h s.cal.banks) f = .bad cause index →
      Runs (.geoCopyComplete h) s fun t => t.pend = [] ∧ h ∉ t.cal.copying ∧
        t.fld (R.GEO_H_STAT h) F.GEO_H_STAT_COMMIT_REJECT = 1 ∧ t.fld (R.GEO_H_STAT h) F.GEO_H_STAT_REJ_CAUSE = cause % 16

/-- R68, R70, R216, R283, R385 and R407 on a PCIe queue. A program image's own checks are those of LOAD_TABLE kind 30 in chapter 09. -/
def Obligations.DataCommands : Prop :=
  -- MODE
  (∀ (s : State) (n : Nat) (c : Cmd), s.ready n 0x01 c → c.arg 0 % 16 = 0 → Gives (.mode n) s (s.endCmd c St.empty 0 0)) ∧
  (∀ (s : State) (n : Nat) (c : Cmd), s.ready n 0x01 c → c.arg 0 % 16 ≠ 0 → c.arg 0 % 16 ≠ 4 → (c.arg 0 % 16 ≠ 3 ∨ c.timed = false) →
    let r := s.modeOp (c.arg 0 % 16)
    Gives (.mode n) s (r.2.endCmd c r.1 r.2.mode.code 0)) ∧
  (∀ (s : State) (n : Nat) (c : Cmd), s.ready n 0x01 c → c.arg 0 % 16 = 4 → s.runMode = true →
    Gives (.mode n) s (s.opPause.2.putCmd { c with wait := .pause })) ∧
  -- WRITE_REGS
  (∀ (s : State) (n : Nat) (c : Cmd), s.ready n 0x03 c → c.path = 0 →
    (c.len = 0 → Gives (.writeRegs n) s (s.endCmd c St.empty 0 0)) ∧
    (c.len % 8 ≠ 0 → Gives (.writeRegs n) s (s.endCmd c St.badParam 0 0)) ∧
    (c.len ≠ 0 → c.len % 8 = 0 →
      let r := State.writePairs (wordsOf (s.hostBytes c.addr c.len)) s 0
      Gives (.writeRegs n) s (r.1.endSeq n St.done r.2 0))) ∧
  (∀ (s : State) (a v : Word) (ws : List Word) (k : Nat), accessOk a.toNat 1 = true →
    State.writePairs (a :: v :: ws) s k = State.writePairs ws (s.bar0Write a.toNat v) (k + b2n (s.pairIgnored a.toNat (s.bar0Write a.toNat v)))) ∧
  (∀ (s : State) (a v : Word) (ws : List Word) (k : Nat), accessOk a.toNat 1 = false →
    State.writePairs (a :: v :: ws) s k = State.writePairs ws s (k + 1)) ∧
  -- READ_REGS
  (∀ (s : State) (n : Nat) (c : Cmd), s.ready n 0x04 c → c.path = 0 →
    (c.len = 0 → Gives (.readRegs n) s (s.endCmd c St.empty 0 0)) ∧
    (c.len % 4 ≠ 0 → Gives (.readRegs n) s (s.endCmd c St.badParam 0 0)) ∧
    (c.len ≠ 0 → c.len % 4 = 0 →
      let r := State.readList (wordsOf (s.hostBytes c.addr c.len)) s
      Gives (.readRegs n) s
        ((r.2.hostPut (c.arg 0 + c.arg 1 * 2 ^ 32) (r.1.flatMap fun w => leBytes w.toNat 4)).endSeq n St.done (c.len / 4) 0))) ∧
  -- LOAD_TABLE
  (∀ (s : State) (n : Nat) (c : Cmd), s.ready n 0x0A c → c.path = 0 →
    let bs := s.hostBytes c.addr c.len
    (c.len = 0 → Gives (.loadTable n) s (s.endCmd c St.empty 0 0)) ∧
    (c.len ≠ 0 → c.arg 0 ∉ [0x20, 0x21, 0x22, 0x23, 0x30, 0x31, 0x32, 0x40, 0x41, 0x50, 0x51, 0x52, 0x53, 0x54] →
      Gives (.loadTable n) s (s.endCmd c St.badParam 0 0)) ∧
    (c.len ≠ 0 → c.arg 0 = 0x20 → c.len % 4 = 0 → c.len ≤ 1028 → c.arg 1 < 384 → s.bld.holding = false →
      Gives (.loadTable n) s
        ((s.sramPut (s.curveShadow + (0x8000 * (c.arg 1 / 16) + 0x800 * (c.arg 1 % 16))) bs).endCmd c St.done c.len 0)) ∧
    (c.len ≠ 0 → c.arg 0 = 0x41 → c.len % 8 = 0 → c.len ≤ 512 →
      Gives (.loadTable n) s
        (({ s with cal := { s.cal with fids := Sys2Proof.Machine.fidsOf (c.len / 8) bs } }).endCmd c St.done c.len 0))) ∧
  -- TRACE_READ
  (∀ (s : State) (n : Nat) (c : Cmd), s.ready n 0x21 c → c.path = 0 →
    (c.arg 1 = 0 → Gives (.traceRead n) s (s.endCmd c St.empty 0 0)) ∧
    (c.arg 1 ≠ 0 → (0x400000 < c.arg 0 + c.arg 1 ∨ c.len ≠ c.arg 1) → Gives (.traceRead n) s (s.endCmd c St.badParam 0 0)) ∧
    (c.arg 1 ≠ 0 → c.arg 0 + c.arg 1 ≤ 0x400000 → c.len = c.arg 1 →
      Gives (.traceRead n) s ((s.hostPut c.addr (s.sramBytes (0x2800000 + c.arg 0) (c.arg 1))).endCmd c St.done (c.arg 1) 0))) ∧
  -- RECORD_READ
  ∀ (s : State) (n : Nat) (c : Cmd), s.ready n 0x20 c → c.path = 0 →
    (c.arg 2 = 0 → Gives (.recordRead n) s (s.endCmd c St.empty 0 0)) ∧
    (c.arg 2 ≠ 0 → (c.len ≠ 256 * c.arg 2 ∨ 1 < c.arg 0) → Gives (.recordRead n) s (s.endCmd c St.badParam 0 0)) ∧
    (c.arg 2 ≠ 0 → c.len = 256 * c.arg 2 → c.arg 0 ≤ 1 →
      let rs := if c.arg 0 = 0 then s.permRecords (c.arg 1) (c.arg 2) else s.circRecords (c.arg 1) (c.arg 2)
      Gives (.recordRead n) s ((s.hostPut c.addr (rs.flatMap cairnImage)).endCmd c St.done rs.length 0))

/-- R409 (a stored block), R411 and R413, with the checks of Table 3-6. The refusal beyond tile 65,535 is the model's (log entry 13). -/
def Obligations.CompressedLoads : Prop :=
  -- LOAD_PROGRAM
  (∀ (s : State) (n : Nat) (c : Cmd), s.ready n 0x08 c → c.path = 0 →
    (c.len = 0 → Gives (.loadProgram n) s (s.endCmd c St.empty 0 0)) ∧
    (c.len ≠ 0 → s.nslots < c.arg 1 → Gives (.loadProgram n) s (s.endCmd c St.badParam 0 0)) ∧
    (c.len ≠ 0 → c.arg 1 ≤ s.nslots → Gives (.loadProgram n) s (s.expand c))) ∧
  -- LOAD_TILES
  (∀ (s : State) (n : Nat) (c : Cmd), s.ready n 0x09 c → c.path = 0 →
    (c.arg 1 = 0 → Gives (.loadTiles n) s (s.endCmd c St.empty 0 0)) ∧
    (c.arg 1 ≠ 0 → (c.len = 0 ∨ s.nslots < c.arg 2 ∨ 65536 < c.arg 0 + c.arg 1) →
      Gives (.loadTiles n) s (s.endCmd c St.badParam 0 0)) ∧
    (c.arg 1 ≠ 0 → c.len ≠ 0 → c.arg 2 ≤ s.nslots → c.arg 0 + c.arg 1 ≤ 65536 → Gives (.loadTiles n) s (s.expand c))) ∧
  -- a stored block
  (∀ (bs rest : List Byte) (last : Bool), bs ≠ [] → bs.length ≤ 4096 →
    sbcStep (sbcStored bs last ++ rest) = .block bs (cdiv (16 + bs.length) 8 * 8) last) ∧
  -- SBC_BLOCK_EXPANDED
  (∀ (s : State) (n ns : Nat) (c : Cmd) (j : SbcJob), s.cmd n = some c → s.hq.sbc.find? (fun x => x.seq = n) = some j → j.bad = false →
    sbcStep (s.dataIn c (c.addr + j.pos) (c.len - j.pos)) = .corrupt →
    Gives (.sbcBlockExpanded n ns) s (((s.arrive ns).inc R.SBC_CORRUPT 1).endJob c St.dataCorrupt 0 j.pos)) ∧
  (∀ (s : State) (n ns next : Nat) (c : Cmd) (bs : List Byte), s.cmd n = some c → c.op = 0x08 → c.arg 1 = 0 → c.arg 0 < 8192 → c.len = next →
    s.hq.sbc.find? (fun x => x.seq = n) = some ⟨n, 0, 0, 0, false⟩ → sbcStep (s.dataIn c c.addr c.len) = .block bs next true →
    Gives (.sbcBlockExpanded n ns) s
      ((((s.arrive ns).inc R.SBC_BLKIN 1).sramPut (4096 * c.arg 0) (bs ++ List.replicate (4096 - bs.length) 0)).endJob c St.done bs.length 0)) ∧
  ∀ (s : State) (n ns : Nat), (s.cmd n = none ∨ s.hq.sbc.find? (fun x => x.seq = n) = none) → Gives (.sbcBlockExpanded n ns) s (s.arrive ns)

/-- R417 with Table 16-2, and R422 for the active pair. -/
def Obligations.UnitResets : Prop :=
  (∀ (s : State) (n : Nat) (c : Cmd), s.ready n 0x30 c →
    let t := c.target
    (epochPlace t = none → Gives (.unitReset n) s (s.endCmd c St.badParam 0 0)) ∧
    (epochPlace t ≠ none → s.mode = .boot → Gives (.unitReset n) s (s.endCmd c St.wrongMode 0 0)) ∧
    -- the active core pair
    (∀ p < 2, t = 1 + p → s.mcpState p = 0 → s.mode ≠ .boot →
      (s.mode ≠ .idle → s.mode ≠ .service → Gives (.unitReset n) s (s.endCmd c St.wrongMode 0 0)) ∧
      ((s.mode = .idle ∨ s.mode = .service) → s.mcpState (1 - p) ≠ 1 → Gives (.unitReset n) s (s.endCmd c St.notReady 0 0)) ∧
      ((s.mode = .idle ∨ s.mode = .service) → s.mcpState (1 - p) = 1 →
        Gives (.unitReset n) s
          { s.putCmd { c with wait := .selfTest } with flt := { s.flt with handover := s.flt.handover ++ [n] } })) ∧
    -- TSC, SBC and the lanes
    (t = 0x10 → s.mode ≠ .boot → s.mode ≠ .idle → s.mode ≠ .service → Gives (.unitReset n) s (s.endCmd c St.wrongMode 0 0)) ∧
    ((t = 0x10 ∧ (s.mode = .idle ∨ s.mode = .service) ∨ t = 0x11 ∨ 0x300 ≤ t ∧ t < 0x320) → s.mode ≠ .boot →
      Gives (.unitReset n) s ((s.resetNow t).endCmd c St.done (((s.resetNow t).unitEpoch t).getD 0) 0)) ∧
    -- sequencers
    (∀ q < 26, t = 0x100 + q → s.mode ≠ .boot →
      (∀ h : Nat, s.headOfSeq q = some h → s.bsqState q = 0 → s.held h ≠ none → Gives (.unitReset n) s (s.endCmd c St.notReady 0 0)) ∧
      ((∀ h : Nat, s.headOfSeq q = some h → s.bsqState q = 0 → s.held h = none) → s.inReset t = false →
        Gives (.unitReset n) s (((s.setBsqState q 3).waitTest c).beginReset t [n])))) ∧
  -- the epoch moves on
  (∀ (s : State) (t : Nat) (r : Nat) (f : Fld), epochPlace t = some (r, f) → (s.bumpEpoch t).unitEpoch t = some ((s.fld r f + 1) % 16)) ∧
  -- UNIT_SELF_TEST_DONE
  (∀ (s : State) (q ns : Nat), q < 26 → s.flt.resets = [(0x100 + q, [])] →
    (Runs (.unitSelfTestDone (0x100 + q) 1 ns) s fun t =>
      t.flt.resets = [] ∧ t.bsqState q = (if (s.headOfSeq q).isSome then 0 else 1)) ∧
    (s.headOfSeq q = none → Runs (.unitSelfTestDone (0x100 + q) 0 ns) s fun t => t.flt.resets = [] ∧ t.bsqState q = 2)) ∧
  ∀ (s : State) (unit ok ns : Nat), s.inReset unit = false → Gives (.unitSelfTestDone unit ok ns) s (s.arrive ns)

/-- R443 and R444. `State.authFails` records the failure and takes the lane to FAILED. -/
def Obligations.HeadTrust : Prop :=
  -- HEAD_AUTH
  (∀ (s : State) (n : Nat) (c : Cmd), s.ready n 0x31 c →
    let h := c.target
    (24 ≤ h → Gives (.headAuth n) s (s.endCmd c St.badParam 0 0)) ∧
    (h < 24 → (s.inService h = false ∨ s.role h ≠ 0 ∨ (s.lane h).auth ≠ none) → Gives (.headAuth n) s (s.endCmd c St.notReady 0 0)) ∧
    (h < 24 → s.inService h = true → s.role h = 0 → (s.lane h).auth = none →
      Gives (.headAuth n) s ((s.putCmd { c with wait := .auth }).authStart h (some n)))) ∧
  -- AUTH_COMPLETE
  (∀ (s : State) (n ns : Nat) (a : Auth), n < 24 → (s.lane n).auth = some a → (a.failed = true ∨ 18 ≤ a.step) →
    let x := s.arrive ns
    (s.laneState n = Ln.auth → a.seq = none → Gives (.authComplete n ns) s
      (if x.authFault n a = 0 then (x.setLane n { s.lane n with auth := none, cert := a.cert }).laneTo n Ln.service 1
       else x.authFails n (x.authFault n a) a)) ∧
    (s.laneState n = Ln.service → a.failed = true → Gives (.authComplete n ns) s (x.authFails n (x.authFault n a) a))) ∧
  (∀ (s : State) (n ns : Nat), (24 ≤ n ∨ (s.lane n).auth = none) →
    Gives (.authComplete n ns) s (s.arrive ns) ∧ Gives (.authTimeout n ns) s (s.arrive ns)) ∧
  -- AUTH_TIMEOUT
  (∀ (s : State) (n ns : Nat) (a : Auth), n < 24 → (s.lane n).auth = some a →
    (a.at_ + 100000000 ≤ (s.arrive ns).now → Gives (.authTimeout n ns) s ((s.arrive ns).authFails n 4 a)) ∧
    ((s.arrive ns).now < a.at_ + 100000000 → Gives (.authTimeout n ns) s (s.arrive ns))) ∧
  -- REAUTH_TIMER
  ∀ (s : State) (ns : Nat),
    let per := s.fld R.LCS_REAUTH F.LCS_REAUTH_PER
    let x := s.arrive ns
    ((per = 0 ∨ x.now < s.lcs.reauthAt + per * 1000000000) → Gives (.reauthTimer ns) s x) ∧
    (per ≠ 0 → s.lcs.reauthAt + per * 1000000000 ≤ x.now →
      ((∀ h < 24, s.inService h = true → s.role h = 0 → (s.lane h).auth ≠ none) →
        Gives (.reauthTimer ns) s { x with lcs := { s.lcs with reauthAt := x.now } }) ∧
      ∀ g < 24, s.inService g = true → s.role g = 0 → (s.lane g).auth = none →
        (∀ h < 24, h ≠ g → s.inService h = false) →
        Gives (.reauthTimer ns) s (({ x with lcs := { s.lcs with reauthAt := x.now } }).authAgain g))

/-- R441 and R442 for FW_UPDATE, R436 and R454 for the transition. `State.imageOk` is R440's judgement. -/
def Obligations.FirmwareAndLifeCycle : Prop :=
  -- FW_UPDATE
  (∀ (s : State) (n : Nat) (c : Cmd), s.ready n 0x32 c → c.path = 0 →
    let image := s.hostBytes c.addr c.len
    let fits := 352 ≤ c.len ∧ c.len = hdr image 4 4 + hdr image 16 4
    (¬ fits → Gives (.fwUpdate n) s (s.endCmd c St.badParam 0 0)) ∧
    (fits → s.lcs.update ≠ none → Gives (.fwUpdate n) s (s.endCmd c St.notReady 0 0)) ∧
    (fits → s.lcs.update = none → s.flashOpen = false →
      Gives (.fwUpdate n) s (s.endCmd c (if s.imageOk image then St.notReady else St.authFail) 0 0)) ∧
    (fits → s.lcs.update = none → s.flashOpen = true →
      let y := (s.putCmd { c with wait := .image }).setFld R.LCS_STAT F.LCS_STAT_UPDATING 1
      let slot := 1 - s.fld R.LCS_STAT F.LCS_STAT_SLOT
      Gives (.fwUpdate n) s (if s.imageOk image then
          { y with lcs := { s.lcs with update := some ⟨n, image, slot, 0, 0⟩, images := sput (fun _ => []) slot [0] s.lcs.images } }
        else s.endCmd c St.authFail 0 0))) ∧
  -- FW_IMAGE_WRITE_DONE
  (∀ (s : State) (ns : Nat) (u : FwUpdate), s.lcs.update = some u → u.step = 0 →
    let x := s.arrive ns
    let stored : State := { x with lcs := { s.lcs with images := sput (fun _ => []) u.slot u.image s.lcs.images } }
    let p := 1 - s.activeMcp
    Gives (.fwImageWriteDone false ns) s (x.fwEnd u St.dataCorrupt 0) ∧
    (s.mcpState p ≠ 1 → Gives (.fwImageWriteDone true ns) s (stored.fwEnd u St.done 0)) ∧
    (s.mcpState p = 1 →
      let y := (stored.setMcp p 3).beginReset (1 + p) []
      Gives (.fwImageWriteDone true ns) s { y with lcs := { y.lcs with update := some { u with step := 1, pair := p } } })) ∧
  (∀ (s : State) (ok : Bool) (ns : Nat), s.lcs.update = none → Gives (.fwImageWriteDone ok ns) s (s.arrive ns)) ∧
  -- LIFECYCLE_TRANSITION
  (∀ (s : State) (v : Word), (s.mode = .boot ∨ fget v F.LCS_LC_REQ_GO = 0) → Gives (.lifecycleTransition v) s s) ∧
  (∀ (s : State) (v : Word) (a b : Nat), s.mode ≠ .boot → fget v F.LCS_LC_REQ_GO = 1 → s.lcs.transition = some (a, b) →
    ((s.unlocked = false ∨ a ≠ s.lc ∨ lcStep a b = false ∨ s.lcs.burned ≠ none ∨ s.fld R.PWR_STAT F.PWR_STAT_VFUSE_LOW = 1) →
      Gives (.lifecycleTransition v) s (s.setFld R.LCS_STAT F.LCS_STAT_LC_REJ 1)) ∧
    (s.unlocked = true → a = s.lc → lcStep a b = true → s.lcs.burned = none → s.fld R.PWR_STAT F.PWR_STAT_VFUSE_LOW = 0 →
      Gives (.lifecycleTransition v) s
        ((({ s with lcs := { s.lcs with burned := some b } }).setFld R.LCS_STAT F.LCS_STAT_LC_PEND 1).cairn 13 4 true
          (leBytes a 1 ++ leBytes b 1)))) ∧
  ∀ (s : State) (v : Word), s.mode ≠ .boot → fget v F.LCS_LC_REQ_GO = 1 → s.lcs.transition = none →
    Gives (.lifecycleTransition v) s (s.setFld R.LCS_STAT F.LCS_STAT_LC_REJ 1)

/-- R420 to R423. `State.coreLost` is the end of the started commands; that 0x03 stands for 0x01 and 0x04 without a standby is the model's reading (log entry 29). -/
def Obligations.CorePairs : Prop :=
  (∀ (s : State) (ns : Nat),
    let x := s.arrive ns
    let p := s.activeMcp
    let failed := (x.setMcp p 2).bumpEpoch (1 + p)
    (s.mcpState p = 0 → s.mcpState (1 - p) = 1 →
      let taken := ((failed.setMcp (1 - p) 0).inc R.FLT_TAKEOVERS 1).coreLost.degrSync
      Gives (.mcpLockstepMismatch ns) s (taken.report 0x01 (1 + p) 0 0 0) ∧ Gives (.mcpWatchdogExpiry ns) s (taken.report 0x04 (1 + p) 0 0 0)) ∧
    (s.mcpState p = 0 → s.mcpState (1 - p) ≠ 1 →
      Gives (.mcpLockstepMismatch ns) s (failed.coreLost.degrSync.report 0x03 (1 + p) 0 0 0) ∧
      Gives (.mcpWatchdogExpiry ns) s (failed.coreLost.degrSync.report 0x03 (1 + p) 0 0 0)) ∧
    (s.mcpState p ≠ 0 → Gives (.mcpLockstepMismatch ns) s x ∧ Gives (.mcpWatchdogExpiry ns) s x) ∧
    (s.mcpState (1 - p) = 1 →
      Gives (.mcpStandbyMismatch ns) s (((x.setMcp (1 - p) 2).bumpEpoch (1 + (1 - p))).degrSync.report 0x02 (1 + (1 - p)) 0 0 0)) ∧
    (s.mcpState (1 - p) ≠ 1 → Gives (.mcpStandbyMismatch ns) s x)) ∧
  (∀ s : State, (∀ c ∈ s.coreLost.hq.cmds, c.started = false) ∧ s.coreLost.hq.sbc = [] ∧ s.coreLost.lcs.update = none) ∧
  (∀ (s : State) (p v : Nat), p < 2 → v < 4 → (s.setMcp p v).mcpState p = v ∧ (s.setMcp p v).mcpState (1 - p) = s.mcpState (1 - p)) ∧
  -- MCP_HANDOVER
  (∀ s : State, s.handoverDue ≠ [] → (∀ c ∈ s.hq.cmds, c.started = true → c.seq ∈ s.handoverDue) → s.mcpState (1 - s.activeMcp) = 1 →
    Gives .mcpHandover s s.handOver) ∧
  ∀ s : State, (s.handoverDue = [] ∨ (∃ c ∈ s.hq.cmds, c.started = true ∧ c.seq ∉ s.handoverDue) ∨ s.mcpState (1 - s.activeMcp) ≠ 1) →
    Gives .mcpHandover s s

/-- R425 and R426 for a sequencer that runs no tile, R428 to R430 for memory errors by region. -/
def Obligations.SequencersAndMemoryErrors : Prop :=
  -- BSQ_CHECKER_MISMATCH
  (∀ (s : State) (n ns : Nat), n < 26 →
    let x := s.arrive ns
    (s.bsqState n = 1 → Gives (.bsqCheckerMismatch [0x100 + n] ns) s (x.bsqFailed n)) ∧
    (s.bsqState n = 2 ∨ s.bsqState n = 3 → Gives (.bsqCheckerMismatch [0x100 + n] ns) s x) ∧
    (∀ h m : Nat, s.bsqState n = 0 → s.headOfSeq n = some h → (s.seq n).running = false → sget (fun _ => 0) h s.tsc.removedAt ≠ s.tick + 1 →
      s.freeSpare = some m →
      Runs (.bsqCheckerMismatch [0x100 + n] ns) s fun t => t.bsqState n = 2 ∧ t.bsqState m = 0 ∧ t.seqOf h = m ∧
        t.rd R.FLT_TAKEOVERS = satAdd (s.rd R.FLT_TAKEOVERS) 1) ∧
    (∀ h : Nat, s.bsqState n = 0 → s.headOfSeq n = some h → (s.seq n).running = false → sget (fun _ => 0) h s.tsc.removedAt ≠ s.tick + 1 →
      s.freeSpare = none →
      let k := s.tick + 2
      let q := (s.verified n k).getD (s.seq n)
      Gives (.bsqCheckerMismatch [0x100 + n] ns) s
        ((((x.bsqFailed n).setSeq n q).removeHeadAt h 2 (1250 * k) 0).report 0x11 (0x100 + n) h 0 (k % 2 ^ 32)))) ∧
  -- corrected errors
  (∀ (s : State) (a ns : Nat),
    (a < 0x4000000 → Gives (.sramCorrectedError a ns) s ((((s.arrive ns).inc R.FLT_SRAM_CE 1).errAddr false a).ceReport 0 a)) ∧
    (0x4000000 ≤ a → Gives (.sramCorrectedError a ns) s (s.arrive ns)) ∧
    (a < 2 ^ 40 → Gives (.dramCorrectedError a ns) s ((((s.arrive ns).inc R.FLT_DRAM_CE 1).errAddr true a).ceReport 1 a)) ∧
    (2 ^ 40 ≤ a → Gives (.dramCorrectedError a ns) s (s.arrive ns))) ∧
  (∀ (s : State) (i a : Nat), bit s.flt.ceReported i = true → s.now < s.flt.ceSince.getD i 0 + 1000000 → s.ceReport i a = s) ∧
  -- uncorrectable errors in SRAM
  (∀ (s : State) (a ns : Nat),
    let x : State := ((s.arrive ns).inc R.FLT_SRAM_UE 1).errAddr false a
    let y : State := { x with mem := { s.mem with sramBad := sput (fun _ => false) (a / 8) true s.mem.sramBad } }
    ((a < 0x2800000 ∨ 0x3000000 ≤ a ∧ a < 0x3300000 ∨ 0x3600000 ≤ a ∧ a < 0x3680000) →
      Gives (.sramUncorrectableError a ns) s (y.report 0x21 0xFFFF a 0 0)) ∧
    ((0x2800000 ≤ a ∧ a < 0x2C00000 ∨ 0x3300000 ≤ a ∧ a < 0x3440000 ∨ 0x3A80000 ≤ a ∧ a < 0x4000000) →
      Gives (.sramUncorrectableError a ns) s (y.report 0x22 0xFFFF a 0 0)) ∧
    (0x3680000 ≤ a → a < 0x3880000 → Gives (.sramUncorrectableError a ns) s (y.mcpFail 0 0x01)) ∧
    (0x3880000 ≤ a → a < 0x3A80000 → Gives (.sramUncorrectableError a ns) s (y.mcpFail 1 0x01)) ∧
    (0x4000000 ≤ a → Gives (.sramUncorrectableError a ns) s (s.arrive ns))) ∧
  -- uncorrectable errors in DRAM
  ∀ (s : State) (a ns : Nat),
    (a < 2 ^ 40 → s.dramRegionOf a ≠ some 3 → s.dramRegionOf a ≠ some 4 →
      let x : State := ((s.arrive ns).inc R.FLT_DRAM_UE 1).errAddr true a
      Gives (.dramUncorrectableError a ns) s
        (({ x with mem := { s.mem with dramBad := sput (fun _ => false) (a / 32) true s.mem.dramBad } }).report 0x25 0xFFFF (a % 2 ^ 32) 0 0)) ∧
    (2 ^ 40 ≤ a → Gives (.dramUncorrectableError a ns) s (s.arrive ns))

/-- R453, R456 and R462 (the resets), R457, R459 and R440 (the boot). What the reset keeps of the host's memory and the queue is the model's reading (log entry 31). -/
def Obligations.ResetAndBoot : Prop :=
  -- the resets
  (∀ (s : State) (ns : Nat), Gives (.resetNAssert ns) s ((s.arrive ns).deviceReset 1)) ∧
  (∀ (s : State) (rail ns : Nat), rail < 9 →
    Gives (.powerOnReset rail ns) s
      (((s.arrive ns).setFld R.PWR_MON F.PWR_MON_RAIL (setBit (s.fld R.PWR_MON F.PWR_MON_RAIL) rail false)).deviceReset 0)) ∧
  (∀ (s : State) (rail ns : Nat), 9 ≤ rail → Gives (.powerOnReset rail ns) s (s.arrive ns)) ∧
  (∀ (s : State) (ns : Nat),
    let due := s.pwr.pfailAt ≠ none ∧ s.fld R.PWR_STAT F.PWR_STAT_PFAIL = 0 ∧ s.pwr.highAt + 10000000 ≤ (s.arrive ns).now ∧
      s.fld R.PWR_MON F.PWR_MON_RAIL = 0x3FF
    (due → Gives (.pfailRecoveryReset ns) s ((s.arrive ns).deviceReset 2)) ∧ (¬ due → Gives (.pfailRecoveryReset ns) s (s.arrive ns))) ∧
  (∀ (s : State) (cause : Nat), cause < 3 →
    let t := s.deviceReset cause
    t.mode = .boot ∧ t.fld R.PWR_STAT F.PWR_STAT_RSTCAUSE = cause ∧ t.mem.sram = [] ∧ t.mem.dram = [] ∧ t.mem.host = s.mem.host ∧
      t.pending = s.pending ∧ t.hq = Hq.reset ∧ t.seqs = [] ∧ t.pwr.held = true ∧ t.recd.permSlots = s.recd.permSlots ∧
      (s.lcs.burned = none → t.lc = s.lc)) ∧
  -- RESET_END
  (∀ (s : State) (ns : Nat),
    (s.pwr.held = true → Runs (.resetEnd ns) s fun t => t.pwr.held = false ∧ t.fld R.PWR_MON F.PWR_MON_RAIL % 512 = 511) ∧
    (s.pwr.held = false → Gives (.resetEnd ns) s (s.arrive ns))) ∧
  -- PLL_LOCK
  (∀ (s : State) (ns : Nat), s.booting = true →
    Gives (.pllLock 0 ns) s { s.arrive ns with pwr := { s.pwr with core := true } } ∧
    (s.pwr.time = false → Runs (.pllLock 1 ns) s fun t => t.pwr.time = true ∧ t.tick = 0 ∧ t.now = 0 ∧ t.mode = .boot)) ∧
  -- BOOT_IMAGE_VERIFIED
  (∀ (s : State) (a b : List Byte) (ns : Nat), s.booting = true → s.pwr.core = true → s.pwr.image = false →
    s.fld R.LCS_STAT F.LCS_STAT_BOOTERR = 0 → s.lcs.images = [] →
    Runs (.bootImageVerified a b ns) s fun t => t.mode = .boot ∧ (s.imageOk a = true ∨ s.imageOk b = true ↔ t.pwr.image = true) ∧
      t.fld R.LCS_STAT F.LCS_STAT_BOOTERR = (if s.imageOk a || s.imageOk b then 0 else 1) ∧
      (s.imageOk a = true → s.imageOk b = false → t.fld R.LCS_STAT F.LCS_STAT_SLOT = 0) ∧
      (s.imageOk a = false → s.imageOk b = true → t.fld R.LCS_STAT F.LCS_STAT_SLOT = 1)) ∧
  -- DRAM_TRAINING_DONE
  (∀ (s : State) (c c' rate rate' mib mib' ns : Nat), s.booting = true → c < 2 → c' ≠ c → rate < 3 → rate' < 3 →
    s.pwr.dram = [(c', rate', mib')] →
    Runs (.dramTrainingDone c rate mib ns) s fun t => t.fld R.PWR_STAT F.PWR_STAT_DDR_RATE = max rate' rate ∧
      t.rd R.GLB_DRAM_CAP = BitVec.ofNat 32 (min 65535 ((mib' + mib) * 15 / 16)) ∧ t.pwr.dram.length = 2) ∧
  (∀ (s : State) (c mib ns : Nat), s.booting = true → c < 2 → s.pwr.dram = [] →
    Runs (.dramTrainingDone c 3 mib ns) s fun t => bit (t.fld R.PWR_STAT F.PWR_STAT_DRAM_FAIL) c = true) ∧
  -- SELF_TEST_PASS
  (∀ (s : State) (ns : Nat),
    let passed := s.booting = true ∧ s.lc ≠ 4 ∧ s.pwr.core = true ∧ s.pwr.time = true ∧ s.pwr.image = true ∧ s.pwr.dram.length = 2 ∧
      s.fld R.PWR_STAT F.PWR_STAT_DRAM_FAIL = 0
    (passed → Runs (.selfTestPass ns) s fun t => t.mode = .idle) ∧ (¬ passed → Gives (.selfTestPass ns) s (s.arrive ns))) ∧
  -- out of the boot
  ∀ (s : State) (a b : List Byte) (ns c rate mib : Nat), s.booting = false →
    Gives (.pllLock c ns) s (s.arrive ns) ∧ Gives (.bootImageVerified a b ns) s (s.arrive ns) ∧
    Gives (.dramTrainingDone c rate mib ns) s (s.arrive ns)

/-- R460, R462, R82 and R405 for power-fail, R454 and R455 for supplies, R465 for clocks, R399 for OPTIME. -/
def Obligations.PowerFailAndClocks : Prop :=
  -- PFAIL_ASSERT
  (∀ (s : State) (ns : Nat), s.pwr.held = false → s.fld R.PWR_STAT F.PWR_STAT_PFAIL = 0 → s.pwr.pfailAt = none → s.mode ≠ .boot →
    Runs (.pfailAssert ns) s fun t => t.fld R.PWR_STAT F.PWR_STAT_PFAIL = 1 ∧ t.fld R.PWR_STAT F.PWR_STAT_SEALED = 1 ∧
      t.pwr.pfailAt = some (s.arrive ns).now ∧ t.recd.powerFail = true ∧ (safeFrom s.mode = true → t.mode = .safe) ∧
      (safeFrom s.mode = false → t.mode = s.mode)) ∧
  (∀ (s : State) (ns : Nat), s.pwr.held = false → s.fld R.PWR_STAT F.PWR_STAT_PFAIL = 0 → s.pwr.pfailAt = none → s.mode = .boot →
    Runs (.pfailAssert ns) s fun t => t.fld R.PWR_STAT F.PWR_STAT_PFAIL = 1 ∧ t.pwr.pfailAt = some (s.arrive ns).now ∧ t.booting = false ∧
      t.recd.flushEnd = true ∧ t.mode = .boot) ∧
  (∀ (s : State) (ns : Nat), s.pwr.held = false → s.fld R.PWR_STAT F.PWR_STAT_PFAIL = 0 → s.pwr.pfailAt ≠ none →
    Gives (.pfailAssert ns) s ((s.arrive ns).setFld R.PWR_STAT F.PWR_STAT_PFAIL 1)) ∧
  (∀ (s : State) (ns : Nat), (s.pwr.held = true ∨ s.fld R.PWR_STAT F.PWR_STAT_PFAIL = 1) → Gives (.pfailAssert ns) s (s.arrive ns)) ∧
  -- JOURNAL_SEAL and FLUSH_DEADLINE
  (∀ (s : State) (ns x : Nat), s.fld R.PWR_STAT F.PWR_STAT_SEALED = 1 → s.pwr.pfailAt = some x →
    (x + 1000000 ≤ (s.arrive ns).now → Runs (.journalSeal ns) s fun t => t.fld R.HQ_JRN_CTRL F.HQ_JRN_CTRL_SEALED = 1) ∧
    ((s.arrive ns).now < x + 1000000 → Gives (.journalSeal ns) s (s.arrive ns)) ∧
    (x + 1800000 ≤ (s.arrive ns).now → Runs (.flushDeadline ns) s fun t => t.recd.flushEnd = true) ∧
    ((s.arrive ns).now < x + 1800000 → Gives (.flushDeadline ns) s (s.arrive ns))) ∧
  (∀ (s : State) (ns : Nat), s.pwr.pfailAt = none →
    Gives (.journalSeal ns) s (s.arrive ns) ∧ Gives (.flushDeadline ns) s (s.arrive ns)) ∧
  -- PFAIL_DEASSERT
  (∀ (s : State) (ns : Nat), s.fld R.PWR_STAT F.PWR_STAT_PFAIL = 1 →
    Gives (.pfailDeassert ns) s
      { (s.arrive ns).setFld R.PWR_STAT F.PWR_STAT_PFAIL 0 with pwr := { s.pwr with highAt := (s.arrive ns).now } }) ∧
  -- SUPPLY_WINDOW_EXIT
  (∀ (s : State) (rail ns : Nat), rail < 9 →
    let x (inside : Bool) : State := (s.arrive ns).setFld R.PWR_MON F.PWR_MON_RAIL (setBit (s.fld R.PWR_MON F.PWR_MON_RAIL) rail inside)
    let latched := (x false).setFld R.PWR_LATCH F.PWR_LATCH_RAIL (setBit (s.fld R.PWR_LATCH F.PWR_LATCH_RAIL) rail true)
    Gives (.supplyWindowExit rail true ns) s (x true) ∧
    ((s.fld R.PWR_STAT F.PWR_STAT_PFAIL = 1 ∨ s.pwr.held = true) → Gives (.supplyWindowExit rail false ns) s latched) ∧
    (s.fld R.PWR_STAT F.PWR_STAT_PFAIL = 0 → s.pwr.held = false →
      Gives (.supplyWindowExit rail false ns) s (latched.report 0x58 0xFFFF rail 0 0))) ∧
  (∀ (s : State) (inside : Bool) (ns : Nat), Runs (.supplyWindowExit 9 inside ns) s fun t =>
    t.fld R.PWR_STAT F.PWR_STAT_VFUSE_LOW = b2n (!inside) ∧ t.mode = s.mode) ∧
  -- clocks
  (∀ (s : State) (ns : Nat),
    (s.pwr.held = false →
      Gives (.sysclkLoss ns) s (({ s.arrive ns with pwr := { s.pwr with clockBad := true } }).report 0x59 0xFFFF 0 0 0) ∧
      Gives (.xo32Loss ns) s ((s.arrive ns).setFld R.PWR_STAT F.PWR_STAT_NOXO 1) ∧
      Gives (.optimeSecond ns) s ((s.arrive ns).wr R.REC_OPTIME (BitVec.ofNat 32 ((s.rd R.REC_OPTIME).toNat + 1)))) ∧
    (s.pwr.held = true →
      Gives (.sysclkLoss ns) s (s.arrive ns) ∧ Gives (.xo32Loss ns) s (s.arrive ns) ∧ Gives (.optimeSecond ns) s (s.arrive ns))) ∧
  ∀ (s : State) (ns : Nat), Runs (.ethRefclkLoss ns) s fun t =>
    t.fld (R.TIM_P_STAT 0) F.TIM_P_STAT_LINK = 0 ∧ t.fld (R.TIM_P_STAT 1) F.TIM_P_STAT_LINK = 0

/-- R323, R328, R329 and R331. The free POS[15:0] is log entry 5. -/
def Obligations.WaymarksAndProducts : Prop :=
  -- WAYMARK_LOAD
  (∀ (s : State) (n : Nat) (c : Cmd), s.ready n 0x10 c → c.path = 0 →
    let rs := (List.range (c.arg 0)).map fun i => s.hostBytes (c.addr + 16 * i) 16
    let wrong := ∃ p ∈ rs, s.wmLen c.target ≤ leNat (p.take 2) ∨ leNat ((p.drop 7).take 1) ≠ 0 ∨ 4 ≤ leNat ((p.drop 10).take 2) ∨
      leNat ((p.drop 12).take 4) ≠ 0
    (8 ≤ c.target → Gives (.waymarkLoad n) s (s.endCmd c St.badParam 0 0)) ∧
    (c.target < 8 → c.arg 0 = 0 → Gives (.waymarkLoad n) s (s.endCmd c St.empty 0 0)) ∧
    (c.target < 8 → c.arg 0 ≠ 0 → (c.len ≠ 16 * c.arg 0 ∨ wrong) → Gives (.waymarkLoad n) s (s.endCmd c St.badParam 0 0)) ∧
    (c.target < 8 → c.arg 0 ≠ 0 → c.len = 16 * c.arg 0 → ¬ wrong →
      Gives (.waymarkLoad n) s ((rs.foldl (fun t p => t.wmLoad c.target p) s).endCmd c St.done (c.arg 0) 0))) ∧
  (∀ (s : State) (a : Nat) (p : List Byte), a < 8 → p.length = 16 →
    let i := leNat (p.take 2)
    (leNat ((p.drop 6).take 1) % 2 = 0 →
      (s.wmLoad a p).sramBytes (wmAddr a i + 2) 8 = (p.drop 2).take 8 ∧ ((s.wmLoad a p).wm a i).state = 0) ∧
    (leNat ((p.drop 6).take 1) % 2 = 1 → s.axValid a = false →
      (s.wmLoad a p).sramBytes (wmAddr a i + 2) 8 = (p.drop 2).take 8 ∧ ((s.wmLoad a p).wm a i).state = 1)) ∧
  -- PRODUCT_PUSH
  (∀ (s : State) (n : Nat) (c : Cmd), s.ready n 0x11 c → c.path = 0 →
    let rs := (List.range (c.arg 0)).map fun i => s.hostBytes (c.addr + 32 * i) 32
    let w := s.fld R.AXF_PQ_STAT F.AXF_PQ_STAT_WPTR
    let taken := ∃ i < c.arg 0, s.prodState ((w + i) % 4096) = 1 ∨ s.prodState ((w + i) % 4096) = 2
    (c.arg 0 = 0 → Gives (.productPush n) s (s.endCmd c St.empty 0 0)) ∧
    (c.arg 0 ≠ 0 → (c.len ≠ 32 * c.arg 0 ∨ ∃ p ∈ rs, s.pushBad p = true) → Gives (.productPush n) s (s.endCmd c St.badParam 0 0)) ∧
    (c.arg 0 ≠ 0 → c.len = 32 * c.arg 0 → (∀ p ∈ rs, s.pushBad p = false) → (4096 < c.arg 0 ∨ taken) →
      Gives (.productPush n) s (s.endCmd c St.notReady 0 0)) ∧
    (c.arg 0 = 1 → c.len = 32 → s.pushBad (s.hostBytes c.addr 32) = false → ¬ taken →
      bit (leNat (((s.hostBytes c.addr 32).drop 2).take 1)) 2 = false → w < 4096 →
      Gives (.productPush n) s
        ((((s.sramPut (prodAddr w)
            (s.hostBytes c.addr 32 ++ leBytes 0 6 ++ leBytes 1 1 ++ leBytes 0 1 ++ leBytes 31 1 ++ leBytes 0 23)).setFld R.AXF_PQ_STAT
          F.AXF_PQ_STAT_WPTR ((w + 1) % 4096)).setFld R.AXF_PQ_STAT F.AXF_PQ_STAT_INFLIGHT
          (s.fld R.AXF_PQ_STAT F.AXF_PQ_STAT_INFLIGHT + 1)).endCmd c St.done 1 0))) ∧
  -- PRODUCT_DETECT_EDGE
  (∀ (s : State) (d ns frac : Nat), (4 ≤ d ∨ s.pdFld d F.AXF_PDET_CFG_EN = 0) → Gives (.productDetectEdge d ns frac) s (s.arrive ns)) ∧
  (∀ (s : State) (d ns frac : Nat), d < 4 → s.pdFld d F.AXF_PDET_CFG_EN = 1 → s.mode ≠ .boot →
    let x := s.arrive ns
    let pd := s.pos (s.pdFld d F.AXF_PDET_CFG_AXIS)
    let bound : State := { x with axf := { s.axf with lastPd := sput (fun _ => none) d (some pd) s.axf.lastPd } }
    (∀ p : Int, sget (fun _ => none) d s.axf.lastPd = some p → s.pdFld d F.AXF_PDET_CFG_BLANK ≠ 0 →
      (diff48 pd p).natAbs ≤ s.pdFld d F.AXF_PDET_CFG_BLANK → Gives (.productDetectEdge d ns frac) s (x.inc (R.AXF_PDET_BLANKED d) 1)) ∧
    (s.pdFld d F.AXF_PDET_CFG_BLANK = 0 →
      (∀ r : Nat, s.oldestWait d = some r →
        Gives (.productDetectEdge d ns frac) s (bound.track r pd ((x.nowTs + frac % 65536) % 2 ^ 64) (x.fine frac))) ∧
      (s.oldestWait d = none → s.pdFld d F.AXF_PDET_CFG_NOREC_REJ = 0 →
        Gives (.productDetectEdge d ns frac) s (bound.inc (R.AXF_PDET_NOREC d) 1)))) ∧
  -- PRODUCT_CLOSE
  (∀ (s : State) (r ns frac : Nat), (4096 ≤ r ∨ s.prodState r ≠ 2) → Gives (.productClose r ns frac) s (s.arrive ns)) ∧
  ∀ (s : State) (r ns frac : Nat),
    let d := s.sramNat (prodAddr r + 2) 1 % 4
    let axis := s.pdFld d F.AXF_PDET_CFG_AXIS
    r < 4096 → s.prodState r = 2 → s.axValid axis = true → 0 ≤ diff48 (s.pos axis) (s.prodPd r + intOf (s.lv (R.AXF_PDET_REJOFS d))) →
    s.fld R.AXF_PQ_CFG F.AXF_PQ_CFG_QREC = 0 →
    Runs (.productClose r ns frac) s fun t => t.prodState r = 3 ∧
      t.fld R.AXF_PQ_STAT F.AXF_PQ_STAT_INFLIGHT = s.fld R.AXF_PQ_STAT F.AXF_PQ_STAT_INFLIGHT - 1

/-- R333, R334 and R335. -/
def Obligations.MediumAndNodes : Prop :=
  let known (code t a1 a2 : Nat) : Prop := ((1 ≤ code ∧ code ≤ 4) ∨ (0x100 ≤ code ∧ code ≤ 0xFFFF)) ∧ t ≤ 511 ∧ (code = 2 → a1 = 0) ∧
    (code = 4 → a1 ≤ 1 ∧ a2 = 0)
  -- MEDIUM
  (∀ (s : State) (n : Nat) (c : Cmd), s.ready n 0x12 c →
    let t := c.target
    let held := ∃ m < 4, s.fld (R.AXF_MD_STAT m) F.AXF_MD_STAT_ACTIVE = 1 ∧ s.lfld (R.AXF_MD_CFG m) F.AXF_MD_CFG_NODE = t
    (¬ known (c.arg 0) t (c.arg 1) (c.arg 2) → Gives (.medium n) s (s.endCmd c St.badParam 0 0)) ∧
    (known (c.arg 0) t (c.arg 1) (c.arg 2) →
      (c.arg 0 = 3 → c.arg 1 = 0 → Gives (.medium n) s (s.endCmd c St.empty 0 0)) ∧
      (¬ (c.arg 0 = 3 ∧ c.arg 1 = 0) → (s.nodeUp t = false ∨ held ∧ c.arg 0 ≠ 2) → Gives (.medium n) s (s.endCmd c St.notReady 0 0)) ∧
      (¬ (c.arg 0 = 3 ∧ c.arg 1 = 0) → s.nodeUp t = true → ¬ held →
        Gives (.medium n) s
          ((s.putCmd { c with wait := .reply }).sendMsg (t / 16) (t % 16) Mk.cmd (c.arg 0) 1
            [BitVec.ofNat 32 (c.arg 1), BitVec.ofNat 32 (c.arg 2), 0, 0] (.medium c.seq))))) ∧
  -- the web Switchback
  (∀ (s : State) (m : Nat), m < 4 →
    let ph := s.fld (R.AXF_MD_STAT m) F.AXF_MD_STAT_PHASE
    let d := s.md m
    (d.moving = true → 16 ≤ d.still → ph = 1 → Gives (.webSwitchbackStopped m) s (s.setFld (R.AXF_MD_STAT m) F.AXF_MD_STAT_PHASE 2)) ∧
    (d.moving = true → 16 ≤ d.still → ph = 3 → Gives (.webSwitchbackStopped m) s (s.webRestart m)) ∧
    ((d.moving = false ∨ d.still < 16 ∨ ph = 2 ∨ ph = 4) → Gives (.webSwitchbackStopped m) s s) ∧
    (ph = 2 → (∀ n ∈ d.waiting, (s.seq n).colRun.starved = false) → d.back ≠ 0 →
      Gives (.webSwitchbackReady m) s
        ((s.setFld (R.AXF_MD_STAT m) F.AXF_MD_STAT_PHASE 3).webSend m 3 (if d.speed < 0 then (d.back : Int) else -(d.back : Int)))) ∧
    (ph ≠ 2 → Gives (.webSwitchbackReady m) s s) ∧
    (ph = 4 → d.moving = true →
      Gives (.webSwitchbackRestart m) s
        ((d.waiting.foldl (fun t n => (t.inc (R.BSQ_SWBCNT n) 1).setFld (R.BSQ_SWB n) F.BSQ_SWB_WEB 1) s).webEnd m)) ∧
    ((ph ≠ 4 ∨ d.moving = false) → Gives (.webSwitchbackRestart m) s s)) ∧
  -- AI_STALE
  (∀ (s : State) (j ns : Nat), j < 8 → s.fld (R.AXF_AI_CFG j) F.AXF_AI_CFG_EN = 1 →
    let due := sget (fun _ => 0) j s.axf.aiAt + (s.fld R.AXF_AI_TMO F.AXF_AI_TMO_TMO + 1) * 1000
    (due ≤ (s.arrive ns).now →
      Gives (.aiStale j ns) s ((s.arrive ns).setFld R.AXF_AI_STAT F.AXF_AI_STAT_STALE (setBit (s.fld R.AXF_AI_STAT F.AXF_AI_STAT_STALE) j true))) ∧
    ((s.arrive ns).now < due → Gives (.aiStale j ns) s (s.arrive ns))) ∧
  -- EVT_MESSAGE_RECEIVE
  (∀ (s : State) (n pos ns j : Nat) (w v : Word) (rest : List Word), n < 32 → talks (s.laneState n) = true → s.mode ≠ .boot →
    w.toNat % 256 = 2 → w.toNat / 256 % 8 = j →
    (s.fld (R.AXF_AI_CFG j) F.AXF_AI_CFG_EN = 1 → s.fld (R.AXF_AI_CFG j) F.AXF_AI_CFG_NODE = 16 * n + pos % 16 →
      Runs (.evtMessageReceive n pos (w :: v :: rest) ns) s fun t => t.rd (R.AXF_AI j) = v ∧
        bit (t.fld R.AXF_AI_STAT F.AXF_AI_STAT_STALE) j = false ∧ sget (fun _ => 0) j t.axf.aiAt = (s.arrive ns).now) ∧
    ((s.fld (R.AXF_AI_CFG j) F.AXF_AI_CFG_EN = 0 ∨ s.fld (R.AXF_AI_CFG j) F.AXF_AI_CFG_NODE ≠ 16 * n + pos % 16) →
      Gives (.evtMessageReceive n pos (w :: v :: rest) ns) s ((s.arrive ns).inc R.AXF_AI_REJECT 1))) ∧
  ∀ (s : State) (n pos ns : Nat) (data : List Word), (32 ≤ n ∨ talks (s.laneState n) = false ∨ s.mode = .boot) →
    Gives (.evtMessageReceive n pos data ns) s (s.arrive ns)

/-- R313 to R320, R322 and R327. A leads B for counting up is the model's reading (log entry 18). -/
def Obligations.AxisFeedback : Prop :=
  (
    -- the count
    (∀ (s : State) (a : Nat) (d : Int) (t0 t : Nat),
      (s.axValid a = false → s.axMove a d t0 t = s) ∧
      (s.axValid a = true → (s.axis a).corr = none → (s.axis a).judge = false → s.wmLen a = 0 → s.axf.rejects = [] →
        (∀ c < 4, (s.cam c).compares = []) →
        s.axMove a d t0 t = s.setPos a (s.pos a + (if s.lfld (R.AXF_AX_CFG a) F.AXF_AX_CFG_DIRINV = 1 then -d else d)))) ∧
    (∀ (s : State) (a : Nat) (p : Int), -(2 ^ 47) ≤ p → p < 2 ^ 47 → a < 8 → (s.setPos a p).pos a = p) ∧
    -- AXIS_QUAD_EDGE
    (∀ (s : State) (a ab ns frac : Nat), s.axOn a = true → s.axType a = 0 → s.mode ≠ .boot →
      let x := (s.arrive ns).setAxis a { s.axis a with ab := ab % 4 }
      let t := (s.arrive ns).fine frac
      let old := (s.axis a).ab % 4
      let new := ab % 4
      (new = old → Gives (.axisQuadEdge a ab ns frac) s x) ∧
      ((old = 0 ∧ new = 1 ∨ old = 1 ∧ new = 3 ∨ old = 3 ∧ new = 2 ∨ old = 2 ∧ new = 0) → Gives (.axisQuadEdge a ab ns frac) s (x.axEdge a true t)) ∧
      ((old = 1 ∧ new = 0 ∨ old = 3 ∧ new = 1 ∨ old = 2 ∧ new = 3 ∨ old = 0 ∧ new = 2) → Gives (.axisQuadEdge a ab ns frac) s (x.axEdge a false t)) ∧
      (new + old = 3 → Gives (.axisQuadEdge a ab ns frac) s (x.axErr a F.AXF_AX_STAT_QERR))) ∧
    -- AXIS_HALL_CHANGE
    (∀ (s : State) (a code ns frac : Nat), s.axOn a = true → s.axType a = 3 → s.mode ≠ .boot →
      let y := s.arrive ns
      let x := y.setAxis a { s.axis a with hall := code }
      let old := hallPlace (s.axis a).hall
      let new := hallPlace code
      (new = 6 → Gives (.axisHallChange a code ns frac) s (y.axErr a F.AXF_AX_STAT_HALLERR)) ∧
      (new < 6 → old < 6 →
        (new = (old + 1) % 6 → Gives (.axisHallChange a code ns frac) s (x.axEdge a true (y.fine frac))) ∧
        (old = (new + 1) % 6 → Gives (.axisHallChange a code ns frac) s (x.axEdge a false (y.fine frac))) ∧
        (new = old → Gives (.axisHallChange a code ns frac) s x) ∧
        (new ≠ old → new ≠ (old + 1) % 6 → old ≠ (new + 1) % 6 → Gives (.axisHallChange a code ns frac) s (x.inc (R.AXF_AX_ERRCNT a) 1)))) ∧
    -- AXIS_SINCOS_SAMPLE
    (∀ (s : State) (a p ns frac : Nat) (sv cv : Int), s.axOn a = true → s.axType a = 1 → s.mode ≠ .boot → (s.axis a).phase = some p →
      (s.axis a).ampBad = 0 → -32768 ≤ sv → sv ≤ 32767 → -32768 ≤ cv → cv ≤ 32767 →
      let y := s.arrive ns
      let t0 := s.rd (R.CAL_AX_TRIM0 a)
      let v := satI 16 (sv - sgn 16 (fget t0 F.CAL_AX_TRIM0_SOFS))
      let c := satI 16 (fdiv ((cv - sgn 16 (fget t0 F.CAL_AX_TRIM0_COFS)) * s.fld (R.CAL_AX_TRIM1 a) F.CAL_AX_TRIM1_CGAIN + 8192) 16384)
      let d := sgn 12 (wrap 12 ((sinCosPhase v c : Int) - p))
      let r := fdiv (v * v + c * c) 32768
      d ≤ 1024 → (-1024 : Int) ≤ d → (fget (s.lv (R.AXF_AX_CFG2 a)) F.AXF_AX_CFG2_LOW : Int) ≤ r → r ≤ fget (s.lv (R.AXF_AX_CFG2 a)) F.AXF_AX_CFG2_HIGH →
      Gives (.axisSincosSample a sv cv ns frac) s
        ((((y.setAxis a { s.axis a with phase := some (sinCosPhase v c), ampBad := 0, frameAt := y.fine frac }).axMove a d (s.axis a).frameAt
          (y.fine frac)).axGood a true).trimRecord a sv cv d.natAbs)) ∧
    -- AXIS_SSI_FRAME
    (∀ (s : State) (a raw ns frac n : Nat), s.axOn a = true → s.axType a = 2 → s.mode ≠ .boot → (s.lv (R.AXF_AX_CFG2 a)).toNat % 64 = n →
      bit (s.lv (R.AXF_AX_CFG2 a)).toNat 6 = false →
      let y := s.arrive ns
      let v := raw % 2 ^ n
      ((s.axis a).frame = none →
        Gives (.axisSsiFrame a raw ns frac) s ((y.setAxis a { s.axis a with frame := some v, frameAt := y.fine frac }).axGood a true)) ∧
      ∀ u : Nat, (s.axis a).frame = some u →
        let d := sgn n (wrap n ((v : Int) - u))
        (d.natAbs ≤ 2 ^ (n - 2) →
          Gives (.axisSsiFrame a raw ns frac) s
            (((y.setAxis a { s.axis a with frame := some v, frameAt := y.fine frac, frameStep := d, frameGap := y.fine frac - (s.axis a).frameAt,
                                           ssiBad := 0 }).axMove a d (y.fine frac) (y.fine frac)).axGood a true)) ∧
        (2 ^ (n - 2) < d.natAbs →
          Gives (.axisSsiFrame a raw ns frac) s
            (((y.setAxis a { s.axis a with frame := some v, frameAt := y.fine frac, frameStep := 0, frameGap := y.fine frac - (s.axis a).frameAt,
                                           ssiBad := min 4 ((s.axis a).ssiBad + 1) }).axErr a F.AXF_AX_STAT_SSIERR).axGood a false))) ∧
    -- no effect
    ∀ (s : State) (a x ns frac : Nat) (sv cv : Int), (s.axOn a = false ∨ s.mode = .boot) →
      Gives (.axisQuadEdge a x ns frac) s (s.arrive ns) ∧ Gives (.axisHallChange a x ns frac) s (s.arrive ns) ∧
      Gives (.axisSincosSample a sv cv ns frac) s (s.arrive ns) ∧ Gives (.axisSsiFrame a x ns frac) s (s.arrive ns)) ∧
  -- AMPLITUDE_FAULT
  (∀ (s : State) (a ns : Nat) (sv cv : Int),
    (a < 8 → (s.axis a).ampBad = 4 →
      Gives (.amplitudeFault a sv cv ns) s
        (((((s.arrive ns).setAxis a { s.axis a with ampBad := 5 }).setFld (R.AXF_AX_STAT a) F.AXF_AX_STAT_AMPFLT 1).cairn 7 1 false
          (leBytes a 4 ++ leBytes (wrap 16 sv) 2 ++ leBytes (wrap 16 cv) 2)).report 0x30 0xFFFF a 0 0)) ∧
    ((8 ≤ a ∨ (s.axis a).ampBad ≠ 4) → Gives (.amplitudeFault a sv cv ns) s (s.arrive ns))) ∧
  -- AXIS_VALID_LOSS and AXIS_VALID_RESTORE
  (∀ (s : State) (a : Nat), a < 8 →
    let lost := 4 ≤ (s.axis a).ssiBad ∨ (s.axis a).good = 0 ∧ (s.fld (R.AXF_AX_STAT a) F.AXF_AX_STAT_AMPFLT = 1 ∨ s.fld (R.AXF_AX_STAT a) F.AXF_AX_STAT_OVSP = 1)
    (s.axValid a = true → lost → Runs (.axisValidLoss a) s fun t => t.axValid a = false ∧ t.pos a = s.pos a ∧ (t.axis a).good = 0) ∧
    ((s.axValid a = false ∨ ¬ lost) → Gives (.axisValidLoss a) s s) ∧
    (s.axOn a = true → s.axValid a = false → s.mode ≠ .boot → 64 ≤ (s.axis a).good →
      Runs (.axisValidRestore a) s fun t => t.axValid a = true ∧ t.fld (R.AXF_AX_STAT a) F.AXF_AX_STAT_POSLOST = 1 ∧ t.pos a = s.pos a) ∧
    ((s.axOn a = false ∨ s.axValid a = true ∨ (s.axType a = 1 ∧ (s.axis a).good < 64)) → Gives (.axisValidRestore a) s s)) ∧
  -- INDEX_CAPTURE
  (∀ (s : State) (a ns : Nat), s.axOn a = true → s.axType a ≤ 1 → s.axValid a = true → s.mode ≠ .boot →
    let y := s.arrive ns
    let mode := s.lfld (R.AXF_AX_CFG a) F.AXF_AX_CFG_IDXMODE
    let ref := sgn 48 ((s.lv (R.AXF_AX_IDXREF_LO a)).toNat + (s.lv (R.AXF_AX_IDXREF_HI a)).toNat % 65536 * 2 ^ 32)
    let d := diff48 (s.pos a) (expectedIndex (s.pos a) ref (s.lv (R.AXF_AX_IDXPER a)).toNat)
    (mode = 0 → Gives (.indexCapture a ns) s y) ∧
    ((mode = 1 ∨ mode = 2 ∨ mode = 3 ∧ (s.axis a).refDue = false) → d = 0 → Gives (.indexCapture a ns) s y) ∧
    ((mode = 1 ∨ mode = 2 ∨ mode = 3 ∧ (s.axis a).refDue = false) → d ≠ 0 → Runs (.indexCapture a ns) s fun t =>
      t.rd (R.AXF_AX_IDXOBS_LO a) = BitVec.ofNat 32 (wrap 48 (s.pos a)) ∧ t.fld (R.AXF_AX_STAT a) F.AXF_AX_STAT_IDXMIS = 1 ∧
      t.rd (R.AXF_AX_IDXERR a) = satAdd (s.rd (R.AXF_AX_IDXERR a)) 1 ∧ t.pos a = s.pos a ∧
      (t.axis a).corr = (if mode = 2 ∧ d.natAbs ≤ s.lfld (R.AXF_AX_HYST a) F.AXF_AX_HYST_IDXTOL then some (-d) else (s.axis a).corr)) ∧
    (mode = 3 → (s.axis a).refDue = true → Runs (.indexCapture a ns) s fun t => t.pos a = ref ∧
      t.fld (R.AXF_AX_STAT a) F.AXF_AX_STAT_REFD = 1 ∧ (t.axis a).refDue = false)) ∧
  -- SPEED_PUBLISH
  (∀ (s : State) (a ns : Nat), s.axOn a = true → s.mode ≠ .boot →
    let t1 := (s.arrive ns).now / 1000 * 1000
    (s.axis a).pubT < t1 →
      Runs (.speedPublish ns) s fun t => (t.axis a).pubT = t1 ∧ (t.axis a).pubF = s.finePos a (t1 * 65536) ∧
        t.rd (R.AXF_AX_SPEED a) = wordOf (t.axis a).pubV ∧ (s.axValid a = false → (t.axis a).pubV = 0) ∧
        (s.axValid a = true → s.axType a ≠ 2 → (t.axis a).pubV = s.finePos a (t1 * 65536) - (s.axis a).prevF)) ∧
  -- CMP outputs
  ∀ (s : State) (n ns frac : Nat),
    let y := s.arrive ns
    let covered := s.axf.pulses.any fun p => p.out = n && decide (p.first ≤ y.fine frac) && decide (p.last > y.fine frac)
    (bit s.axf.cmpOn n = false → covered = true →
      Gives (.cmpPulseStart n ns frac) s (({ y with axf := { s.axf with cmpOn := setBit s.axf.cmpOn n true } }).cmpPin n true)) ∧
    ((bit s.axf.cmpOn n = true ∨ covered = false) → Gives (.cmpPulseStart n ns frac) s y) ∧
    (bit s.axf.cmpOn n = true → covered = false → Runs (.cmpPulseEnd n ns frac) s fun t => bit t.axf.cmpOn n = false ∧
      ∃ l : List Out, t.out = l ++ .pin 1 n (false != (s.fld (R.AXF_CMP_CFG n) F.AXF_CMP_CFG_POL = 1)) y.now :: s.out) ∧
    ((bit s.axf.cmpOn n = false ∨ covered = true) → Gives (.cmpPulseEnd n ns frac) s y)

/-- R385 to R387, R390, R392 to R396. -/
def Obligations.RegistrationAndThermal : Prop :=
  -- CALIBRATE
  (∀ (s : State) (n : Nat) (c : Cmd), s.ready n 0x28 c →
    (c.arg 0 ≠ 1 → c.arg 0 ≠ 2 → Gives (.calibrate n) s (s.endCmd c St.badParam 0 0)) ∧
    ((c.arg 0 = 1 ∨ c.arg 0 = 2) → c.arg 1 = 0 → Gives (.calibrate n) s (s.endCmd c St.empty 0 0)) ∧
    ((c.arg 0 = 1 ∧ c.arg 1 < 2 ^ 24 ∨ c.arg 0 = 2 ∧ c.arg 1 < 2 ^ 8) → c.arg 1 ≠ 0 → s.cal.kind ≠ 0 →
      Gives (.calibrate n) s (s.endCmd c St.notReady 0 0)) ∧
    (c.arg 0 = 1 → c.arg 1 ≠ 0 → c.arg 1 < 2 ^ 24 → s.cal.kind = 0 →
      s.fld (R.CAM_CFG (s.fld R.CAL_CFG F.CAL_CFG_CAM)) F.CAM_CFG_SRC ≠ 1 → Gives (.calibrate n) s (s.endCmd c St.notReady 0 0)) ∧
    (c.arg 0 = 2 → c.arg 1 ≠ 0 → c.arg 1 < 2 ^ 8 → s.cal.kind = 0 → Runs (.calibrate n) s fun t =>
      t.cal.kind = 2 ∧ t.cal.seq = n ∧ t.cal.heads = (List.range 8).filter (bit (c.arg 1)) ∧ t.cal.since = s.now ∧
      t.fld R.CAL_RUN F.CAL_RUN_BUSY = 1 ∧ t.cmd n = some { c with wait := .calibrate })) ∧
  -- TREF_WRITE
  (∀ (s : State) (h : Nat) (v : Word), (s.mode = .boot ∨ 24 ≤ h) → Gives (.trefWrite h v) s s) ∧
  (∀ (s : State) (h : Nat) (v : Word), s.mode ≠ .boot → h < 24 → Runs (.trefWrite h v) s fun t =>
    t.fld (R.CAL_H_TREF h) F.CAL_H_TREF_TREF = fget v F.CAL_H_TREF_TREF ∧ t.fld (R.CAL_H_TREF h) F.CAL_H_TREF_VALID = 1 ∧
    bit t.cal.flagged h = false ∧ t.mode = s.mode) ∧
  -- FIDUCIAL_SETTLE_EXPIRY
  (∀ (s : State) (ns h : Nat) (rest : List Nat), s.cal.heads = h :: rest →
    let y := s.arrive ns
    let cam := s.fld R.CAL_CFG F.CAL_CFG_CAM
    let bound := y.setFld (R.CAM_CFG cam) F.CAM_CFG_HEAD h
    let x := slotAfter (y.now * 65536) + s.lfld (R.CAM_TDLY cam) F.CAM_TDLY_TDLY
    ((s.cal.kind ≠ 1 ∨ s.cal.trig ≠ none ∨ y.now < s.cal.since + s.fld R.CAL_CFG F.CAL_CFG_SETTLE * 1000) →
      Gives (.fiducialSettleExpiry ns) s y) ∧
    (s.cal.kind = 1 → s.cal.trig = none → s.cal.since + s.fld R.CAL_CFG F.CAL_CFG_SETTLE * 1000 ≤ y.now →
      (bound.camOn cam = false → (s.cam cam).due = [] → Gives (.fiducialSettleExpiry ns) s bound.calStep) ∧
      (bound.camOn cam = true → ∀ t : CamTrig, ((bound.camDecide cam 0 0 x).cam cam).due.find? (fun d => d.at_ = x) = some t →
        let z := bound.camDecide cam 0 0 x
        Gives (.fiducialSettleExpiry ns) s { z with cal := { s.cal with trig := some (t.tag, (s.rd (R.CAM_FNUM cam)).toNat) } }))) ∧
  -- FIDUCIAL_FRAME_RESULT
  (∀ (s : State) (tag num i : Nat) (rest : List Nat), s.cal.trig = some (tag, num) → s.cal.todo = i :: rest →
    let cam := s.fld R.CAL_CFG F.CAL_CFG_CAM
    let p := s.cal.fids.getD i (0, 0)
    (∀ (r : List Byte) (e : Int × Int), s.fidRecord cam tag num = some r → s.fidOffset r = some e →
      Gives .fiducialFrameResult s ({ s with cal := { s.cal with found := s.cal.found ++ [(p.1, p.2, e.1, e.2)] } }).calStep) ∧
    (∀ r : List Byte, s.fidRecord cam tag num = some r → s.fidOffset r = none → Gives .fiducialFrameResult s s.calStep) ∧
    (s.fidRecord cam tag num = none → (∃ t ∈ (s.cam cam).due, t.tag = tag) → Gives .fiducialFrameResult s s)) ∧
  (∀ s : State, s.cal.trig = none → Gives .fiducialFrameResult s s) ∧
  -- TRIM_RUN_END
  (∀ (s : State) (ns : Nat),
    ((s.cal.kind ≠ 2 ∨ (s.arrive ns).now < s.cal.since + 1000000000) → Gives (.trimRunEnd ns) s (s.arrive ns)) ∧
    (∀ (a : Nat) (e : Extremes), s.cal.kind = 2 → s.cal.since + 1000000000 ≤ (s.arrive ns).now → s.cal.heads = [a] →
      sget (fun _ => none) a s.cal.extremes = some e →
      ((e.travel < 65536 ∨ e.valid = false) →
        Gives (.trimRunEnd ns) s (((s.arrive ns).setFld (R.CAL_AX_TSTAT a) F.CAL_AX_TSTAT_FAIL 1).calEnd St.done)) ∧
      (65536 ≤ e.travel → e.valid = true → e.cMin < e.cMax → a < 8 →
        Runs (.trimRunEnd ns) s fun t => t.cal.kind = 0 ∧ t.fld (R.CAL_AX_TSTAT a) F.CAL_AX_TSTAT_DONE = 1 ∧
          t.fld (R.CAL_AX_TRIM1 a) F.CAL_AX_TRIM1_CGAIN =
            clampN 0x2000 0x7FFF (rdivAway (16384 * (e.sMax - e.sMin)) (e.cMax - e.cMin).toNat).toNat))) ∧
  -- HOUSEKEEPING_ROUND
  ∀ (s : State) (temps : List Int) (bad ns : Nat), Runs (.housekeepingRound temps bad ns) s fun t =>
    t.fld R.THM_STAT F.THM_STAT_FLWIN = b2n t.flashWindow ∧
    ∀ c < 8,
      ((bit bad c = true ∨ temps.getD c 0 < -60 * 256 ∨ 150 * 256 < temps.getD c 0) →
        t.fld (R.THM_CH_TEMP c) F.THM_CH_TEMP_TEMP = 0x7FFF ∧ t.fld (R.THM_CH_COND c) F.THM_CH_COND_BROKEN = 1) ∧
      (bit bad c = false → -60 * 256 ≤ temps.getD c 0 → temps.getD c 0 ≤ 150 * 256 → s.chanBroken c = false →
        t.fld (R.THM_CH_TEMP c) F.THM_CH_TEMP_TEMP = wrap 16 (satI 16 (temps.getD c 0)) ∧ t.fld (R.THM_CH_COND c) F.THM_CH_COND_BROKEN = 0)

/-- The rounds of R173 and R174, readiness (R167), the active set (R172), windows (R181, R183), the guard (R184), removal and restoring (R186, R192). -/
def Obligations.SchedulerRounds : Prop :=
  -- GRANT_ROUND
  (∀ (s : State) (i : Nat), i < s.ntiles → s.ntiles ≤ 65536 → s.tileState i = Ts.waiting → (s.tileD i).dt = false → (s.tileD i).de = false →
    s.roundTiles.tileState i = Ts.ready) ∧
  (∀ (s : State) (ns : Nat),
    let x := (s.arrive ns).roundTiles
    let y : State := { x with tsc := { x.tsc with round := x.tsc.round + 1 } }
    (y.grantMode = none → Gives (.grantRound ns) s y) ∧
    ∀ (cal : Bool) (h : Nat) (c : Cand), y.grantMode = some cal → (List.range 24).filter y.requests = [h] → y.choice cal h = (some c, false) →
      y.stuckNow cal = false →
      let z := (y.grant h c).preempt cal (if ((y.grant h c).held h).isNone then [h] else []) [c.key]
      Gives (.grantRound ns) s { z with tsc := { z.tsc with startAt := none } }) ∧
  -- LINGER_EXPIRY
  (∀ (s : State) (tile : Nat), Runs (.lingerExpiry tile) s fun t =>
    (∀ a, a ∈ t.tsc.active ↔ a ∈ s.tsc.active ∧ ¬ (a.tile = tile ∧ ∃ k ≤ s.tick, a.until_ = some k)) ∧ t.mem = s.mem ∧ t.seqs = s.seqs) ∧
  -- CODING_WINDOW_CLOSE
  (∀ (s : State) (r ns : Nat) (j : Job), s.tsc.jobList.find? (fun x => x.rcd = r) = some j →
    let x := s.arrive ns
    let shut := ∀ h < 24, x.jobHead j h = true → ∃ a e : Int, x.window j h = some (a, e) ∧ e ≤ x.nowFine
    (shut → Runs (.codingWindowClose r ns) s fun t => t.tsc.jobList = s.tsc.jobList.filter (fun y => y ≠ j) ∧
      t.rd R.TSC_TWMISS = satAdd (s.rd R.TSC_TWMISS) 1) ∧
    (¬ shut → Gives (.codingWindowClose r ns) s x)) ∧
  -- GUARD_CLEAR and GUARD_TIMEOUT
  (∀ (s : State) (h : Nat), h < 24 →
    let n := s.seqOf h
    let q := s.seq n
    let stopped := q.running = true ∧ (q.act = .guardStop ∨ q.act = .guardWait)
    (∀ c : Ctx, sget (fun _ => none) h s.tsc.joining = some c → c.job = none → stopped → q.planDone = true →
      s.fld R.TSC_CFG F.TSC_CFG_GUARD_CLR + 1 ≤ sget (fun _ => 0) h s.tsc.clear →
      Gives (.guardClear h) s (s.resumeFrom n h (max q.nextTick (cdiv q.cursor 1250)) c none)) ∧
    ((sget (fun _ => none) h s.tsc.joining = none ∨ ¬ stopped ∨
        sget (fun _ => 0) h s.tsc.clear < s.fld R.TSC_CFG F.TSC_CFG_GUARD_CLR + 1) → Gives (.guardClear h) s s) ∧
    (stopped → s.fld R.TSC_CFG2 F.TSC_CFG2_GUARD_TMO + 1 ≤ sget (fun _ => 0) h s.tsc.stopTicks →
      Gives (.guardTimeout h) s ((s.setFld R.TSC_STAT F.TSC_STAT_GUARD_TMO 1).detourTile h (1250 * q.nextTick) 2 0).parkTiles) ∧
    ((¬ stopped ∨ sget (fun _ => 0) h s.tsc.stopTicks < s.fld R.TSC_CFG2 F.TSC_CFG2_GUARD_TMO + 1) → Gives (.guardTimeout h) s s)) ∧
  -- HEAD_REMOVE and HEAD_RESTORE
  (∀ (s : State) (v : Word) (ns : Nat), s.mode ≠ .boot → Runs (.headRemove v ns) s fun t => ∀ h < 24,
    (bit v.toNat h = true → t.liveHead h = false ∧ (s.liveHead h = true → t.fld (R.TSC_H_STAT h) F.TSC_H_STAT_CAUSE = 4)) ∧
    (bit v.toNat h = false → t.liveHead h = s.liveHead h)) ∧
  (∀ (s : State) (v : Word), s.mode ≠ .boot → Runs (.headRestore v) s fun t => ∀ h < 24,
    (bit v.toNat h = true → s.inService h = true → t.liveHead h = true) ∧
    (bit v.toNat h = true → s.inService h = false → t.liveHead h = s.liveHead h ∧ t.fld R.TSC_STAT F.TSC_STAT_RESTORE_REJ = 1) ∧
    (bit v.toNat h = false → t.liveHead h = s.liveHead h)) ∧
  -- DETOUR_JOIN
  (∀ (s : State) (h ns : Nat),
    let x := s.arrive ns
    let q := s.seq (s.seqOf h)
    (q.running = true → q.guarded = false → 2 * q.joinAt ≤ 5 * x.now → Gives (.detourJoin h ns) s (x.joined h)) ∧
    ((q.running = false ∨ q.guarded = true ∨ 5 * x.now < 2 * q.joinAt) → Gives (.detourJoin h ns) s x)) ∧
  -- EVENT_POST
  (∀ (s : State) (v : Word), s.mode ≠ .boot → fget v F.TSC_EVT_POST_GO = 1 → Runs (.eventPost v) s fun t =>
    t.posted (fget v F.TSC_EVT_POST_EVT) = true ∧ (∀ e < 256, s.posted e = true → t.posted e = true) ∧ t.mode = s.mode) ∧
  (∀ (s : State) (v : Word), (s.mode = .boot ∨ fget v F.TSC_EVT_POST_GO = 0) → Gives (.eventPost v) s s) ∧
  -- CALIBRATION_GO
  ∀ (s : State) (v : Word),
    (s.mode = .service → fget v F.TSC_SVC_GO = 1 → Gives (.calibrationGo v) s { s with tsc := { s.tsc with svcGo := true } }) ∧
    ((s.mode ≠ .service ∨ fget v F.TSC_SVC_GO = 0) → Gives (.calibrationGo v) s s)

/-- Columns (R205), unmasking and probes (chapter 07), frames and gate blocks (R37, chapter 08), the tick (R18), loops (R258, R261, R276) and the trace (R281, R282). -/
def Obligations.DriveLoopsAndTrace : Prop :=
  -- COLUMN_READY_WRITE and COLUMN_SWAP_WRITE
  (∀ (s : State) (a : Nat) (v : Word), a < 8 → s.mode ≠ .boot →
    (fget v F.BLD_CA_CTL_READY = 1 → fget v F.BLD_CA_CTL_SWAP = 0 →
      (s.caLocked a = false → Runs (.columnReadyWrite a v) s fun t => t.caReady a (1 - s.caActive a) = true ∧ t.caActive a = s.caActive a) ∧
      (s.caLocked a = true → Gives (.columnReadyWrite a v) s s)) ∧
    (fget v F.BLD_CA_CTL_READY = 0 → fget v F.BLD_CA_CTL_SWAP = 1 →
      (s.caReady a (1 - s.caActive a) = true → Runs (.columnSwapWrite a v) s fun t => t.caActive a = 1 - s.caActive a ∧
        t.caReady a (s.caActive a) = false ∧ t.rd (R.BLD_CA_SWAPCNT a) = satAdd (s.rd (R.BLD_CA_SWAPCNT a)) 1) ∧
      (s.caReady a (1 - s.caActive a) = false →
        Gives (.columnSwapWrite a v) s ((s.inc (R.BLD_CA_SWAPMISS a) 1).setFld (R.BLD_CA_STAT a) F.BLD_CA_STAT_MISS 1)))) ∧
  -- BEAMLET_UNMASK
  (∀ (s : State) (h : Nat) (v : Word), h < 24 → s.mode ≠ .boot → Runs (.beamletUnmask h v) s fun t => ∀ b < 8,
    bit (t.fld (R.BLD_H_FMASK h) F.BLD_H_FMASK_BEAMLETS) b = (bit (s.fld (R.BLD_H_FMASK h) F.BLD_H_FMASK_BEAMLETS) b && !bit v.toNat b) ∧
    (bit v.toNat b = true → t.fld (R.BLD_H_DIAG h) ⟨4 * b, 4⟩ = 0) ∧
    (bit v.toNat b = false → t.fld (R.BLD_H_DIAG h) ⟨4 * b, 4⟩ = s.fld (R.BLD_H_DIAG h) ⟨4 * b, 4⟩)) ∧
  -- PROBE_PLACE
  (∀ (s : State) (h b : Nat), s.forceZero = true → Gives (.probePlace h b) s s) ∧
  (∀ (s : State) (h b : Nat), h < 24 → b < 8 →
    let e := s.emitter h b
    let after := s.fld (R.BLD_CLASS_NDIAG (s.classOfBeamlet h b)) F.BLD_CLASS_NDIAG_PRB_AFTER
    after ≠ 0 → after ≤ e.bare → e.probe = none → bit (s.fld (R.BLD_H_FMASK h) F.BLD_H_FMASK_BEAMLETS) b = false →
    s.fld (R.BLD_H_BCFG h) F.BLD_H_BCFG_PROBE_CAP = 1 → s.forceZero = false → s.emitMode = true → s.diagOn h b = true →
    Runs (.probePlace h b) s fun t => t.rd (R.BLD_H_PROBES h) = satAdd (s.rd (R.BLD_H_PROBES h)) 1 ∧ (t.emitter h b).bare = 0 ∧
      ∃ x, (t.emitter h b).probe = some x) ∧
  -- DIAG_UNVERIFIED
  (∀ (s : State) (h b : Nat), h < 24 → b < 8 →
    let e := s.emitter h b
    let c := s.classOfBeamlet h b
    let nd := s.fld (R.BLD_CLASS_NDIAG c) F.BLD_CLASS_NDIAG_NDIAG
    (nd ≠ 0 → e.unverified = false → s.diagOn h b = true → max e.lastValid s.bld.diagSince + nd * 1000 ≤ s.tick →
      Gives (.diagUnverified h b) s ((s.setEmitter h b { e with unverified := true }).emitterFault h b (max 1 (s.diagCode h b))
        (s.fld (R.BLD_CLASS_DIAG2 c) F.BLD_CLASS_DIAG2_ACT_UNV) 0 0 s.nowTs)) ∧
    ((nd = 0 ∨ e.unverified = true ∨ s.diagOn h b = false ∨ s.tick < max e.lastValid s.bld.diagSince + nd * 1000) →
      Gives (.diagUnverified h b) s s)) ∧
  -- GSG_COPY_RETIRE
  (∀ (s : State) (h c : Nat), h < 24 → c < 3 → bit (s.fld (R.FLT_GSG h) F.FLT_GSG_RETIRED) c = false →
    (s.fld R.FLT_CFG F.FLT_CFG_RETIRE + 1 ≤ sget (fun _ => 0) (gsgKey h c) s.flt.gsgRun →
      Runs (.gsgCopyRetire h c) s fun t => bit (t.fld (R.FLT_GSG h) F.FLT_GSG_RETIRED) c = true ∧ t.mode = s.mode) ∧
    (sget (fun _ => 0) (gsgKey h c) s.flt.gsgRun < s.fld R.FLT_CFG F.FLT_CFG_RETIRE + 1 → Gives (.gsgCopyRetire h c) s s)) ∧
  -- TICK_FRAME_LAUNCH
  (∀ (s : State) (n lead ns : Nat), n < 32 → s.role n = 0 → framing (s.laneState n) = true → (s.lane n).launched ≤ s.tick + 1 →
    (Runs (.tickFrameLaunch n lead false ns) s fun t => (t.lane n).launched = s.tick + 2 ∧ (t.lane n).zeroed = false ∧
      ∃ (l : List Out) (fs : List Nat), t.out = l ++ .frame n (s.tick + 1) (lead % 1024 :: b2n (s.permit n) :: (s.tick + 1) % 2 ^ 32 :: fs) :: s.out) ∧
    Gives (.tickFrameLaunch n lead true ns) s
      (((s.arrive ns).setLane n { s.lane n with launched := s.tick + 2, permit := false, zeroed := true }).lateFrame n)) ∧
  (∀ (s : State) (n lead ns : Nat) (late : Bool), (32 ≤ n ∨ s.role n = 2 ∨ framing (s.laneState n) = false) →
    Gives (.tickFrameLaunch n lead late ns) s (s.arrive ns)) ∧
  -- GATE_BLOCK_LAUNCH
  (∀ (s : State) (n j ns : Nat) (late : Bool), n < 24 → j < 40 → s.role n = 0 → framing (s.laneState n) = true → (s.lane n).launched ≠ 0 →
    (s.lane n).zeroed = false → (s.slice n).doneTo ≤ 1250 * ((s.lane n).launched - 1) + 32 * j → (late = true ∨ s.forceZero = true) →
    Runs (.gateBlockLaunch n j late [] [] ns) s fun t => ∃ (l m : List Out),
      t.out = l ++ .gates n ((s.lane n).launched - 1) j [] :: (m ++ s.out) ∧
      (late = false → l.all Out.isMsix = true ∧
        (t.slice n).doneTo = min (1250 * ((s.lane n).launched - 1) + 32 * j + 32) (1250 * ((s.lane n).launched - 1 + 1)))) ∧
  -- TICK_BOUNDARY
  (∀ s : State, (s.pwr.time = false ∨ s.pwr.held = true) → Gives .tickBoundary s s) ∧
  (∀ s : State, s.pwr.time = true → s.pwr.held = false → Runs .tickBoundary s fun t =>
    t.tick = s.tick + 1 ∧ t.now = max s.now (500 * (s.tick + 1)) ∧ t.pending = s.pending) ∧
  -- LOOP_EVALUATION
  (∀ (s : State) (l ns : Nat), l < 192 →
    let x := s.arrive ns
    (∀ e : Eval, s.evalOf (l / 16) = some e → e.loop = l → Gives (.loopEvaluation l ns) s (x.finishEval (l / 16))) ∧
    (s.evalOf (l / 16) = none → Gives (.loopEvaluation l ns) s ((x.beginEval l).finishEval (l / 16))) ∧
    (s.evalOf (l / 16) = none → (s.loop l).round ≤ x.now / 1000 → (s.loopD s.ctlLive l).en = true → s.inService (l / 8) = true →
      s.engIdle (l / 16) = false → x.sample (l / 8) (2 * (l % 8)) (sampleSlot (1000 * (x.now / 1000)) (l % 16) / 1250) = none →
      Runs (.loopEvaluation l ns) s fun t => t.rd (R.CEN_CE_MISS (l / 16)) = satAdd (s.rd (R.CEN_CE_MISS (l / 16))) 1 ∧
        (t.loop l).missRun = (s.loop l).missRun + 1 ∧ (t.loop l).k = (s.loop l).k)) ∧
  -- AUX_LOOP_EVALUATION
  (∀ (s : State) (l ns : Nat),
    let x := s.arrive ns
    let d := s.loopD s.ctlLive l
    ((l < 192 ∨ 208 ≤ l ∨ x.now / 1000 % (d.div + 1) ≠ 0) → Gives (.auxLoopEvaluation l ns) s x) ∧
    (192 ≤ l → l < 208 → x.now / 1000 % (d.div + 1) = 0 → (s.loop l).round ≤ x.now / 1000 →
      let y := x.setLoop l { s.loop l with round := x.now / 1000 + 1, stat := fput (s.loop l).stat F.CEN_LSTAT_ACTIVE 0 }
      ((d.en = false ∨ s.engIdle d.eng = true) → Gives (.auxLoopEvaluation l ns) s y) ∧
      (d.en = true → s.engIdle d.eng = false →
        let g := y.gainSet d.eng (s.loop l).gset
        let r := State.ctlRun d.eng 48 (g.2.draw.draw.draw,
          { g.2.newEval l 0 (x.now / 1000) g.1 with pd0 := g.2.auxSource d.src0, pd1 := g.2.auxSource d.src1 })
        Gives (.auxLoopEvaluation l ns) s (r.1.endEval d.eng r.2 r.1.now)))) ∧
  -- LOOP_MISSLIM
  (∀ (s : State) (l : Nat), l < 192 → fget (s.loop l).stat F.CEN_LSTAT_MISSING = 0 →
    (s.fld R.CEN_CFG F.CEN_CFG_MISSLIM + 1 ≤ (s.loop l).missRun → Runs (.loopMisslim l) s fun t =>
      (t.loop l).k = 0x10000 ∧ fget (t.loop l).stat F.CEN_LSTAT_MISSING = 1 ∧ t.fld (R.CEN_CE_STAT (l / 16)) F.CEN_CE_STAT_MISSING = 1) ∧
    ((s.loop l).missRun < s.fld R.CEN_CFG F.CEN_CFG_MISSLIM + 1 → Gives (.loopMisslim l) s s)) ∧
  -- LOOP_AUTO_WRITE
  (∀ (s : State) (v : Word), s.mode ≠ .boot →
    let l := s.fld R.CEN_LIDX F.CEN_LIDX_LOOP
    (l < 208 → Runs (.loopAutoWrite v) s fun t => (t.loop l).auto = decide (fget v F.CEN_LCTL_AUTO = 1) ∧
      (t.loop l).track = decide (fget v F.CEN_LCTL_MAN_TRACK = 1) ∧ (t.loop l).man = (s.loop l).man ∧ (∀ m, m ≠ l → t.loop m = s.loop m)) ∧
    (208 ≤ l → Gives (.loopAutoWrite v) s s)) ∧
  -- ENGINE_RESET_END
  (∀ (s : State) (e : Nat), e < 12 →
    (s.engIdle e = true → Runs (.engineResetEnd e) s fun t => t.engIdle e = false ∧ t.evalOf e = none) ∧
    (s.engIdle e = false → Gives (.engineResetEnd e) s s)) ∧
  -- the trace
  (∀ (s : State) (v : Word), s.mode ≠ .boot →
    (fget v F.CEN_TRC_CTL_STOP = 1 → Runs (.traceStop v) s fun t => t.fld R.CEN_TRC_STAT F.CEN_TRC_STAT_RUN = 0) ∧
    (fget v F.CEN_TRC_CTL_ARM = 1 → fget v F.CEN_TRC_CTL_STOP = 0 → s.fld R.CEN_TRC_CFG F.CEN_TRC_CFG_MODE = 1 →
      Runs (.traceArm v) s fun t => t.fld R.CEN_TRC_STAT F.CEN_TRC_STAT_RUN = 1 ∧ t.fld R.CEN_TRC_STAT F.CEN_TRC_STAT_TRIGGERED = 0 ∧
        t.rd R.CEN_TRC_WPTR = 0) ∧
    (fget v F.CEN_TRC_CTL_TRIGGER = 1 → fget v F.CEN_TRC_CTL_ARM = 0 → fget v F.CEN_TRC_CTL_STOP = 0 → s.fld R.CEN_TRC_STAT F.CEN_TRC_STAT_RUN = 1 →
      s.fld R.CEN_TRC_STAT F.CEN_TRC_STAT_TRIGGERED = 0 → Runs (.traceTrigger v) s fun t =>
        t.fld R.CEN_TRC_STAT F.CEN_TRC_STAT_TRIGGERED = 1 ∧ t.rd R.CEN_TRC_TPTR = s.rd R.CEN_TRC_WPTR ∧
        t.trc.post = s.fld R.CEN_TRC_POST F.CEN_TRC_POST_POST + 1)) ∧
  (∀ s : State,
    let due := s.fld R.CEN_TRC_STAT F.CEN_TRC_STAT_RUN = 1 ∧ s.fld R.CEN_TRC_STAT F.CEN_TRC_STAT_TRIGGERED = 1 ∧ s.trc.post = 0
    (due → Gives .tracePostDone s ((s.setFld R.CEN_TRC_STAT F.CEN_TRC_STAT_RUN 0).setFld R.CEN_TRC_STAT F.CEN_TRC_STAT_DONE 1)) ∧
    (¬ due → Gives .tracePostDone s s)) ∧
  (∀ s : State, s.trc.copying = [] → Gives .traceSpillCopyDone s s) ∧
  ∀ (s : State) (q : Nat) (rest : List Nat), s.trc.copying = q :: rest → s.fld R.CEN_TRC_SPILL F.CEN_TRC_SPILL_SIZE ≠ 0 →
    Runs .traceSpillCopyDone s fun t => t.trc.copying = rest ∧
      t.dramBytes ((s.dramRegion 4).1 + s.fld R.CEN_TRC_SPILL F.CEN_TRC_SPILL_OFS * 2 ^ 20 + s.trc.spill) 0x100000 =
        s.sramBytes (0x2800000 + 0x100000 * q) 0x100000

/-- Table 8-9 with R223, R238, R244 to R249 and R251 to R254. -/
def Obligations.LaneStates : Prop :=
  -- entering a state
  (∀ (s : State) (n st cause : Nat), n < 32 → st < 8 → (s.laneTo n st cause).laneState n = st ∧ (s.laneTo n st cause).inService n = decide (st = Ln.service) ∧
    (s.laneTo n st cause).fld (R.LN_STAT n) F.LN_STAT_INSERVICE = b2n (st = Ln.service)) ∧
  -- LANE_ENABLE, LANE_DISABLE, LANE_TEST_ENTER and LANE_TEST_LEAVE
  (∀ (s : State) (n : Nat) (v : Word), n < 32 → s.unlocked = true →
    (fget v F.LN_CFG_EN = 1 → fget v F.LN_CFG_TEST = 0 → s.fld (R.LN_CFG n) F.LN_CFG_EN = 0 → s.laneState n = Ln.disabled →
      roleOk n (fget v F.LN_CFG_ROLE) = true → Runs (.laneEnable n v) s fun t => t.laneState n = Ln.acquire) ∧
    (fget v F.LN_CFG_EN = 0 → s.fld (R.LN_CFG n) F.LN_CFG_EN = 1 → s.laneState n = Ln.service → Runs (.laneDisable n v) s fun t =>
      t.laneState n = Ln.disabled ∧ (n < 24 → t.liveHead n = false)) ∧
    (fget v F.LN_CFG_TEST = 1 → fget v F.LN_CFG_EN = 1 → s.fld (R.LN_CFG n) F.LN_CFG_TEST = 0 → s.laneState n ≠ Ln.test →
      Runs (.laneTestEnter n v) s fun t => t.laneState n = Ln.test) ∧
    (fget v F.LN_CFG_TEST = 0 → fget v F.LN_CFG_EN = 0 → s.fld (R.LN_CFG n) F.LN_CFG_TEST = 1 → s.laneState n = Ln.test →
      Runs (.laneTestLeave n v) s fun t => t.laneState n = Ln.disabled)) ∧
  (∀ (s : State) (n : Nat) (v : Word), n < 32 → s.unlocked = false → s.mode ≠ .boot →
    (fget v F.LN_CFG_EN = 1 → s.fld (R.LN_CFG n) F.LN_CFG_EN = 0 → Gives (.laneEnable n v) s s.lockviol) ∧
    (fget v F.LN_CFG_EN = 0 → s.fld (R.LN_CFG n) F.LN_CFG_EN = 1 → Gives (.laneDisable n v) s s.lockviol)) ∧
  -- MK_BLOCK_RECEIVE
  (∀ (s : State) (n ns : Nat), n < 32 → s.laneState n = Ln.acquire →
    ((s.lane n).mkGood = 2 → Runs (.mkBlockReceive n true true ns) s fun t => t.laneState n = Ln.linked) ∧
    ((s.lane n).mkBad = 2 → Gives (.mkBlockReceive n false true ns) s
      ((s.arrive ns).setLane n { s.lane n with mkGood := 0, mkBad := 3, lock := false }))) ∧
  -- ACQUIRE_TIMEOUT, DELAY_TIMEOUT and FAILED_RETRY_TIMER
  (∀ (s : State) (n ns : Nat), n < 32 →
    let x := s.arrive ns
    (s.laneState n = Ln.acquire → (s.lane n).since + 20000000 ≤ x.now → Gives (.acquireTimeout n ns) s (x.laneTo n Ln.failed 1)) ∧
    ((s.laneState n ≠ Ln.acquire ∨ x.now < (s.lane n).since + 20000000) → Gives (.acquireTimeout n ns) s x) ∧
    (s.laneState n = Ln.delay → (s.lane n).meas < 4096 → (s.lane n).since + 8192 * 500 ≤ x.now →
      Gives (.delayTimeout n ns) s (x.laneTo n Ln.failed 1)) ∧
    ((s.laneState n ≠ Ln.delay ∨ 4096 ≤ (s.lane n).meas) → Gives (.delayTimeout n ns) s x) ∧
    (s.laneState n = Ln.failed → s.fld (R.LN_CFG n) F.LN_CFG_AUTO = 1 → (s.lane n).since + 100000000 ≤ x.now → roleOk n (s.role n) = true →
      Gives (.failedRetryTimer n ns) s (x.laneTo n Ln.acquire 1)) ∧
    ((s.laneState n ≠ Ln.failed ∨ s.fld (R.LN_CFG n) F.LN_CFG_AUTO = 0) → Gives (.failedRetryTimer n ns) s x)) ∧
  -- CAPABILITY_READ_COMPLETE
  (∀ (s : State) (n : Nat), n < 32 → s.laneState n = Ln.linked → (s.lane n).capsDone = true →
    (s.capCause n = 0 → Runs (.capabilityReadComplete n) s fun t =>
      t.laneState n = (if s.role n = 2 then Ln.service else Ln.delay) ∧ t.fld (R.LN_STAT n) F.LN_STAT_CAP_CAUSE = 0) ∧
    (s.capCause n ≠ 0 → Gives (.capabilityReadComplete n) s
      (((s.setFld (R.LN_STAT n) F.LN_STAT_CAP_CAUSE (s.capCause n)).setFld (R.LN_STAT n) F.LN_STAT_CAP_ERR 1).laneTo n Ln.failed 1))) ∧
  -- DELAY_MEASURE_COMPLETE and DELAY_STEP
  (∀ (s : State) (n : Nat), n < 32 →
    let l := s.lane n
    (s.laneState n = Ln.delay → 4096 ≤ l.meas →
      let y := (s.setLane n { l with loop := rdiv l.sum l.meas, far := 0, farSum := 0 }).setDelays n
      (y.delaysFit n = true → Gives (.delayMeasureComplete n) s (y.laneTo n (if s.role n = 0 then Ln.auth else Ln.service) 1)) ∧
      (y.delaysFit n = false → Gives (.delayMeasureComplete n) s ((y.setFld (R.LN_STAT n) F.LN_STAT_DLY_RANGE 1).laneTo n Ln.failed 1))) ∧
    (framing (s.laneState n) = true → 64 ≤ l.far → Runs (.delayStep n) s fun t =>
      (t.lane n).loop = rdiv l.farSum l.far ∧ (t.lane n).far = 0 ∧ t.fld (R.LN_STAT n) F.LN_STAT_DLY_STEP = 1) ∧
    (l.far < 64 → Gives (.delayStep n) s s)) ∧
  -- LANE_LOSS
  (∀ (s : State) (n ns : Nat), n < 32 → 1 ≤ s.laneState n → s.laneState n ≤ 5 → Gives (.laneLoss n 1 ns) s ((s.arrive ns).laneLoss n 1)) ∧
  (∀ (s : State) (n cause ns : Nat), (s.laneState n = Ln.disabled ∨ s.laneState n = Ln.failed ∨ s.laneState n = Ln.test) →
    Gives (.laneLoss n cause ns) s (s.arrive ns)) ∧
  (∀ (s : State) (n cause : Nat), n < 32 → s.fld (R.LN_CFG n) F.LN_CFG_AUTO = 0 → (s.laneLoss n cause).laneState n = Ln.failed) ∧
  -- the pepper tests
  (∀ (s : State) (n : Nat) (v : Word), n < 32 → s.mode ≠ .boot →
    (fget v F.LN_PEP_CTL_CLR = 1 → Runs (.pepperClear n v) s fun t => t.rd (R.LN_PEP_BITERR n) = 0 ∧ t.rd (R.LN_PEP_SYMERR n) = 0 ∧
      t.rd (R.LN_PEP_MBITS n) = 0 ∧ t.fld (R.LN_PEP_STAT n) F.LN_PEP_STAT_LOCK = 0) ∧
    Runs (.pepperInjectCount n v) s fun t => t.rd (R.LN_PEP_INJCNT n) = v ∧ t.laneState n = s.laneState n) ∧
  (∀ (s : State) (n se be mb : Nat),
    (s.checkerOn n = true → Gives (.pepperCheckerLock n) s (s.setFld (R.LN_PEP_STAT n) F.LN_PEP_STAT_LOCK 1)) ∧
    (s.checkerOn n = false → Gives (.pepperCheckerLock n) s s ∧ Gives (.pepperCheckerLostLock n se be mb) s s) ∧
    (s.checkerOn n = true → s.fld (R.LN_PEP_STAT n) F.LN_PEP_STAT_LOCK = 1 → Gives (.pepperCheckerLostLock n se be mb) s
      ((((((s.inc (R.LN_PEP_SYMERR n) se).inc (R.LN_PEP_BITERR n) be).inc (R.LN_PEP_MBITS n) mb).setFld (R.LN_PEP_STAT n)
        F.LN_PEP_STAT_LOCK 0).setFld (R.LN_PEP_STAT n) F.LN_PEP_STAT_LOSTLOCK 1)))) ∧
  ∀ (s : State) (n : Nat), n < 32 →
    (s.fld (R.LN_PEP_STAT n) F.LN_PEP_STAT_INJ_BUSY = 1 → Runs (.pepperInjectDone n) s fun t =>
      t.rd (R.LN_PEP_INJCNT n) = 0 ∧ t.fld (R.LN_PEP_STAT n) F.LN_PEP_STAT_INJ_BUSY = 0) ∧
    (s.fld (R.LN_PEP_STAT n) F.LN_PEP_STAT_INJ_BUSY = 0 → Gives (.pepperInjectDone n) s s)

/-- R224 and R225 (blocks), R232 to R234 (upstream frames and samples), R240 to R243 (messages). -/
def Obligations.LaneTraffic : Prop :=
  -- UPSTREAM_CODEWORD_RECEIVE
  (∀ (s : State) (n errs : Nat) (blocks : List (Nat × Nat)), n < 32 → s.laneState n ≠ Ln.disabled → s.laneState n ≠ Ln.test →
    (15 < errs → Gives (.upstreamCodewordReceive n errs blocks) s
      ((s.setLane n { s.lane n with uncorr := min 4 ((s.lane n).uncorr + 1) }).inc (R.LN_CW_UNCORR n) 1)) ∧
    (errs = 0 → Gives (.upstreamCodewordReceive n errs blocks) s
      (blocks.foldl (fun t b => t.block n (if 256 ≤ b.1 then none else some b)) (s.setLane n { s.lane n with uncorr := 0 }))) ∧
    (errs ≠ 0 → errs ≤ 15 → Gives (.upstreamCodewordReceive n errs []) s
      (((s.setLane n { s.lane n with uncorr := 0 }).inc (R.LN_CW_CORR n) 1).inc (R.LN_SYM_CORR n) errs))) ∧
  (∀ (s : State) (n : Nat), ((s.lane n).announced = 0 → s.block n none = s.inc (R.LN_BLKERR n) 1) ∧
    ((s.lane n).announced ≠ 0 → s.block n none = s.setLane n { s.lane n with announced := (s.lane n).announced - 1 })) ∧
  -- UPSTREAM_FRAME_RECEIVE
  (∀ (s : State) (n k miss turn ns : Nat) (app fault frmErr : Bool) (ex ey ez t4 : Int) (iv : List (Nat × Nat)),
    let x := s.arrive ns
    let y := x.upFrame n k miss turn app t4
    let z := y.setLane n { y.lane n with enc := some (k, ⟨satI 32 ex, satI 32 ey, satI 32 ez⟩) }
    (n < 32 → s.role n = 0 → framing (s.laneState n) = true → (s.lane n).judged ≤ k → k ≤ s.tick + 1 → k % 2 = 1 →
      Gives (.upstreamFrameReceive n true k app false false miss turn ex ey ez iv t4 ns) s z ∧
      Gives (.upstreamFrameReceive n true k app true false miss turn ex ey ez iv t4 ns) s
        ((z.setFld (R.LN_STAT n) F.LN_STAT_HEAD_FAULT 1).removeHead n 2)) ∧
    Gives (.upstreamFrameReceive n false k app fault frmErr miss turn ex ey ez iv t4 ns) s x ∧
    ((k < (s.lane n).judged ∨ framing (s.laneState n) = false) →
      Gives (.upstreamFrameReceive n true k app fault frmErr miss turn ex ey ez iv t4 ns) s x)) ∧
  -- UPSTREAM_FRAME_DEADLINE
  (∀ (s : State) (n k ns : Nat), n < 24 → s.role n = 0 → framing (s.laneState n) = true →
    let x := s.arrive ns
    let since : Int := (x.now * 1000 : Nat) - 330000 - (s.rd (R.LN_DLY_UP n)).toInt
    0 ≤ since → (since / 500000).toNat = k → (s.lane n).judged ≤ k →
    ((s.lane n).upTick = k + 1 → Gives (.upstreamFrameDeadline n ns) s (x.setLane n { s.lane n with judged := k + 1 })) ∧
    ((s.lane n).upTick ≠ k + 1 → k % 2 = 1 → Gives (.upstreamFrameDeadline n ns) s
      ((x.setLane n { s.lane n with judged := k + 1, missRun := (s.lane n).missRun + 1 }).inc (R.LN_UP_MISS n) 1))) ∧
  -- PDS_RECEIVE
  (∀ (s : State) (n tick : Nat) (w : Word), n < 24 → s.inService n = true → bit w.toNat 31 = true →
    let c := w.toNat / 65536 % 16
    let key := 16 * n + c
    (w.toNat / 1048576 % 2048 = phaseOf (c / 2) → Gives (.pdsReceive n tick [w]) s
      { s with cen := { s.cen with
          pds := sput (fun _ => []) key (((tick % 256, w.toNat % 65536) :: sget (fun _ => []) key s.cen.pds).take 4) s.cen.pds } }) ∧
    (w.toNat / 1048576 % 2048 ≠ phaseOf (c / 2) → Gives (.pdsReceive n tick [w]) s (s.inc (R.CEN_CE_PHERR (n / 2)) 1))) ∧
  (∀ (s : State) (n tick : Nat) (ws : List Word), (24 ≤ n ∨ s.inService n = false) → Gives (.pdsReceive n tick ws) s s) ∧
  -- MSG_RSP_RECEIVE
  (∀ (s : State) (n seq epoch status ns : Nat) (data : List Word), n < 32 → talks (s.laneState n) = true → seq < 256 → epoch < 16 →
    status < 65536 →
    let x := s.arrive ns
    (∀ m : Msg, (s.lane n).out.find? (fun m => m.seq = seq) = some m →
      (epoch = s.fld (R.LN_STAT n) F.LN_STAT_EPOCH →
        Gives (.msgRspReceive n seq epoch status data ns) s ((x.msgGone n seq).msgDone n m (.reply status data))) ∧
      (epoch ≠ s.fld (R.LN_STAT n) F.LN_STAT_EPOCH → Gives (.msgRspReceive n seq epoch status data ns) s (x.inc (R.LN_STALE n) 1))) ∧
    ((s.lane n).out.find? (fun m => m.seq = seq) = none → Gives (.msgRspReceive n seq epoch status data ns) s (x.inc (R.LN_STALE n) 1))) ∧
  -- MSG_TIMEOUT
  (∀ (s : State) (n seq ns : Nat) (m : Msg), n < 32 → (s.lane n).out.find? (fun m => m.seq = seq) = some m →
    let x := s.arrive ns
    let due := m.sentAt + (s.fld (R.LN_MSG_CFG n) F.LN_MSG_CFG_TMO + 1) * 1000
    (x.now < due → Gives (.msgTimeout n seq ns) s x) ∧
    (due ≤ x.now → m.tries < s.fld (R.LN_MSG_CFG n) F.LN_MSG_CFG_RETRY → Runs (.msgTimeout n seq ns) s fun t =>
      t.rd (R.LN_MSG_RETRY n) = satAdd (s.rd (R.LN_MSG_RETRY n)) 1 ∧
      (t.lane n).out.find? (fun m => m.seq = seq) = some { m with tries := m.tries + 1, sentAt := x.now }) ∧
    (due ≤ x.now → s.fld (R.LN_MSG_CFG n) F.LN_MSG_CFG_RETRY ≤ m.tries →
      Gives (.msgTimeout n seq ns) s ((x.msgGone n seq).msgDone n m .noReply))) ∧
  -- TIME_BROADCAST
  (∀ (s : State) (ns : Nat), (s.arrive ns).now / 1000000 ≤ s.lnk.timeAt → Gives (.timeBroadcast ns) s (s.arrive ns)) ∧
  ∀ (s : State) (ns g : Nat), s.lnk.timeAt < (s.arrive ns).now / 1000000 → g < 32 → (∀ n < 32, talks (s.laneState n) = decide (n = g)) →
    let x := s.arrive ns
    let y : State := { x with lnk := { s.lnk with timeAt := x.now / 1000000 } }
    Gives (.timeBroadcast ns) s (y.sendQuiet g 16 Mk.time
      [BitVec.ofNat 32 x.nowTs, BitVec.ofNat 32 (x.nowTs / 2 ^ 32), BitVec.ofNat 32 (x.nowTs / 2 ^ 64), s.rd (R.LN_DLY_DN g)])

/-- Area projection (R284 to R311) and the camera pipelines (R337 to R351). The effect of an event outside its conditions is log entry 1. -/
def Obligations.ProjectionAndCameras : Prop :=
  -- MAP_GO
  (∀ (s : State) (p : Nat) (v : Word), p < 2 → s.mode ≠ .boot → fget v F.MAP_CTL_GO = 1 → fget v F.MAP_CTL_STOP = 0 →
    let modeOk := s.mode = .armed ∨ s.mode = .expose ∨ s.mode = .hold ∨ s.mode = .degraded ∨ s.mode = .service
    let region := ∀ q ∈ s.mapPorts p, (s.mapSet p).fsize * 2 ^ 20 ≤ (s.dramRegion q).2
    let ready := (∀ q ∈ s.mapPorts p, ∀ l < 4, s.inService (24 + 4 * q + l) = true) ∧ (s.map p).queue ≠ [] ∧
      s.fld (R.MAP_STAT p) F.MAP_STAT_RUN = 0
    let some_ := fget v F.MAP_CTL_CONT = 1 ∨ s.rd (R.MAP_NFR p) ≠ 0
    let refused (c : Nat) : Prop := Runs (.mapGo p v) s fun t => t.fld (R.MAP_STAT p) F.MAP_STAT_RES = c ∧ t.maps = s.maps ∧
      ∀ q < 2, t.fld (R.MAP_STAT q) F.MAP_STAT_RUN = s.fld (R.MAP_STAT q) F.MAP_STAT_RUN
    (p = 1 → s.tiled = true → refused St.badParam) ∧
    ((p = 0 ∨ s.tiled = false) →
      (¬ modeOk → refused St.wrongMode) ∧
      (modeOk → ¬ region → refused St.badParam) ∧
      (modeOk → region → ¬ ready → refused St.notReady) ∧
      (modeOk → region → ready → ¬ some_ → refused St.empty) ∧
      (modeOk → region → ready → some_ → Runs (.mapGo p v) s fun t => t.fld (R.MAP_STAT p) F.MAP_STAT_RES = St.done ∧
        ∀ q ∈ s.mapPorts p, t.fld (R.MAP_STAT q) F.MAP_STAT_RUN = 1 ∧ (t.map q).waiting = true ∧ (t.map q).count = 0 ∧
          (t.map q).nfr = (s.rd (R.MAP_NFR p)).toNat ∧ (t.map q).queue = (s.map q).queue ∧
          (t.map q).trigAt = if fget v F.MAP_CTL_TRIG = 0 then some s.now else none))) ∧
  -- MAP_STOP
  (∀ (s : State) (p : Nat) (v : Word), p < 2 → s.mode ≠ .boot → fget v F.MAP_CTL_STOP = 1 → fget v F.MAP_CTL_GO = 0 →
    (s.fld (R.MAP_STAT p) F.MAP_STAT_RUN = 0 → Runs (.mapStop p v) s fun t => t.maps = s.maps ∧ s.sameBut [R.MAP_CTL p] t) ∧
    (s.fld (R.MAP_STAT p) F.MAP_STAT_RUN = 1 → Runs (.mapStop p v) s fun t => ∀ q ∈ s.mapPorts p,
      ((s.map q).cur = none → t.fld (R.MAP_STAT q) F.MAP_STAT_RUN = 0 ∧ (t.map q).next = [] ∧ (t.map q).waiting = false ∧
        (t.map q).queue = ((s.map q).next.filterMap fun f => if f.popped then f.buf else none) ++ (s.map q).queue) ∧
      ∀ f : Frame, (s.map q).cur = some f → (t.map q).cur = some f ∧ (t.map q).stopping = true)) ∧
  -- MAP_SUBMIT and MAP_FREE
  (∀ (s : State) (p : Nat) (v : Word), p < 2 → s.mode ≠ .boot →
    let b := v.toNat % 64
    (p = 1 → s.tiled = true → Gives (.mapSubmit p v) s (s.mapRefuse p 4) ∧ Gives (.mapFree p v) s (s.mapRefuse p 4)) ∧
    ((p = 0 ∨ s.tiled = false) →
      (s.nbuf p ≤ b → Gives (.mapSubmit p v) s (s.mapRefuse p 1)) ∧
      (b < s.nbuf p → s.bufState p b ≠ 0 → s.bufState p b ≠ 4 → Gives (.mapSubmit p v) s (s.mapRefuse p 2)) ∧
      (b < s.nbuf p → (s.bufState p b = 0 ∨ s.bufState p b = 4) →
        (16 ≤ (s.map p).queue.length → Gives (.mapSubmit p v) s (s.mapRefuse p 3)) ∧
        ((s.map p).queue.length < 16 → Runs (.mapSubmit p v) s fun t =>
          (∀ q ∈ s.mapPorts p, (t.map q).queue = (s.map q).queue ++ [b] ∧ t.bufState q b = 1) ∧
          t.fld (R.MAP_QDEPTH p) F.MAP_QDEPTH_QDEPTH = (s.map p).queue.length + 1)) ∧
      (s.bufState p b = 0 → Gives (.mapFree p v) s s) ∧
      (s.bufState p b = 4 → Runs (.mapFree p v) s fun t => ∀ q ∈ s.mapPorts p, t.bufState q b = 0) ∧
      (s.bufState p b ≠ 0 → s.bufState p b ≠ 4 → Runs (.mapFree p v) s fun t =>
        (∀ q ∈ s.mapPorts p, t.bufState q b = s.bufState p b % 8 + 8) ∧ t.fld (R.MAP_STAT p) F.MAP_STAT_DEFERRED_FREE = 1 ∧
        t.rd (R.MAP_DEFERFREE p) = satAdd (s.rd (R.MAP_DEFERFREE p)) 1))) ∧
  -- MAP_START_TRIGGER
  (∀ (s : State) (p : Nat), ((s.map p).waiting = false ∨ (s.map p).trigAt = none) → Gives (.mapStartTrigger p) s s) ∧
  (∀ (s : State) (p at_ : Nat), p < 2 → (s.map p).waiting = true → (s.map p).trigAt = some at_ →
    let m := s.mapSet p
    let r0 := cdiv (at_ * 1000 + 1100000 + m.trst * 400 + m.nl * 100000 + m.vb * 500000) 500000 * 1250
    Gives (.mapStartTrigger p) s ((s.mapPorts p).foldl (fun s q => s.latchFrame q r0 none) s) ∧
    (s.tiled = false → Runs (.mapStartTrigger p) s fun t => (t.map p).waiting = false ∧ ∃ f : Frame,
      (t.map p).next = (s.map p).next ++ [f] ∧ f.r0 = r0 ∧ f.k = 0 ∧ f.set = m ∧
      (s.pulsesPermitted = false → f.dark = true ∧ f.buf = (s.map p).kept ∧ (t.map p).queue = (s.map p).queue) ∧
      (s.pulsesPermitted = true → ∀ b l, (s.map p).queue = b :: l → f.dark = false ∧ f.rep = false ∧ f.buf = some b ∧ (t.map p).queue = l) ∧
      (s.pulsesPermitted = true → (s.map p).queue = [] → f.rep = true ∧ f.buf = (s.map p).kept ∧
        (fget (s.map p).ctl F.MAP_CTL_HOLDLAST = 0 → t.rd (R.MAP_UNDERRUN p) = satAdd (s.rd (R.MAP_UNDERRUN p)) 1)))) ∧
  -- FRAME_LATCH
  (∀ (s : State) (p : Nat), (s.map p).cur = none → (s.map p).next = [] → Gives (.frameLatch p) s s) ∧
  (∀ (s : State) (p : Nat) (f : Frame), p < 2 → s.tiled = false → ((s.map p).next.getLast? = some f ∨ (s.map p).next = [] ∧ (s.map p).cur = some f) →
    ((s.tick < f.vTick ∨ (s.map p).stopping = true) → Gives (.frameLatch p) s s) ∧
    (f.vTick ≤ s.tick → (s.map p).stopping = false →
      Gives (.frameLatch p) s (s.latchFrame p (f.r0 + f.set.total) (some f)) ∧
      Runs (.frameLatch p) s fun t => ∃ g : Frame, (t.map p).next = (s.map p).next ++ [g] ∧ g.r0 = f.r0 + f.set.total ∧
        g.num = (f.num + 1) % 2 ^ 32)) ∧
  -- PLANE_RESET
  (∀ (s : State) (p ns : Nat), p < 2 → s.tiled = false → (s.map p).cur = none →
    ((s.map p).next = [] → Gives (.planeReset p ns) s (s.arrive ns)) ∧
    ∀ (f : Frame) (l : List Frame), (s.map p).next = f :: l →
      ((s.arrive ns).nowSlot < f.r0 → Gives (.planeReset p ns) s (s.arrive ns)) ∧
      (f.r0 ≤ (s.arrive ns).nowSlot → Runs (.planeReset p ns) s fun t => (t.map p).next = l ∧
        t.rd (R.MAP_FNUM p) = BitVec.ofNat 32 f.num ∧ ∃ g : Frame, (t.map p).cur = some g ∧ g.k = f.k + 1)) ∧
  (∀ (s : State) (p ns : Nat) (f : Frame), p < 2 → s.tiled = false → (s.map p).cur = some f → f.k < f.set.npl →
    let x := s.arrive ns
    let m := s.map p
    (x.nowSlot < f.rk f.k → Gives (.planeReset p ns) s x) ∧
    (f.rk f.k ≤ x.nowSlot → m.skip = false → f.set.nl ≤ m.lines → Runs (.planeReset p ns) s fun t =>
      (∃ g : Frame, (t.map p).cur = some g ∧ g.k = f.k + 1 ∧ g.late = f.late) ∧ (t.map p).lines = 0 ∧
      Out.reset p f.num f.k (f.rk f.k) ∈ t.out ∧
      (f.dark = false → x.pulsesPermitted = true → x.forceZero = false →
        ∀ d ∈ f.pulsesOf f.k (f.rk f.k) (fun c => s.fld (R.MAP_SAF_BASE c) F.MAP_SAF_BASE_BASE)
          (fun c => s.fld (R.MAP_SAF_PDLY c) F.MAP_SAF_PDLY_PDLY) (fun c => s.classOf p c),
          d.2.2.1 ≠ 0 → Out.pulse p d.1 d.2.1 d.2.2.1 ∈ t.out)) ∧
    (f.rk f.k ≤ x.nowSlot → (m.skip = true ∨ m.lines < f.set.nl) → Runs (.planeReset p ns) s fun t =>
      (∃ g : Frame, (t.map p).cur = some g ∧ g.k = f.k + 1 ∧ g.late = true) ∧ ∃ l : List Out, t.out = l ++ s.out ∧ l.all Out.isMsix = true)) ∧
  (∀ (s : State) (p ns : Nat) (f : Frame), p < 2 → s.tiled = false → (s.map p).cur = some f → f.set.npl ≤ f.k →
    f.rk f.set.npl ≤ (s.arrive ns).nowSlot → (s.map p).stopping = true →
    Runs (.planeReset p ns) s fun t => (t.map p).cur = none ∧ t.fld (R.MAP_STAT p) F.MAP_STAT_RUN = 0) ∧
  -- LINE_SEND and PLANE_LATE
  (∀ (s : State) (p : Nat), p < 2 → s.tiled = false →
    ((s.map p).target = none → Gives (.lineSend p) s s) ∧
    ∀ (f : Frame) (k : Nat), (s.map p).target = some (f, k) →
      (((s.map p).skip = true ∨ f.set.nl ≤ (s.map p).lines) → Gives (.lineSend p) s s) ∧
      ((s.map p).skip = false → (s.map p).lines < f.set.nl → Runs (.lineSend p) s fun t => (t.map p).lines = (s.map p).lines + 1 ∧
        ∀ l < 4,
          let y := 4 * (s.map p).lines + l
          let w := f.set.width / 8
          let a := (s.dramRegion p).1 + f.buf.getD 0 * f.set.fsize * 2 ^ 20 + f.set.plane.getD k 0 * f.set.height * w + y * w
          Out.row (24 + 4 * p + l) f.num k y (if s.dramPoisoned a w = true then List.replicate w 0 else s.dramBytes a w) ∈ t.out)) ∧
  (∀ (s : State) (p ns : Nat),
    let x := s.arrive ns
    let m := s.map p
    (m.target = none → Gives (.planeLate p ns) s x) ∧
    ∀ (f : Frame) (k : Nat), m.target = some (f, k) →
      ((m.skip = true ∨ f.set.nl ≤ m.lines ∨ x.nowSlot + f.set.vb * 1250 < f.rk k) → Gives (.planeLate p ns) s x) ∧
      (m.skip = false → m.lines < f.set.nl → f.rk k ≤ x.nowSlot + f.set.vb * 1250 → Gives (.planeLate p ns) s
        (((x.setMap p { m with skip := true }).inc (R.MAP_PLANELATE p) 1).setFld (R.MAP_STAT p) F.MAP_STAT_PLANELATE 1))) ∧
  -- ARRAY_STATUS_RECEIVE
  (∀ (s : State) (n k rseq rowErr miss turn ns : Nat) (ok app fault rack : Bool) (e : List Nat) (t4 : Int),
    let use := 24 ≤ n ∧ n < 32 ∧ s.role n = 1 ∧ framing (s.laneState n) = true ∧ ok = true ∧ (s.lane n).judged ≤ k ∧ k ≤ s.tick + 1
    let p := (n - 24) / 4
    (¬ use → Gives (.arrayStatusReceive n ok k app fault rack rseq rowErr miss turn e t4 ns) s (s.arrive ns)) ∧
    (use → fault = false → Runs (.arrayStatusReceive n ok k app fault rack rseq rowErr miss turn e t4 ns) s fun t =>
      t.rd (R.MAP_LINEERR p) = satAdd (s.rd (R.MAP_LINEERR p)) ((rowErr % 2 ^ 32 + 2 ^ 32 - sget (fun _ => 0) n s.lnk.rowErr) % 2 ^ 32) ∧
      sget (fun _ => 0) n t.lnk.rowErr = rowErr % 2 ^ 32 ∧ (t.lane n).upTick = k + 1 ∧
      ((n - 24) % 4 = 0 → ∀ f : Frame, (s.map p).cur = some f → (t.map p).cur = some
        { f with e := (List.range 4).map fun c => min 0xFFFFFFFF (f.e.getD c 0 + e.getD c 0 % 2 ^ 32) })) ∧
    (use → fault = true → Runs (.arrayStatusReceive n ok k app fault rack rseq rowErr miss turn e t4 ns) s fun t =>
      ∀ q ∈ s.mapPorts p, t.fld (R.MAP_STAT q) F.MAP_STAT_RUN = 0)) ∧
  -- CAM_ENABLE
  (∀ (s : State) (c : Nat) (v : Word), c < 4 → s.mode ≠ .boot →
    (s.unlocked = false → Gives (.camEnable c v) s s.lockviol) ∧
    (s.unlocked = true → fget v F.CAM_CFG_EN = 1 →
      (s.camRefused c v = false → Runs (.camEnable c v) s fun t => t.camOn c = true ∧ t.camFld c F.CAM_CFG_SRC = fget v F.CAM_CFG_SRC) ∧
      (s.camRefused c v = true → Runs (.camEnable c v) s fun t => t.camOn c = false ∧ t.fld (R.CAM_STAT c) F.CAM_STAT_CFG_ERR = 1)) ∧
    (s.unlocked = true → fget v F.CAM_CFG_EN = 0 → s.camOn c = true → Runs (.camEnable c v) s fun t =>
      t.camOn c = false ∧ (t.cam c).frame = none ∧ (t.cam c).due = [])) ∧
  -- CAM_SNAP
  (∀ (s : State) (c : Nat) (v : Word) (ns : Nat), s.mode ≠ .boot →
    let x := s.arrive ns
    let m := s.cam c
    let i := slotAfter (x.now * 65536) + s.lfld (R.CAM_TDLY c) F.CAM_TDLY_TDLY
    let acts := fget v F.CAM_SNAP_SNAP = 1 ∧ s.camOn c = true ∧ s.lfld (R.CAM_TRIG c) F.CAM_TRIG_SRC = 0
    (¬ acts → Gives (.camSnap c v ns) s x) ∧
    (acts → (∀ d ∈ m.due, d.at_ ≠ i) → m.due.length + m.await.length < 4 → m.lastAt = none → Runs (.camSnap c v ns) s fun t =>
      (t.cam c).due = m.due ++ [⟨i, 0, 0, m.tag, []⟩] ∧ (t.cam c).lastAt = some i ∧ (t.cam c).tag = (m.tag + 1) % 256) ∧
    (acts → (∀ d ∈ m.due, d.at_ ≠ i) → 4 ≤ m.due.length + m.await.length → Gives (.camSnap c v ns) s (x.inc (R.CAM_TRGDROP c) 1))) ∧
  -- CAM_TRIGGER
  (∀ (s : State) (c ns : Nat), (s.camOn c = false ∨ (s.cam c).due = []) → Gives (.camTrigger c ns) s (s.arrive ns)) ∧
  (∀ (s : State) (c ns : Nat) (d : CamTrig), s.camOn c = true → (s.cam c).due = [d] →
    let x := s.arrive ns
    let met (t : State) : Prop := (t.cam c).due = [] ∧ (t.cam c).await = (s.cam c).await ++ [{ d with set := x.camSetAt c d.at_ }]
    (s.headCam c = true → Runs (.camTrigger c ns) s met) ∧
    (s.headCam c = false → x.now * 5 < d.at_ * 2 → Gives (.camTrigger c ns) s x) ∧
    (s.headCam c = false → d.at_ * 2 ≤ x.now * 5 → Runs (.camTrigger c ns) s fun t => met t ∧ (t.cam c).active = true ∧
      ((s.cam c).active = false → Out.pin 2 (s.camFld c F.CAM_CFG_PORT) (s.camFld c F.CAM_CFG_TPOL ≠ 1) x.now ∈ t.out))) ∧
  -- CAM_TRIGGER_PULSE_END and CAM_TRIGGER_WITHDRAW
  (∀ (s : State) (c ns : Nat),
    let x := s.arrive ns
    let m := s.cam c
    let beyond := m.active = true ∧ ∀ p ∈ m.pulses, p.2 * 2 ≤ x.now * 5
    let gone (t : CamTrig) : Bool := decide (t.at_ + 250000000 ≤ x.now * 5 / 2)
    (beyond → Gives (.camTriggerPulseEnd c ns) s (x.camPinOff c)) ∧
    (¬ beyond → Gives (.camTriggerPulseEnd c ns) s x) ∧
    (m.await.any gone = false → Gives (.camTriggerWithdraw c ns) s x) ∧
    (m.await.any gone = true → Gives (.camTriggerWithdraw c ns) s
      ((x.setCam c { m with await := m.await.filter fun t => !gone t }).inc (R.CAM_TRGMISS c) (m.await.filter gone).length))) ∧
  -- CAM_FRAME_START
  (∀ (s : State) (c ns : Nat), (s.camOn c = false ∨ s.headCam c = true) → Gives (.camFrameStart c ns) s (s.arrive ns)) ∧
  (∀ (s : State) (c ns : Nat), s.camOn c = true → s.headCam c = false → (s.cam c).frame = none →
    let x := s.arrive ns
    let trig := (s.cam c).await.find? fun t => decide (t.at_ * 2 < x.now * 5)
    Runs (.camFrameStart c ns) s fun t =>
      t.fld (R.CAM_FNUM c) F.CAM_FNUM_FNUM = (s.fld (R.CAM_FNUM c) F.CAM_FNUM_FNUM + 1) % 2 ^ 32 ∧
      (∃ f : CamFrame, (t.cam c).frame = some f ∧ f.trig = trig ∧ f.lines = 0 ∧ f.startAt = x.now ∧
        f.num = (s.fld (R.CAM_FNUM c) F.CAM_FNUM_FNUM + 1) % 2 ^ 32) ∧
      t.rd (R.CAM_UNTRIG c) = satAdd (s.rd (R.CAM_UNTRIG c)) (if trig = none then 1 else 0)) ∧
  -- CAM_LINE_END
  (∀ (s : State) (c ns : Nat) (px : List Nat) (lost : Bool), (s.camOn c = false ∨ s.headCam c = true ∨ (s.cam c).frame = none) →
    Gives (.camLineEnd c px lost ns) s (s.arrive ns)) ∧
  (∀ (s : State) (c ns : Nat) (px : List Nat) (f : CamFrame), s.camOn c = true → s.headCam c = false → (s.cam c).frame = some f →
    (f.nextLine < f.height → px.length = f.width → Runs (.camLineEnd c px false ns) s fun t => ∃ g : CamFrame, (t.cam c).frame = some g ∧
      g.nextLine = f.nextLine + 1 ∧ g.flags = f.flags ∧ g.segs = f.segs ++ [(f.nextLine, 0, px.map fun p => p % 2 ^ f.fld 0 F.CAM_ESET_BITS)]) ∧
    (f.height ≤ f.nextLine → bit f.flags Cf.long = false → Runs (.camLineEnd c px false ns) s fun t =>
      t.rd (R.CAM_LONGCNT c) = satAdd (s.rd (R.CAM_LONGCNT c)) 1 ∧ t.fld (R.CAM_STAT c) F.CAM_STAT_LONG = 1 ∧
      ∃ g : CamFrame, (t.cam c).frame = some g ∧ g.segs = f.segs)) ∧
  -- CAM_BLOCK_RECEIVE
  (∀ (s : State) (n line tag seg ns : Nat) (fs fe drop lost : Bool) (px : List Nat),
    let mine := (List.range 4).find? fun c => s.camOn c && s.headCam c && s.camFld c F.CAM_CFG_HEAD = n && s.inService n
    (mine = none → Gives (.camBlockReceive n line fs fe drop tag seg px lost ns) s (s.arrive ns)) ∧
    ∀ c : Nat, mine = some c →
      ((s.cam c).frame = none → fs = false → Gives (.camBlockReceive n line fs fe drop tag seg px lost ns) s (s.arrive ns)) ∧
      (fs = true → Runs (.camBlockReceive n line fs fe drop tag seg px lost ns) s fun t =>
        t.fld (R.CAM_FNUM c) F.CAM_FNUM_FNUM = (s.fld (R.CAM_FNUM c) F.CAM_FNUM_FNUM + 1) % 2 ^ 32 ∧
        (fe = true → (t.cam c).frame = none) ∧ (fe = false → ∃ f : CamFrame, (t.cam c).frame = some f))) ∧
  -- CAM_FRAME_CLOSE and CAM_FRAME_TIMEOUT
  (∀ (s : State) (c ns : Nat), (s.camOn c = false ∨ s.headCam c = true) → Gives (.camFrameClose c ns) s (s.arrive ns)) ∧
  (∀ (s : State) (c ns : Nat), s.camOn c = true → s.headCam c = false →
    Gives (.camFrameClose c ns) s ((s.arrive ns).camClose c false) ∧
    ∀ f : CamFrame, (s.cam c).frame = some f → Runs (.camFrameClose c ns) s fun t =>
      (t.cam c).frame = none ∧ (t.cam c).closed.length = (s.cam c).closed.length + 1) ∧
  (∀ (s : State) (c ns : Nat),
    let x := s.arrive ns
    ((s.cam c).frame = none → Gives (.camFrameTimeout c ns) s x) ∧
    ∀ f : CamFrame, (s.cam c).frame = some f →
      let beyond := f.startAt + 100000000 ≤ x.now ∧ ∀ g ∈ f.segs, g.2.2 = []
      (beyond → Gives (.camFrameTimeout c ns) s ((x.camMark c Cf.timeout).camClose c true)) ∧
      (¬ beyond → Gives (.camFrameTimeout c ns) s x)) ∧
  -- CAM_RECORD_WRITE
  (∀ (s : State) (c : Nat), (4 ≤ c ∨ (s.cam c).closed = []) → Gives (.camRecordWrite c) s s) ∧
  (∀ (s : State) (c : Nat) (f : CamFrame) (l : List CamFrame), c < 4 → (s.cam c).closed = f :: l →
    let r := camRecord f (s.headCam c) s.free
    Runs (.camRecordWrite c) s fun t => (t.cam c).closed = l ∧ t.fld (R.CAM_STAT c) F.CAM_STAT_FRAME = 1 ∧
      t.sramBytes (0x3300000 + 0x40000 * c + 0x4000 * (f.num % 16)) r.length = r) ∧
  -- CAM_TAP
  ∀ (s : State) (c : Nat) (v : Word), c < 4 → s.mode ≠ .boot →
    let n := fget v F.CAM_TAP_N
    let ofs := s.fld (R.CAM_TAPCFG c) F.CAM_TAPCFG_OFS
    let size := s.fld (R.CAM_TAPCFG c) F.CAM_TAPCFG_SIZE
    let mode := s.camFld c F.CAM_CFG_TAPMODE
    let fits := (s.dramRegion 2).2 ≠ 0 ∧ (mode = 1 ∨ mode = 2) ∧ (ofs + size) * 2 ^ 20 ≤ (s.dramRegion 2).2 ∧
      tapPages (s.lfld (R.CAM_GEOM c) F.CAM_GEOM_WIDTH) (s.lfld (R.CAM_GEOM c) F.CAM_GEOM_HEIGHT) ≤ 256 * size
    (n = 0 → Runs (.camTap c v) s fun t => t.fld (R.CAM_STAT c) F.CAM_STAT_RES = St.empty ∧ (t.cam c).taps = 0) ∧
    (n ≠ 0 → fits → Runs (.camTap c v) s fun t => t.fld (R.CAM_STAT c) F.CAM_STAT_RES = St.done ∧ (t.cam c).taps = n) ∧
    (n ≠ 0 → ¬ fits → Gives (.camTap c v) s (s.setFld (R.CAM_STAT c) F.CAM_STAT_RES St.badParam))

/-- Chapter 13. The counting of PTP frames, the clock's choices and events outside their conditions are log entries 1 and 25. -/
def Obligations.TimeAndNetwork : Prop :=
  -- REFERENCE_LOST, REFERENCE_RETURN, REFERENCE_SELECT
  (∀ (s : State) (r : Nat), (2 ≤ r ∨ bit s.tim.present r = false) → Gives (.referenceLost r) s s) ∧
  (∀ (s : State) (r : Nat), r < 2 → bit s.tim.present r = true →
    let x := s.setTim { s.tim with present := setBit s.tim.present r false }
    let other := s.fld R.TIM_REF_CFG F.TIM_REF_CFG_AUTO = 1 ∧ bit s.tim.present (1 - r) = true
    (s.fld R.TIM_STAT F.TIM_STAT_ACTIVE ≠ r → Gives (.referenceLost r) s x) ∧
    (s.fld R.TIM_STAT F.TIM_STAT_ACTIVE = r → other → Runs (.referenceLost r) s fun t => t.fld R.TIM_STAT F.TIM_STAT_ACTIVE = 1 - r ∧
      t.fld R.TIM_STAT F.TIM_STAT_REFSW = 1 ∧ t.rd R.TIM_REFSWCNT = satAdd (s.rd R.TIM_REFSWCNT) 1 ∧ t.mode = s.mode ∧
      bit t.tim.present r = false) ∧
    (s.fld R.TIM_STAT F.TIM_STAT_ACTIVE = r → ¬ other → Gives (.referenceLost r) s
      (((x.setFld R.TIM_STAT F.TIM_STAT_HOLDREF 1).setFld R.TIM_STAT F.TIM_STAT_NOREF 1).report 0x38 0xFFFF r 0 0))) ∧
  (∀ (s : State) (r : Nat), (2 ≤ r → Gives (.referenceReturn r) s s) ∧
    (r < 2 → Runs (.referenceReturn r) s fun t => bit t.tim.present r = true ∧ t.fld R.TIM_STAT F.TIM_STAT_ACTIVE = s.fld R.TIM_STAT F.TIM_STAT_ACTIVE ∧
      s.sameBut [R.TIM_STAT] t)) ∧
  (∀ (s : State) (v : Word), s.mode ≠ .boot →
    let r := fget v F.TIM_REF_CFG_SEL
    let wrote (t : State) : Prop := t.fld R.TIM_REF_CFG F.TIM_REF_CFG_SEL = r ∧
      t.fld R.TIM_REF_CFG F.TIM_REF_CFG_AUTO = fget v F.TIM_REF_CFG_AUTO ∧
      t.fld R.TIM_REF_CFG F.TIM_REF_CFG_FREQ0 = if s.unlocked = true then fget v F.TIM_REF_CFG_FREQ0 else s.fld R.TIM_REF_CFG F.TIM_REF_CFG_FREQ0
    let moves := bit s.tim.present r = true ∧ (s.fld R.TIM_STAT F.TIM_STAT_ACTIVE ≠ r ∨ s.fld R.TIM_STAT F.TIM_STAT_HOLDREF = 1)
    (moves → Runs (.referenceSelect v) s fun t => wrote t ∧ t.fld R.TIM_STAT F.TIM_STAT_ACTIVE = r ∧ t.fld R.TIM_STAT F.TIM_STAT_HOLDREF = 0 ∧
      t.fld R.TIM_STAT F.TIM_STAT_REFSW = 1 ∧ t.rd R.TIM_REFSWCNT = satAdd (s.rd R.TIM_REFSWCNT) 1) ∧
    (¬ moves → Runs (.referenceSelect v) s fun t => wrote t ∧ t.rd R.TIM_STAT = s.rd R.TIM_STAT ∧ t.rd R.TIM_REFSWCNT = s.rd R.TIM_REFSWCNT)) ∧
  -- SYNCI_CAPTURE
  (∀ (s : State) (n ns frac : Nat) (rising : Bool),
    let x := s.arrive ns
    let edge := s.fld (R.TIM_SYNCI_CFG n) F.TIM_SYNCI_CFG_EDGE
    let wanted := n < 4 ∧ (rising = true ∧ (edge = 1 ∨ edge = 3) ∨ rising = false ∧ (edge = 2 ∨ edge = 3))
    let at_ := x.now * 65536 + frac % 65536 / 8192 * 8192
    let near := ∃ p, sget (fun _ => none) n s.tim.capAt = some p ∧ at_ < p + 8 * 65536
    let c := ((at_ : Int) - rdiv (sgn 24 (s.fld (R.TIM_SYNCI_CFG n) F.TIM_SYNCI_CFG_DLY) * 65536) 1000).toNat
    (¬ wanted → Gives (.synciCapture n rising ns frac) s x) ∧
    (wanted → near → Gives (.synciCapture n rising ns frac) s (x.inc R.TIM_CAPMISS 1)) ∧
    (wanted → ¬ near → Runs (.synciCapture n rising ns frac) s fun t =>
      t.rd (R.TIM_SYNCI_CNT n) = satAdd (s.rd (R.TIM_SYNCI_CNT n)) 1 ∧ sget (fun _ => none) n t.tim.capAt = some at_ ∧
      (∀ i < 3, t.rd (R.TIM_SYNCI_TS n i) = BitVec.ofNat 32 ((ts96 (c / 65536) + c % 65536) / 2 ^ (32 * i))) ∧
      (s.mode = .armed → s.fld R.TIM_START_CFG F.TIM_START_CFG_SYNCI = n → t.fld R.TIM_START_CFG F.TIM_START_CFG_EN = 0))) ∧
  -- SYNCO
  (∀ (s : State) (n ns : Nat) (v : Word), s.mode ≠ .boot →
    let x := s.arrive ns
    let mode := fget v F.TIM_SYNCO_CFG_MODE
    let at_ := extendTs ((s.rd (R.TIM_SYNCO_AT_LO n)).toNat + (s.rd (R.TIM_SYNCO_AT_HI n)).toNat * 2 ^ 32) x.now
    let beyond := at_ < 0 ∨ slotAfter at_.toNat * 2 < x.now * 5
    (4 ≤ n → Gives (.syncoSchedule n v ns) s x) ∧
    (n < 4 → mode ≠ 2 → Runs (.syncoSchedule n v ns) s fun t => t.fld (R.TIM_SYNCO_CFG n) F.TIM_SYNCO_CFG_MODE = mode ∧
      t.fld (R.TIM_SYNCO_CFG n) F.TIM_SYNCO_CFG_WIDTH = fget v F.TIM_SYNCO_CFG_WIDTH ∧ (mode = 0 → bit t.tim.on n = false)) ∧
    (n < 4 → mode = 2 → ¬ beyond → Runs (.syncoSchedule n v ns) s fun t => t.fld (R.TIM_SYNCO_CFG n) F.TIM_SYNCO_CFG_MODE = 2 ∧
      sget (fun _ => none) n t.tim.armed = some (slotAfter at_.toNat)) ∧
    (n < 4 → mode = 2 → beyond → Runs (.syncoSchedule n v ns) s fun t => t.fld (R.TIM_SYNCO_CFG n) F.TIM_SYNCO_CFG_MODE = 0 ∧
      sget (fun _ => none) n t.tim.armed = none)) ∧
  (∀ (s : State) (n ns : Nat), (4 ≤ n ∨ s.mode = .boot) → Gives (.syncoPulseStart n ns) s (s.arrive ns)) ∧
  (∀ (s : State) (n ns : Nat), n < 4 → s.mode ≠ .boot →
    let x := s.arrive ns
    let mode := s.fld (R.TIM_SYNCO_CFG n) F.TIM_SYNCO_CFG_MODE
    let slot := 1250 * s.tick + min 1249 (s.fld (R.TIM_SYNCO_PH n) F.TIM_SYNCO_PH_PH)
    let starts (y : Nat) (t : State) : Prop := bit t.tim.on n = true ∧
      t.tim.pulses = s.tim.pulses ++ [(n, y, y + (s.fld (R.TIM_SYNCO_CFG n) F.TIM_SYNCO_CFG_WIDTH + 1) * 250)] ∧
      (bit s.tim.on n = false → Out.pin 3 n (s.fld (R.TIM_SYNCO_CFG n) F.TIM_SYNCO_CFG_POL ≠ 1) x.now ∈ t.out)
    let due := s.tick % ((s.rd (R.TIM_SYNCO_PER n)).toNat + 1) = 0 ∧ slot * 2 / 5 ≤ x.now ∧ sget (fun _ => none) n s.tim.lastSync ≠ some slot
    (mode = 1 → due → Runs (.syncoPulseStart n ns) s (starts slot)) ∧
    (mode = 1 → ¬ due → Gives (.syncoPulseStart n ns) s x) ∧
    (mode ≠ 1 → sget (fun _ => none) n s.tim.armed = none → Gives (.syncoPulseStart n ns) s x) ∧
    ∀ y, mode = 2 → sget (fun _ => none) n s.tim.armed = some y →
      (y * 2 / 5 ≤ x.now → Runs (.syncoPulseStart n ns) s fun t => starts y t ∧ t.fld (R.TIM_SYNCO_CFG n) F.TIM_SYNCO_CFG_MODE = 0) ∧
      (x.now < y * 2 / 5 → Gives (.syncoPulseStart n ns) s x)) ∧
  (∀ (s : State) (n ns : Nat),
    let x := s.arrive ns
    let beyond := bit s.tim.on n = true ∧ ∀ p ∈ s.tim.pulses, p.1 = n → p.2.2 * 2 ≤ x.now * 5
    (beyond → Runs (.syncoPulseEnd n ns) s fun t => bit t.tim.on n = false ∧ ∀ p ∈ t.tim.pulses, p.1 ≠ n) ∧
    (¬ beyond → Gives (.syncoPulseEnd n ns) s x)) ∧
  -- TIME_STEP and TIME_ASYM
  (∀ (s : State) (n : Nat) (c : Cmd), s.ready n 0x18 c →
    let ts := c.arg 0 + c.arg 1 * 2 ^ 32 + c.arg 2 * 2 ^ 64
    let running := s.mode = .armed ∨ s.mode = .expose ∨ s.mode = .hold ∨ s.mode = .degraded
    (tsValid ts = false → Gives (.timeStep n) s (s.endCmd c St.badParam 0 0)) ∧
    (tsValid ts = true → fineOfTs ts = 0 → Gives (.timeStep n) s (s.endCmd c St.empty 0 0)) ∧
    (tsValid ts = true → fineOfTs ts ≠ 0 → running → Gives (.timeStep n) s (s.endCmd c St.notReady 0 0)) ∧
    (tsValid ts = true → fineOfTs ts ≠ 0 → ¬ running → Runs (.timeStep n) s fun t =>
      t.tim.steps = s.tim.steps ++ [⟨fineOfTs ts, some n, s.now, s.tick⟩] ∧ t.now = s.now)) ∧
  (∀ (s : State) (n : Nat) (c : Cmd), s.ready n 0x19 c →
    let v := BitVec.ofNat 32 (c.arg 0)
    ((1 < c.target ∨ 10000000 < v.toInt.natAbs) → Gives (.timeAsym n) s (s.endCmd c St.badParam 0 0)) ∧
    (c.target ≤ 1 → v.toInt.natAbs ≤ 10000000 → Gives (.timeAsym n) s ((s.wr (R.TIM_P_ASYM c.target) v).endCmd c St.done 0 0))) ∧
  -- TIME_STEP_APPLY
  (∀ s : State, s.tim.steps = [] → Gives .timeStepApply s s) ∧
  (∀ (s : State) (d : TimeStep) (l : List TimeStep), s.tim.steps = d :: l →
    (s.tick ≤ d.tick → Gives .timeStepApply s s) ∧
    (d.tick < s.tick → Runs .timeStepApply s fun t => t.now = (((s.now : Int) * 65536 + d.offset) / 65536).toNat ∧ t.tick = t.now / 500 ∧
      t.fld R.TIM_STAT F.TIM_STAT_STEPPED = 1)) ∧
  -- PTP messages on a port that does not receive them
  (∀ (s : State) (p dom src seq ns frac : Nat) (two : Bool) (key : List Nat) (t1 : Int) (i : Instr),
    i ∈ [Instr.ptpAnnounceReceive p dom src key ns, .ptpSyncReceive p dom src seq two t1 ns frac, .ptpFollowUpReceive p dom src seq t1 ns,
      .ptpDelayResponseReceive p dom seq t1 ns frac, .ptpPdelayReqReceive p dom seq ns frac, .ptpDelayReqReceive p dom seq ns frac] →
    (s.portUp p = false → Gives i s (s.arrive ns)) ∧
    (s.portUp p = true → (s.ptpPort p = false ∨ s.ptpCfg F.TIM_PTP_CFG_DOMAIN ≠ dom) → Gives i s ((s.arrive ns).rxDrop p))) ∧
  -- PTP messages that are received
  (∀ (s : State) (p src seq ns frac : Nat) (t1 : Int), s.ptpPort p = true →
    let dom := s.ptpCfg F.TIM_PTP_CFG_DOMAIN
    let x := s.arrive ns
    let y := x.rxOk p
    let ptp := s.tim.ptp
    let a := rdiv ((s.rd (R.TIM_P_ASYM p)).toInt * 65536) 2000
    let shows (o : Int) (t : State) : Prop := t.rd R.TIM_PTP_OFS_LO = BitVec.ofNat 32 (wrap 64 o) ∧
      t.rd R.TIM_PTP_OFS_HI = BitVec.ofNat 32 (wrap 64 o / 2 ^ 32)
    -- Announce
    (∀ key, (src = s.clockId → Gives (.ptpAnnounceReceive p dom src key ns) s y) ∧
      (src ≠ s.clockId → Runs (.ptpAnnounceReceive p dom src key ns) s fun t =>
        ∃ f ∈ t.tim.ptp.foreign, f.port = p ∧ f.src = src ∧ f.key = key ∧ f.at_ = x.now)) ∧
    -- Sync
    (∀ two, s.fromParent p src = false → Gives (.ptpSyncReceive p dom src seq two t1 ns frac) s y) ∧
    (s.fromParent p src = true →
      (Runs (.ptpSyncReceive p dom src seq true t1 ns frac) s fun t => t.tim.ptp.twoStep = some (p, seq, t1, (x.fine frac : Int))) ∧
      (ptp.twoStep = none → Gives (.ptpSyncReceive p dom src seq false t1 ns frac) s (y.syncOffset p t1 (x.fine frac))) ∧
      Runs (.ptpSyncReceive p dom src seq false t1 ns frac) s (shows ((x.fine frac : Int) - t1 - ptp.d - a))) ∧
    -- Follow_Up
    (s.fromParent p src = false → Gives (.ptpFollowUpReceive p dom src seq t1 ns) s y) ∧
    (ptp.twoStep = none → Gives (.ptpFollowUpReceive p dom src seq t1 ns) s y) ∧
    (∀ corr t2 : Int, s.fromParent p src = true → ptp.twoStep = some (p, seq, corr, t2) →
      Runs (.ptpFollowUpReceive p dom src seq t1 ns) s (shows (t2 - (t1 + corr) - ptp.d - a))) ∧
    -- Delay_Resp and Pdelay_Resp
    ((ptp.req.find? fun r => r.1 = p && r.2.1 = seq) = none → Gives (.ptpDelayResponseReceive p dom seq t1 ns frac) s y) ∧
    (∀ (sent m : Int) (l : Int × Int), (ptp.req.find? fun r => r.1 = p && r.2.1 = seq) = some (p, seq, sent) →
      ((s.ptpCfg F.TIM_PTP_CFG_PROFILE = 0 ∧ ptp.last = some l ∧ m = (l.2 - l.1 + (t1 - sent)) / 2) ∨
        (s.ptpCfg F.TIM_PTP_CFG_PROFILE ≠ 0 ∧ s.fld (R.TIM_P_STAT p) F.TIM_P_STAT_PSTATE = 3 ∧ m = ((x.fine frac : Int) - sent - t1) / 2)) →
      (ptp.dSet = false → Runs (.ptpDelayResponseReceive p dom seq t1 ns frac) s fun t => t.tim.ptp.d = m ∧ t.tim.ptp.dSet = true) ∧
      (ptp.dSet = true → (m - ptp.d).natAbs ≤ s.lfld R.TIM_PTP_PD F.TIM_PTP_PD_PDSTEP * 65536 →
        Runs (.ptpDelayResponseReceive p dom seq t1 ns frac) s fun t => t.tim.ptp.d = ptp.d + fdiv (m - ptp.d) 16 ∧ t.tim.ptp.dFar = [])) ∧
    -- Pdelay_Req and Delay_Req
    (s.ptpCfg F.TIM_PTP_CFG_PROFILE ≠ 0 → Gives (.ptpPdelayReqReceive p dom seq ns frac) s (y.ethSend p (.ptp p 3 seq [(x.fine frac : Int)])) ∧
      Gives (.ptpDelayReqReceive p dom seq ns frac) s (x.rxDrop p)) ∧
    (s.ptpCfg F.TIM_PTP_CFG_PROFILE = 0 → Gives (.ptpPdelayReqReceive p dom seq ns frac) s (x.rxDrop p) ∧
      (s.fld (R.TIM_P_STAT p) F.TIM_P_STAT_PSTATE = 2 →
        Gives (.ptpDelayReqReceive p dom seq ns frac) s (y.ethSend p (.ptp p 9 seq [(x.fine frac : Int)]))))) ∧
  -- PTP_MESSAGE_TRANSMIT
  (∀ (s : State) (p type ns frac : Nat),
    let x := s.arrive ns
    let st := s.fld (R.TIM_P_STAT p) F.TIM_P_STAT_PSTATE
    let e2e := s.ptpCfg F.TIM_PTP_CFG_PROFILE = 0
    let gap := s.ptpInt (if type = 0 then F.TIM_PTP_INT_LOGSYNC else if type = 11 then F.TIM_PTP_INT_LOGANN else F.TIM_PTP_INT_LOGPDELAY)
    let due := s.ptpPort p = true ∧ ((type = 0 ∨ type = 11) ∧ st = 2 ∨ type = 1 ∧ st = 3 ∧ e2e ∨ type = 2 ∧ ¬ e2e) ∧
      ∀ y, sget (fun _ => none) (16 * p + type) s.tim.ptp.txAt = some y → y + gap ≤ x.now
    let seq := sget (fun _ => 0) (16 * p + type) s.tim.ptp.txSeq
    (¬ due → Gives (.ptpMessageTransmit p type ns frac) s x) ∧
    (due → Runs (.ptpMessageTransmit p type ns frac) s fun t => sget (fun _ => 0) (16 * p + type) t.tim.ptp.txSeq = (seq + 1) % 65536 ∧
      t.rd (R.TIM_P_TXOK p) = satAdd (s.rd (R.TIM_P_TXOK p)) 1 ∧
      (type ≠ 11 → Out.ptp p type seq [(x.fine frac : Int)] ∈ t.out) ∧ ∃ fields, Out.ptp p type seq fields ∈ t.out)) ∧
  -- PTP_MASTER_LOST and PTP_GUARD_END
  (∀ (s : State) (ns : Nat), s.ptpCfg F.TIM_PTP_CFG_EN = 0 → Gives (.ptpMasterLost ns) s (s.arrive ns)) ∧
  (∀ (s : State) (ns : Nat) (f : Foreign), s.ptpCfg F.TIM_PTP_CFG_EN = 1 → s.tim.ptp.parent = some f →
    let x := s.arrive ns
    let gone := s.tim.ptp.syncAt + s.ptpInt F.TIM_PTP_INT_LOGSYNC * (s.lfld R.TIM_PTP_INT F.TIM_PTP_INT_SYNCTMO + 1) ≤ x.now ∨
      s.tim.ptp.annAt + s.annLimit ≤ x.now
    (gone → Runs (.ptpMasterLost ns) s fun t => t.fld R.TIM_PTP_STAT F.TIM_PTP_STAT_MASTER_LOST = 1 ∧ t.servo = Sv.holdover ∧
      t.tim.ptp.cmd = intOf (s.rd R.TIM_PTP_I)) ∧
    (¬ gone → Gives (.ptpMasterLost ns) s (x.setPtp { s.tim.ptp with foreign := s.tim.ptp.foreign.filter fun g => decide (x.now < g.at_ + s.annLimit) }))) ∧
  (∀ (s : State) (ns : Nat),
    let beyond := s.servo = Sv.guard ∧ s.tim.ptp.guardEnd ≤ (s.arrive ns).now
    (beyond → Gives (.ptpGuardEnd ns) s ((s.arrive ns).setServo Sv.slave)) ∧ (¬ beyond → Gives (.ptpGuardEnd ns) s (s.arrive ns))) ∧
  -- the Ethernet ports
  (∀ (s : State) (p ip ns : Nat) (data : List Byte) (bad up : Bool),
    (s.portUp p = false → Gives (.arpRequestReceive p ip) s s ∧ Gives (.icmpEchoReceive p ip data) s s ∧ Gives (.ethFrameDrop p bad) s s) ∧
    (s.portUp p = true → s.hasIp p ip = true → Gives (.arpRequestReceive p ip) s ((s.rxOk p).ethSend p (.net p 1 (leBytes ip 4))) ∧
      Gives (.icmpEchoReceive p ip data) s ((s.rxOk p).ethSend p (.net p 2 data))) ∧
    (s.portUp p = true → s.hasIp p ip = false → Gives (.arpRequestReceive p ip) s (s.rxDrop p) ∧
      Gives (.icmpEchoReceive p ip data) s (s.rxDrop p)) ∧
    (s.portUp p = true → Gives (.ethFrameDrop p true) s (s.inc (R.TIM_P_RXFCS p) 1) ∧ Gives (.ethFrameDrop p false) s (s.rxDrop p)) ∧
    (p < 2 → s.fld (R.TIM_P_STAT p) F.TIM_P_STAT_LINK ≠ b2n up → Runs (.ethLinkChange p up ns) s fun t =>
      t.fld (R.TIM_P_STAT p) F.TIM_P_STAT_LINK = b2n up ∧ t.fld (R.TIM_P_STAT p) F.TIM_P_STAT_LINKCHG = 1) ∧
    ((2 ≤ p ∨ s.fld (R.TIM_P_STAT p) F.TIM_P_STAT_LINK = b2n up) → Gives (.ethLinkChange p up ns) s (s.arrive ns)))

/-- Chapter 15. The choice of slots and the events outside their conditions are log entries 1 and 28. -/
def Obligations.RecordsAndFlash : Prop :=
  -- FLASH_PAGE_PROGRAM_DONE
  (∀ (s : State) (ok : Bool) (ns : Nat), (s.arrive ns).latchProgram.recd.busy = none →
    Gives (.flashPageProgramDone ok ns) s (s.arrive ns).latchProgram) ∧
  (∀ (s : State) (ns seq : Nat) (pf : Bool) (c : Cairn),
    let x := (s.arrive ns).latchProgram
    let n := (s.rd R.REC_PCOUNT).toNat
    x.recd.busy = some (seq, pf) → x.recd.staging.find? (fun d => d.seq = seq) = some c →
    -- the permanent copy
    (c.perm = true → c.permDone = false → n < 4096 →
      (Runs (.flashPageProgramDone true ns) s fun t => t.rd R.REC_PCOUNT = BitVec.ofNat 32 (n + 1) ∧ t.recd.fails = 0 ∧ t.recd.busy = none ∧
        sget (fun _ => none) n t.recd.permSlots = some { c with permDone := true, pfl := c.pfl || pf }) ∧
      Runs (.flashPageProgramDone false ns) s fun t => t.rd R.REC_PCOUNT = BitVec.ofNat 32 (n + 1) ∧ t.recd.fails = x.recd.fails + 1 ∧
        t.rd R.REC_FLASHFAIL = satAdd (s.rd R.REC_FLASHFAIL) 1 ∧ t.recd.permSlots = x.recd.permSlots ∧
        (x.recd.fails + 1 = 3 → t.recd.stopped = true ∧ t.fld R.REC_STAT F.REC_STAT_FLASHERR = 1)) ∧
    -- the circulating copy
    ((c.perm = false ∨ c.permDone = true ∨ 4096 ≤ n) → x.recd.room (x.recd.slotOf seq) ≠ 0 → x.recd.room (x.recd.slotOf seq) ≤ 65536 →
      (Runs (.flashPageProgramDone true ns) s fun t => t.recd.fails = 0 ∧ t.recd.busy = none ∧ (∀ d ∈ t.recd.staging, d.seq ≠ seq) ∧
        (∃ d : Cairn, sget (fun _ => none) (x.recd.slotOf seq % 65536) t.recd.circSlots = some d ∧ d.seq = seq ∧ d.payload = c.payload) ∧
        (c.perm = true → c.permDone = false → t.fld R.REC_STAT F.REC_STAT_PFULL = 1)) ∧
      Runs (.flashPageProgramDone false ns) s fun t => t.recd.skip = x.recd.skip + 1 ∧ t.recd.fails = x.recd.fails + 1 ∧
        t.rd R.REC_FLASHFAIL = satAdd (s.rd R.REC_FLASHFAIL) 1)) ∧
  -- FLASH_ERASE_DONE
  (∀ (s : State) (ns : Nat),
    let x := s.arrive ns
    let i := s.recd.erased % 65536
    (x.erasing = false → Gives (.flashEraseDone ns) s x) ∧
    (x.erasing = true → Runs (.flashEraseDone ns) s fun t => t.recd.erased = (s.recd.erased + 16) % 2 ^ 32 ∧
      t.recd.circSlots = s.recd.circSlots.filter (fun p => !(decide (i ≤ p.1) && decide (p.1 < i + 16))) ∧ t.recd.staging = s.recd.staging)) ∧
  -- FLASH_RETRY
  (∀ (s : State) (v : Word), s.mode ≠ .boot →
    (fget v F.REC_CTL_RETRY = 1 → Gives (.flashRetry v) s { s with recd := { s.recd with stopped := false, fails := 0 } }) ∧
    (fget v F.REC_CTL_RETRY = 0 → Gives (.flashRetry v) s s)) ∧
  -- OPERATING_TIME_RECORD
  (∀ (s : State) (ns : Nat),
    let hour := (s.rd R.REC_OPTIME).toNat / 3600 * 3600
    (hour ≤ s.recd.opAt → Gives (.operatingTimeRecord ns) s (s.arrive ns)) ∧
    (s.recd.opAt < hour → Gives (.operatingTimeRecord ns) s
      ({ s.arrive ns with recd := { s.recd with opAt := hour } }.cairn 11 2 false []))) ∧
  -- QS_BUFFER_FLUSH
  (∀ (s : State) (ns : Nat),
    let x := s.arrive ns
    let due := s.recd.qBuf ≠ [] ∧ s.recd.qBufSince + s.fld R.REC_QS_CFG F.REC_QS_CFG_FLUSH * 1000000 ≤ x.now
    (due → Gives (.qsBufferFlush ns) s x.flushQuality ∧ Runs (.qsBufferFlush ns) s fun t => t.recd.qBuf = []) ∧
    (¬ due → Gives (.qsBufferFlush ns) s x)) ∧
  -- QS_ENABLE
  (∀ (s : State) (v : Word), s.mode ≠ .boot →
    let w := v &&& (fmask F.REC_QS_CFG_FLUSH ||| fmask F.REC_QS_CFG_SBC ||| fmask F.REC_QS_CFG_EN)
    let begins := fget v F.REC_QS_CFG_EN = 1 ∧ s.fld R.REC_QS_CFG F.REC_QS_CFG_EN = 0
    (s.unlocked = false → Gives (.qsEnable v) s s.lockviol) ∧
    (s.unlocked = true → begins → s.ringBad = false → Runs (.qsEnable v) s fun t =>
      t.rd R.REC_QS_CFG = w ∧ t.rd R.REC_QS_WPTR = 0 ∧ t.rd R.REC_QS_RPTR = 0) ∧
    (s.unlocked = true → begins → s.ringBad = true → Runs (.qsEnable v) s fun t =>
      t.fld R.REC_QS_CFG F.REC_QS_CFG_EN = 0 ∧ t.fld R.REC_QS_STAT F.REC_QS_STAT_CFG_ERR = 1) ∧
    (s.unlocked = true → ¬ begins → Gives (.qsEnable v) s (s.wr R.REC_QS_CFG w))) ∧
  -- QS_RPTR_WRITE
  ∀ (s : State) (v : Word), s.mode ≠ .boot →
    ((v.toNat % 8 ≠ 0 ∨ s.ring.2 ≤ v.toNat) → Gives (.qsRptrWrite v) s (s.setFld R.REC_QS_STAT F.REC_QS_STAT_CFG_ERR 1)) ∧
    (v.toNat % 8 = 0 → v.toNat < s.ring.2 → Gives (.qsRptrWrite v) s (s.wr R.REC_QS_RPTR v))

end
end

