-- ==== Sys2Proof/Laws/Sparse.lean ====
section
/-! SUPPORT. The laws of sparse tables, which hold of every list of pairs: a read after a write, a read of another key; and the canonical form,
which every write keeps. -/

namespace Sys2Proof.Machine

variable {α : Type} (d : Nat → α)

theorem sget_sdel_same (k : Nat) (m : Sparse α) : sget d k (sdel k m) = d k := by
  induction m with
  | nil => rfl
  | cons p t ih =>
    obtain ⟨j, w⟩ := p
    by_cases h : k = j <;> simp [sdel, sget, h, ih]
    simpa [h] using ih

theorem sget_sdel_ne (k l : Nat) (m : Sparse α) (h : l ≠ k) : sget d l (sdel k m) = sget d l m := by
  induction m with
  | nil => rfl
  | cons p t ih =>
    obtain ⟨j, w⟩ := p
    by_cases hk : k = j
    · subst hk; simp [sdel, sget, h, ih]
    · simp [sdel, sget, hk, ih]

theorem sget_sins_same (k : Nat) (v : α) (m : Sparse α) (h : ∀ p ∈ m, p.1 ≠ k) : sget d k (sins k v m) = v := by
  induction m with
  | nil => simp [sins, sget]
  | cons p t ih =>
    obtain ⟨j, w⟩ := p
    have hj : k ≠ j := fun e => h (j, w) (by simp) e.symm
    by_cases hk : k < j
    · simp [sins, hk, sget]
    · simp [sins, hk, sget, hj, ih fun p hp => h p (by simp [hp])]

theorem sget_sins_ne (k l : Nat) (v : α) (m : Sparse α) (h : l ≠ k) : sget d l (sins k v m) = sget d l m := by
  induction m with
  | nil => simp [sins, sget, h]
  | cons p t ih =>
    obtain ⟨j, w⟩ := p
    by_cases hk : k < j <;> simp [sins, hk, sget, h, ih]

theorem sdel_keys (k : Nat) (m : Sparse α) : ∀ p ∈ sdel k m, p.1 ≠ k ∧ p ∈ m := by
  induction m with
  | nil => simp [sdel]
  | cons p t ih =>
    obtain ⟨j, w⟩ := p
    intro q hq
    by_cases hk : k = j
    · simp only [sdel, hk, if_true] at hq
      have := ih q (by simpa [hk] using hq)
      exact ⟨this.1, by simp [this.2]⟩
    · simp only [sdel, hk, if_false, List.mem_cons] at hq
      rcases hq with rfl | hq
      · exact ⟨fun e => hk e.symm, by simp⟩
      · exact ⟨(ih q hq).1, by simp [(ih q hq).2]⟩

theorem sins_keys (k : Nat) (v : α) (m : Sparse α) : ∀ p ∈ sins k v m, p = (k, v) ∨ p ∈ m := by
  induction m with
  | nil => simp [sins]
  | cons p t ih =>
    obtain ⟨j, w⟩ := p
    intro q hq
    by_cases hk : k < j
    · simpa [sins, hk] using hq
    · simp only [sins, hk, if_false, List.mem_cons] at hq
      rcases hq with rfl | hq
      · simp
      · rcases ih q hq with h | h <;> simp [h]

section
variable [DecidableEq α]

/-- A key reads what was written to it. -/
@[simp] theorem sget_sput_same (k : Nat) (v : α) (m : Sparse α) : sget d k (sput d k v m) = v := by
  by_cases h : v = d k
  · simp [sput, h, sget_sdel_same]
  · simp [sput, h, sget_sins_same d k v _ fun p hp => (sdel_keys k m p hp).1]

/-- A write to one key leaves every other key alone. -/
@[simp] theorem sget_sput_ne (k l : Nat) (v : α) (m : Sparse α) (h : l ≠ k) : sget d l (sput d k v m) = sget d l m := by
  by_cases hv : v = d k
  · simp [sput, hv, sget_sdel_ne d k l m h]
  · simp [sput, hv, sget_sins_ne d k l v _ h, sget_sdel_ne d k l m h]

/-- A read after a write, as one equation. -/
theorem sget_sput (k l : Nat) (v : α) (m : Sparse α) : sget d l (sput d k v m) = if l = k then v else sget d l m := by
  by_cases h : l = k
  · subst h; simp
  · simp [h]

theorem sabove_iff (a : Nat) (m : Sparse α) (h : swf d m = true) : sabove a m = true ↔ ∀ p ∈ m, a < p.1 := by
  induction m generalizing a with
  | nil => simp [sabove]
  | cons p t ih =>
    obtain ⟨j, w⟩ := p
    simp only [swf, Bool.and_eq_true] at h
    have ht := (ih j h.2).1 h.1.2
    constructor
    · intro ha q hq
      have haj : a < j := by simpa [sabove] using ha
      rcases List.mem_cons.1 hq with rfl | hq
      · exact haj
      · exact Nat.lt_trans haj (ht q hq)
    · intro ha
      simpa [sabove] using ha (j, w) (by simp)

theorem swf_sdel (k : Nat) (m : Sparse α) (h : swf d m = true) : swf d (sdel k m) = true := by
  induction m with
  | nil => rfl
  | cons p t ih =>
    obtain ⟨j, w⟩ := p
    have h0 := h
    simp only [swf, Bool.and_eq_true] at h
    have ht := ih h.2
    by_cases hk : k = j
    · simpa [sdel, hk] using (by simpa [hk] using ht)
    · simp only [sdel, hk, if_false, swf, Bool.and_eq_true]
      refine ⟨⟨h.1.1, ?_⟩, ht⟩
      rw [sabove_iff d j _ ht]
      exact fun q hq => (sabove_iff d j t h.2).1 h.1.2 q (sdel_keys k t q hq).2

theorem swf_sins (k : Nat) (v : α) (m : Sparse α) (hv : v ≠ d k) (hk : ∀ p ∈ m, p.1 ≠ k) (h : swf d m = true) :
    swf d (sins k v m) = true := by
  induction m with
  | nil => simp [sins, swf, sabove, hv]
  | cons p t ih =>
    obtain ⟨j, w⟩ := p
    have h0 := h
    simp only [swf, Bool.and_eq_true] at h
    by_cases hj : k < j
    · simp only [sins, hj, if_true, swf, Bool.and_eq_true]
      exact ⟨⟨by simpa using hv, by simp [sabove, hj]⟩, by simpa [swf] using h0⟩
    · have hne : j ≠ k := hk (j, w) (by simp)
      have hlt : j < k := by omega
      have ht := ih (fun p hp => hk p (by simp [hp])) h.2
      simp only [sins, hj, if_false, swf, Bool.and_eq_true]
      refine ⟨⟨h.1.1, ?_⟩, ht⟩
      rw [sabove_iff d j _ ht]
      intro q hq
      rcases sins_keys k v t q hq with rfl | hq
      · exact hlt
      · exact (sabove_iff d j t h.2).1 h.1.2 q hq

/-- Every write keeps the canonical form. -/
@[simp] theorem swf_sput (k : Nat) (v : α) (m : Sparse α) (h : swf d m = true) : swf d (sput d k v m) = true := by
  by_cases hv : v = d k
  · simp [sput, hv, swf_sdel d k m h]
  · simp only [sput, hv, if_false]
    exact swf_sins d k v _ hv (fun p hp => (sdel_keys k m p hp).1) (swf_sdel d k m h)

end

end Sys2Proof.Machine
end

