-- ==== Sys2Proof/Laws/State.lean ====
section
/-! SUPPORT. What every basic operation on the state leaves as it was: one lemma per operation and field, true by definition; and a register or
a field read after a write. -/

namespace Sys2Proof.Machine

section
variable (s : State)

/-! ### wr -/

@[simp] theorem State.wr_pending (off : Nat) (w : Word) : (s.wr off w).pending = s.pending := rfl
@[simp] theorem State.wr_tick (off : Nat) (w : Word) : (s.wr off w).tick = s.tick := rfl
@[simp] theorem State.wr_now (off : Nat) (w : Word) : (s.wr off w).now = s.now := rfl
@[simp] theorem State.wr_live (off : Nat) (w : Word) : (s.wr off w).live = s.live := rfl
@[simp] theorem State.wr_latches (off : Nat) (w : Word) : (s.wr off w).latches = s.latches := rfl
@[simp] theorem State.wr_mem (off : Nat) (w : Word) : (s.wr off w).mem = s.mem := rfl
@[simp] theorem State.wr_glb (off : Nat) (w : Word) : (s.wr off w).glb = s.glb := rfl
@[simp] theorem State.wr_hq (off : Nat) (w : Word) : (s.wr off w).hq = s.hq := rfl
@[simp] theorem State.wr_pend (off : Nat) (w : Word) : (s.wr off w).pend = s.pend := rfl
@[simp] theorem State.wr_nextPend (off : Nat) (w : Word) : (s.wr off w).nextPend = s.nextPend := rfl
@[simp] theorem State.wr_seqs (off : Nat) (w : Word) : (s.wr off w).seqs = s.seqs := rfl
@[simp] theorem State.wr_ckpts (off : Nat) (w : Word) : (s.wr off w).ckpts = s.ckpts := rfl
@[simp] theorem State.wr_tsc (off : Nat) (w : Word) : (s.wr off w).tsc = s.tsc := rfl
@[simp] theorem State.wr_lnk (off : Nat) (w : Word) : (s.wr off w).lnk = s.lnk := rfl
@[simp] theorem State.wr_bld (off : Nat) (w : Word) : (s.wr off w).bld = s.bld := rfl
@[simp] theorem State.wr_cen (off : Nat) (w : Word) : (s.wr off w).cen = s.cen := rfl
@[simp] theorem State.wr_axf (off : Nat) (w : Word) : (s.wr off w).axf = s.axf := rfl
@[simp] theorem State.wr_cams (off : Nat) (w : Word) : (s.wr off w).cams = s.cams := rfl
@[simp] theorem State.wr_trc (off : Nat) (w : Word) : (s.wr off w).trc = s.trc := rfl
@[simp] theorem State.wr_maps (off : Nat) (w : Word) : (s.wr off w).maps = s.maps := rfl
@[simp] theorem State.wr_tim (off : Nat) (w : Word) : (s.wr off w).tim = s.tim := rfl
@[simp] theorem State.wr_cal (off : Nat) (w : Word) : (s.wr off w).cal = s.cal := rfl
@[simp] theorem State.wr_chans (off : Nat) (w : Word) : (s.wr off w).chans = s.chans := rfl
@[simp] theorem State.wr_recd (off : Nat) (w : Word) : (s.wr off w).recd = s.recd := rfl
@[simp] theorem State.wr_flt (off : Nat) (w : Word) : (s.wr off w).flt = s.flt := rfl
@[simp] theorem State.wr_lcs (off : Nat) (w : Word) : (s.wr off w).lcs = s.lcs := rfl
@[simp] theorem State.wr_pwr (off : Nat) (w : Word) : (s.wr off w).pwr = s.pwr := rfl
@[simp] theorem State.wr_out (off : Nat) (w : Word) : (s.wr off w).out = s.out := rfl
@[simp] theorem State.wr_free (off : Nat) (w : Word) : (s.wr off w).free = s.free := rfl

/-! ### setFld -/

@[simp] theorem State.setFld_pending (off : Nat) (f : Fld) (v : Nat) : (s.setFld off f v).pending = s.pending := rfl
@[simp] theorem State.setFld_tick (off : Nat) (f : Fld) (v : Nat) : (s.setFld off f v).tick = s.tick := rfl
@[simp] theorem State.setFld_now (off : Nat) (f : Fld) (v : Nat) : (s.setFld off f v).now = s.now := rfl
@[simp] theorem State.setFld_live (off : Nat) (f : Fld) (v : Nat) : (s.setFld off f v).live = s.live := rfl
@[simp] theorem State.setFld_latches (off : Nat) (f : Fld) (v : Nat) : (s.setFld off f v).latches = s.latches := rfl
@[simp] theorem State.setFld_mem (off : Nat) (f : Fld) (v : Nat) : (s.setFld off f v).mem = s.mem := rfl
@[simp] theorem State.setFld_glb (off : Nat) (f : Fld) (v : Nat) : (s.setFld off f v).glb = s.glb := rfl
@[simp] theorem State.setFld_hq (off : Nat) (f : Fld) (v : Nat) : (s.setFld off f v).hq = s.hq := rfl
@[simp] theorem State.setFld_pend (off : Nat) (f : Fld) (v : Nat) : (s.setFld off f v).pend = s.pend := rfl
@[simp] theorem State.setFld_nextPend (off : Nat) (f : Fld) (v : Nat) : (s.setFld off f v).nextPend = s.nextPend := rfl
@[simp] theorem State.setFld_seqs (off : Nat) (f : Fld) (v : Nat) : (s.setFld off f v).seqs = s.seqs := rfl
@[simp] theorem State.setFld_ckpts (off : Nat) (f : Fld) (v : Nat) : (s.setFld off f v).ckpts = s.ckpts := rfl
@[simp] theorem State.setFld_tsc (off : Nat) (f : Fld) (v : Nat) : (s.setFld off f v).tsc = s.tsc := rfl
@[simp] theorem State.setFld_lnk (off : Nat) (f : Fld) (v : Nat) : (s.setFld off f v).lnk = s.lnk := rfl
@[simp] theorem State.setFld_bld (off : Nat) (f : Fld) (v : Nat) : (s.setFld off f v).bld = s.bld := rfl
@[simp] theorem State.setFld_cen (off : Nat) (f : Fld) (v : Nat) : (s.setFld off f v).cen = s.cen := rfl
@[simp] theorem State.setFld_axf (off : Nat) (f : Fld) (v : Nat) : (s.setFld off f v).axf = s.axf := rfl
@[simp] theorem State.setFld_cams (off : Nat) (f : Fld) (v : Nat) : (s.setFld off f v).cams = s.cams := rfl
@[simp] theorem State.setFld_trc (off : Nat) (f : Fld) (v : Nat) : (s.setFld off f v).trc = s.trc := rfl
@[simp] theorem State.setFld_maps (off : Nat) (f : Fld) (v : Nat) : (s.setFld off f v).maps = s.maps := rfl
@[simp] theorem State.setFld_tim (off : Nat) (f : Fld) (v : Nat) : (s.setFld off f v).tim = s.tim := rfl
@[simp] theorem State.setFld_cal (off : Nat) (f : Fld) (v : Nat) : (s.setFld off f v).cal = s.cal := rfl
@[simp] theorem State.setFld_chans (off : Nat) (f : Fld) (v : Nat) : (s.setFld off f v).chans = s.chans := rfl
@[simp] theorem State.setFld_recd (off : Nat) (f : Fld) (v : Nat) : (s.setFld off f v).recd = s.recd := rfl
@[simp] theorem State.setFld_flt (off : Nat) (f : Fld) (v : Nat) : (s.setFld off f v).flt = s.flt := rfl
@[simp] theorem State.setFld_lcs (off : Nat) (f : Fld) (v : Nat) : (s.setFld off f v).lcs = s.lcs := rfl
@[simp] theorem State.setFld_pwr (off : Nat) (f : Fld) (v : Nat) : (s.setFld off f v).pwr = s.pwr := rfl
@[simp] theorem State.setFld_out (off : Nat) (f : Fld) (v : Nat) : (s.setFld off f v).out = s.out := rfl
@[simp] theorem State.setFld_free (off : Nat) (f : Fld) (v : Nat) : (s.setFld off f v).free = s.free := rfl

/-! ### inc -/

@[simp] theorem State.inc_pending (off n : Nat) : (s.inc off n).pending = s.pending := rfl
@[simp] theorem State.inc_tick (off n : Nat) : (s.inc off n).tick = s.tick := rfl
@[simp] theorem State.inc_now (off n : Nat) : (s.inc off n).now = s.now := rfl
@[simp] theorem State.inc_live (off n : Nat) : (s.inc off n).live = s.live := rfl
@[simp] theorem State.inc_latches (off n : Nat) : (s.inc off n).latches = s.latches := rfl
@[simp] theorem State.inc_mem (off n : Nat) : (s.inc off n).mem = s.mem := rfl
@[simp] theorem State.inc_glb (off n : Nat) : (s.inc off n).glb = s.glb := rfl
@[simp] theorem State.inc_hq (off n : Nat) : (s.inc off n).hq = s.hq := rfl
@[simp] theorem State.inc_pend (off n : Nat) : (s.inc off n).pend = s.pend := rfl
@[simp] theorem State.inc_nextPend (off n : Nat) : (s.inc off n).nextPend = s.nextPend := rfl
@[simp] theorem State.inc_seqs (off n : Nat) : (s.inc off n).seqs = s.seqs := rfl
@[simp] theorem State.inc_ckpts (off n : Nat) : (s.inc off n).ckpts = s.ckpts := rfl
@[simp] theorem State.inc_tsc (off n : Nat) : (s.inc off n).tsc = s.tsc := rfl
@[simp] theorem State.inc_lnk (off n : Nat) : (s.inc off n).lnk = s.lnk := rfl
@[simp] theorem State.inc_bld (off n : Nat) : (s.inc off n).bld = s.bld := rfl
@[simp] theorem State.inc_cen (off n : Nat) : (s.inc off n).cen = s.cen := rfl
@[simp] theorem State.inc_axf (off n : Nat) : (s.inc off n).axf = s.axf := rfl
@[simp] theorem State.inc_cams (off n : Nat) : (s.inc off n).cams = s.cams := rfl
@[simp] theorem State.inc_trc (off n : Nat) : (s.inc off n).trc = s.trc := rfl
@[simp] theorem State.inc_maps (off n : Nat) : (s.inc off n).maps = s.maps := rfl
@[simp] theorem State.inc_tim (off n : Nat) : (s.inc off n).tim = s.tim := rfl
@[simp] theorem State.inc_cal (off n : Nat) : (s.inc off n).cal = s.cal := rfl
@[simp] theorem State.inc_chans (off n : Nat) : (s.inc off n).chans = s.chans := rfl
@[simp] theorem State.inc_recd (off n : Nat) : (s.inc off n).recd = s.recd := rfl
@[simp] theorem State.inc_flt (off n : Nat) : (s.inc off n).flt = s.flt := rfl
@[simp] theorem State.inc_lcs (off n : Nat) : (s.inc off n).lcs = s.lcs := rfl
@[simp] theorem State.inc_pwr (off n : Nat) : (s.inc off n).pwr = s.pwr := rfl
@[simp] theorem State.inc_out (off n : Nat) : (s.inc off n).out = s.out := rfl
@[simp] theorem State.inc_free (off n : Nat) : (s.inc off n).free = s.free := rfl

/-! ### arrive -/

@[simp] theorem State.arrive_pending (ns : Nat) : (s.arrive ns).pending = s.pending := rfl
@[simp] theorem State.arrive_tick (ns : Nat) : (s.arrive ns).tick = s.tick := rfl
@[simp] theorem State.arrive_regs (ns : Nat) : (s.arrive ns).regs = s.regs := rfl
@[simp] theorem State.arrive_live (ns : Nat) : (s.arrive ns).live = s.live := rfl
@[simp] theorem State.arrive_latches (ns : Nat) : (s.arrive ns).latches = s.latches := rfl
@[simp] theorem State.arrive_mem (ns : Nat) : (s.arrive ns).mem = s.mem := rfl
@[simp] theorem State.arrive_glb (ns : Nat) : (s.arrive ns).glb = s.glb := rfl
@[simp] theorem State.arrive_hq (ns : Nat) : (s.arrive ns).hq = s.hq := rfl
@[simp] theorem State.arrive_pend (ns : Nat) : (s.arrive ns).pend = s.pend := rfl
@[simp] theorem State.arrive_nextPend (ns : Nat) : (s.arrive ns).nextPend = s.nextPend := rfl
@[simp] theorem State.arrive_seqs (ns : Nat) : (s.arrive ns).seqs = s.seqs := rfl
@[simp] theorem State.arrive_ckpts (ns : Nat) : (s.arrive ns).ckpts = s.ckpts := rfl
@[simp] theorem State.arrive_tsc (ns : Nat) : (s.arrive ns).tsc = s.tsc := rfl
@[simp] theorem State.arrive_lnk (ns : Nat) : (s.arrive ns).lnk = s.lnk := rfl
@[simp] theorem State.arrive_bld (ns : Nat) : (s.arrive ns).bld = s.bld := rfl
@[simp] theorem State.arrive_cen (ns : Nat) : (s.arrive ns).cen = s.cen := rfl
@[simp] theorem State.arrive_axf (ns : Nat) : (s.arrive ns).axf = s.axf := rfl
@[simp] theorem State.arrive_cams (ns : Nat) : (s.arrive ns).cams = s.cams := rfl
@[simp] theorem State.arrive_trc (ns : Nat) : (s.arrive ns).trc = s.trc := rfl
@[simp] theorem State.arrive_maps (ns : Nat) : (s.arrive ns).maps = s.maps := rfl
@[simp] theorem State.arrive_tim (ns : Nat) : (s.arrive ns).tim = s.tim := rfl
@[simp] theorem State.arrive_cal (ns : Nat) : (s.arrive ns).cal = s.cal := rfl
@[simp] theorem State.arrive_chans (ns : Nat) : (s.arrive ns).chans = s.chans := rfl
@[simp] theorem State.arrive_recd (ns : Nat) : (s.arrive ns).recd = s.recd := rfl
@[simp] theorem State.arrive_flt (ns : Nat) : (s.arrive ns).flt = s.flt := rfl
@[simp] theorem State.arrive_lcs (ns : Nat) : (s.arrive ns).lcs = s.lcs := rfl
@[simp] theorem State.arrive_pwr (ns : Nat) : (s.arrive ns).pwr = s.pwr := rfl
@[simp] theorem State.arrive_out (ns : Nat) : (s.arrive ns).out = s.out := rfl
@[simp] theorem State.arrive_free (ns : Nat) : (s.arrive ns).free = s.free := rfl

/-! ### emit -/

@[simp] theorem State.emit_pending (o : Out) : (s.emit o).pending = s.pending := rfl
@[simp] theorem State.emit_tick (o : Out) : (s.emit o).tick = s.tick := rfl
@[simp] theorem State.emit_now (o : Out) : (s.emit o).now = s.now := rfl
@[simp] theorem State.emit_regs (o : Out) : (s.emit o).regs = s.regs := rfl
@[simp] theorem State.emit_live (o : Out) : (s.emit o).live = s.live := rfl
@[simp] theorem State.emit_latches (o : Out) : (s.emit o).latches = s.latches := rfl
@[simp] theorem State.emit_mem (o : Out) : (s.emit o).mem = s.mem := rfl
@[simp] theorem State.emit_glb (o : Out) : (s.emit o).glb = s.glb := rfl
@[simp] theorem State.emit_hq (o : Out) : (s.emit o).hq = s.hq := rfl
@[simp] theorem State.emit_pend (o : Out) : (s.emit o).pend = s.pend := rfl
@[simp] theorem State.emit_nextPend (o : Out) : (s.emit o).nextPend = s.nextPend := rfl
@[simp] theorem State.emit_seqs (o : Out) : (s.emit o).seqs = s.seqs := rfl
@[simp] theorem State.emit_ckpts (o : Out) : (s.emit o).ckpts = s.ckpts := rfl
@[simp] theorem State.emit_tsc (o : Out) : (s.emit o).tsc = s.tsc := rfl
@[simp] theorem State.emit_lnk (o : Out) : (s.emit o).lnk = s.lnk := rfl
@[simp] theorem State.emit_bld (o : Out) : (s.emit o).bld = s.bld := rfl
@[simp] theorem State.emit_cen (o : Out) : (s.emit o).cen = s.cen := rfl
@[simp] theorem State.emit_axf (o : Out) : (s.emit o).axf = s.axf := rfl
@[simp] theorem State.emit_cams (o : Out) : (s.emit o).cams = s.cams := rfl
@[simp] theorem State.emit_trc (o : Out) : (s.emit o).trc = s.trc := rfl
@[simp] theorem State.emit_maps (o : Out) : (s.emit o).maps = s.maps := rfl
@[simp] theorem State.emit_tim (o : Out) : (s.emit o).tim = s.tim := rfl
@[simp] theorem State.emit_cal (o : Out) : (s.emit o).cal = s.cal := rfl
@[simp] theorem State.emit_chans (o : Out) : (s.emit o).chans = s.chans := rfl
@[simp] theorem State.emit_recd (o : Out) : (s.emit o).recd = s.recd := rfl
@[simp] theorem State.emit_flt (o : Out) : (s.emit o).flt = s.flt := rfl
@[simp] theorem State.emit_lcs (o : Out) : (s.emit o).lcs = s.lcs := rfl
@[simp] theorem State.emit_pwr (o : Out) : (s.emit o).pwr = s.pwr := rfl
@[simp] theorem State.emit_free (o : Out) : (s.emit o).free = s.free := rfl

/-! ### draw -/

@[simp] theorem State.draw_pending : s.draw.pending = s.pending := rfl
@[simp] theorem State.draw_tick : s.draw.tick = s.tick := rfl
@[simp] theorem State.draw_now : s.draw.now = s.now := rfl
@[simp] theorem State.draw_regs : s.draw.regs = s.regs := rfl
@[simp] theorem State.draw_live : s.draw.live = s.live := rfl
@[simp] theorem State.draw_latches : s.draw.latches = s.latches := rfl
@[simp] theorem State.draw_mem : s.draw.mem = s.mem := rfl
@[simp] theorem State.draw_glb : s.draw.glb = s.glb := rfl
@[simp] theorem State.draw_hq : s.draw.hq = s.hq := rfl
@[simp] theorem State.draw_pend : s.draw.pend = s.pend := rfl
@[simp] theorem State.draw_nextPend : s.draw.nextPend = s.nextPend := rfl
@[simp] theorem State.draw_seqs : s.draw.seqs = s.seqs := rfl
@[simp] theorem State.draw_ckpts : s.draw.ckpts = s.ckpts := rfl
@[simp] theorem State.draw_tsc : s.draw.tsc = s.tsc := rfl
@[simp] theorem State.draw_lnk : s.draw.lnk = s.lnk := rfl
@[simp] theorem State.draw_bld : s.draw.bld = s.bld := rfl
@[simp] theorem State.draw_cen : s.draw.cen = s.cen := rfl
@[simp] theorem State.draw_axf : s.draw.axf = s.axf := rfl
@[simp] theorem State.draw_cams : s.draw.cams = s.cams := rfl
@[simp] theorem State.draw_trc : s.draw.trc = s.trc := rfl
@[simp] theorem State.draw_maps : s.draw.maps = s.maps := rfl
@[simp] theorem State.draw_tim : s.draw.tim = s.tim := rfl
@[simp] theorem State.draw_cal : s.draw.cal = s.cal := rfl
@[simp] theorem State.draw_chans : s.draw.chans = s.chans := rfl
@[simp] theorem State.draw_recd : s.draw.recd = s.recd := rfl
@[simp] theorem State.draw_flt : s.draw.flt = s.flt := rfl
@[simp] theorem State.draw_lcs : s.draw.lcs = s.lcs := rfl
@[simp] theorem State.draw_pwr : s.draw.pwr = s.pwr := rfl
@[simp] theorem State.draw_out : s.draw.out = s.out := rfl

/-! ### sramPut -/

@[simp] theorem State.sramPut_pending (a : Nat) (bs : List Byte) : (s.sramPut a bs).pending = s.pending := rfl
@[simp] theorem State.sramPut_tick (a : Nat) (bs : List Byte) : (s.sramPut a bs).tick = s.tick := rfl
@[simp] theorem State.sramPut_now (a : Nat) (bs : List Byte) : (s.sramPut a bs).now = s.now := rfl
@[simp] theorem State.sramPut_regs (a : Nat) (bs : List Byte) : (s.sramPut a bs).regs = s.regs := rfl
@[simp] theorem State.sramPut_live (a : Nat) (bs : List Byte) : (s.sramPut a bs).live = s.live := rfl
@[simp] theorem State.sramPut_latches (a : Nat) (bs : List Byte) : (s.sramPut a bs).latches = s.latches := rfl
@[simp] theorem State.sramPut_glb (a : Nat) (bs : List Byte) : (s.sramPut a bs).glb = s.glb := rfl
@[simp] theorem State.sramPut_hq (a : Nat) (bs : List Byte) : (s.sramPut a bs).hq = s.hq := rfl
@[simp] theorem State.sramPut_pend (a : Nat) (bs : List Byte) : (s.sramPut a bs).pend = s.pend := rfl
@[simp] theorem State.sramPut_nextPend (a : Nat) (bs : List Byte) : (s.sramPut a bs).nextPend = s.nextPend := rfl
@[simp] theorem State.sramPut_seqs (a : Nat) (bs : List Byte) : (s.sramPut a bs).seqs = s.seqs := rfl
@[simp] theorem State.sramPut_ckpts (a : Nat) (bs : List Byte) : (s.sramPut a bs).ckpts = s.ckpts := rfl
@[simp] theorem State.sramPut_tsc (a : Nat) (bs : List Byte) : (s.sramPut a bs).tsc = s.tsc := rfl
@[simp] theorem State.sramPut_lnk (a : Nat) (bs : List Byte) : (s.sramPut a bs).lnk = s.lnk := rfl
@[simp] theorem State.sramPut_bld (a : Nat) (bs : List Byte) : (s.sramPut a bs).bld = s.bld := rfl
@[simp] theorem State.sramPut_cen (a : Nat) (bs : List Byte) : (s.sramPut a bs).cen = s.cen := rfl
@[simp] theorem State.sramPut_axf (a : Nat) (bs : List Byte) : (s.sramPut a bs).axf = s.axf := rfl
@[simp] theorem State.sramPut_cams (a : Nat) (bs : List Byte) : (s.sramPut a bs).cams = s.cams := rfl
@[simp] theorem State.sramPut_trc (a : Nat) (bs : List Byte) : (s.sramPut a bs).trc = s.trc := rfl
@[simp] theorem State.sramPut_maps (a : Nat) (bs : List Byte) : (s.sramPut a bs).maps = s.maps := rfl
@[simp] theorem State.sramPut_tim (a : Nat) (bs : List Byte) : (s.sramPut a bs).tim = s.tim := rfl
@[simp] theorem State.sramPut_cal (a : Nat) (bs : List Byte) : (s.sramPut a bs).cal = s.cal := rfl
@[simp] theorem State.sramPut_chans (a : Nat) (bs : List Byte) : (s.sramPut a bs).chans = s.chans := rfl
@[simp] theorem State.sramPut_recd (a : Nat) (bs : List Byte) : (s.sramPut a bs).recd = s.recd := rfl
@[simp] theorem State.sramPut_flt (a : Nat) (bs : List Byte) : (s.sramPut a bs).flt = s.flt := rfl
@[simp] theorem State.sramPut_lcs (a : Nat) (bs : List Byte) : (s.sramPut a bs).lcs = s.lcs := rfl
@[simp] theorem State.sramPut_pwr (a : Nat) (bs : List Byte) : (s.sramPut a bs).pwr = s.pwr := rfl
@[simp] theorem State.sramPut_out (a : Nat) (bs : List Byte) : (s.sramPut a bs).out = s.out := rfl
@[simp] theorem State.sramPut_free (a : Nat) (bs : List Byte) : (s.sramPut a bs).free = s.free := rfl

/-! ### dramPut -/

@[simp] theorem State.dramPut_pending (a : Nat) (bs : List Byte) : (s.dramPut a bs).pending = s.pending := rfl
@[simp] theorem State.dramPut_tick (a : Nat) (bs : List Byte) : (s.dramPut a bs).tick = s.tick := rfl
@[simp] theorem State.dramPut_now (a : Nat) (bs : List Byte) : (s.dramPut a bs).now = s.now := rfl
@[simp] theorem State.dramPut_regs (a : Nat) (bs : List Byte) : (s.dramPut a bs).regs = s.regs := rfl
@[simp] theorem State.dramPut_live (a : Nat) (bs : List Byte) : (s.dramPut a bs).live = s.live := rfl
@[simp] theorem State.dramPut_latches (a : Nat) (bs : List Byte) : (s.dramPut a bs).latches = s.latches := rfl
@[simp] theorem State.dramPut_glb (a : Nat) (bs : List Byte) : (s.dramPut a bs).glb = s.glb := rfl
@[simp] theorem State.dramPut_hq (a : Nat) (bs : List Byte) : (s.dramPut a bs).hq = s.hq := rfl
@[simp] theorem State.dramPut_pend (a : Nat) (bs : List Byte) : (s.dramPut a bs).pend = s.pend := rfl
@[simp] theorem State.dramPut_nextPend (a : Nat) (bs : List Byte) : (s.dramPut a bs).nextPend = s.nextPend := rfl
@[simp] theorem State.dramPut_seqs (a : Nat) (bs : List Byte) : (s.dramPut a bs).seqs = s.seqs := rfl
@[simp] theorem State.dramPut_ckpts (a : Nat) (bs : List Byte) : (s.dramPut a bs).ckpts = s.ckpts := rfl
@[simp] theorem State.dramPut_tsc (a : Nat) (bs : List Byte) : (s.dramPut a bs).tsc = s.tsc := rfl
@[simp] theorem State.dramPut_lnk (a : Nat) (bs : List Byte) : (s.dramPut a bs).lnk = s.lnk := rfl
@[simp] theorem State.dramPut_bld (a : Nat) (bs : List Byte) : (s.dramPut a bs).bld = s.bld := rfl
@[simp] theorem State.dramPut_cen (a : Nat) (bs : List Byte) : (s.dramPut a bs).cen = s.cen := rfl
@[simp] theorem State.dramPut_axf (a : Nat) (bs : List Byte) : (s.dramPut a bs).axf = s.axf := rfl
@[simp] theorem State.dramPut_cams (a : Nat) (bs : List Byte) : (s.dramPut a bs).cams = s.cams := rfl
@[simp] theorem State.dramPut_trc (a : Nat) (bs : List Byte) : (s.dramPut a bs).trc = s.trc := rfl
@[simp] theorem State.dramPut_maps (a : Nat) (bs : List Byte) : (s.dramPut a bs).maps = s.maps := rfl
@[simp] theorem State.dramPut_tim (a : Nat) (bs : List Byte) : (s.dramPut a bs).tim = s.tim := rfl
@[simp] theorem State.dramPut_cal (a : Nat) (bs : List Byte) : (s.dramPut a bs).cal = s.cal := rfl
@[simp] theorem State.dramPut_chans (a : Nat) (bs : List Byte) : (s.dramPut a bs).chans = s.chans := rfl
@[simp] theorem State.dramPut_recd (a : Nat) (bs : List Byte) : (s.dramPut a bs).recd = s.recd := rfl
@[simp] theorem State.dramPut_flt (a : Nat) (bs : List Byte) : (s.dramPut a bs).flt = s.flt := rfl
@[simp] theorem State.dramPut_lcs (a : Nat) (bs : List Byte) : (s.dramPut a bs).lcs = s.lcs := rfl
@[simp] theorem State.dramPut_pwr (a : Nat) (bs : List Byte) : (s.dramPut a bs).pwr = s.pwr := rfl
@[simp] theorem State.dramPut_out (a : Nat) (bs : List Byte) : (s.dramPut a bs).out = s.out := rfl
@[simp] theorem State.dramPut_free (a : Nat) (bs : List Byte) : (s.dramPut a bs).free = s.free := rfl

/-! ### hostPut -/

@[simp] theorem State.hostPut_pending (a : Nat) (bs : List Byte) : (s.hostPut a bs).pending = s.pending := rfl
@[simp] theorem State.hostPut_tick (a : Nat) (bs : List Byte) : (s.hostPut a bs).tick = s.tick := rfl
@[simp] theorem State.hostPut_now (a : Nat) (bs : List Byte) : (s.hostPut a bs).now = s.now := rfl
@[simp] theorem State.hostPut_regs (a : Nat) (bs : List Byte) : (s.hostPut a bs).regs = s.regs := rfl
@[simp] theorem State.hostPut_live (a : Nat) (bs : List Byte) : (s.hostPut a bs).live = s.live := rfl
@[simp] theorem State.hostPut_latches (a : Nat) (bs : List Byte) : (s.hostPut a bs).latches = s.latches := rfl
@[simp] theorem State.hostPut_glb (a : Nat) (bs : List Byte) : (s.hostPut a bs).glb = s.glb := rfl
@[simp] theorem State.hostPut_hq (a : Nat) (bs : List Byte) : (s.hostPut a bs).hq = s.hq := rfl
@[simp] theorem State.hostPut_pend (a : Nat) (bs : List Byte) : (s.hostPut a bs).pend = s.pend := rfl
@[simp] theorem State.hostPut_nextPend (a : Nat) (bs : List Byte) : (s.hostPut a bs).nextPend = s.nextPend := rfl
@[simp] theorem State.hostPut_seqs (a : Nat) (bs : List Byte) : (s.hostPut a bs).seqs = s.seqs := rfl
@[simp] theorem State.hostPut_ckpts (a : Nat) (bs : List Byte) : (s.hostPut a bs).ckpts = s.ckpts := rfl
@[simp] theorem State.hostPut_tsc (a : Nat) (bs : List Byte) : (s.hostPut a bs).tsc = s.tsc := rfl
@[simp] theorem State.hostPut_lnk (a : Nat) (bs : List Byte) : (s.hostPut a bs).lnk = s.lnk := rfl
@[simp] theorem State.hostPut_bld (a : Nat) (bs : List Byte) : (s.hostPut a bs).bld = s.bld := rfl
@[simp] theorem State.hostPut_cen (a : Nat) (bs : List Byte) : (s.hostPut a bs).cen = s.cen := rfl
@[simp] theorem State.hostPut_axf (a : Nat) (bs : List Byte) : (s.hostPut a bs).axf = s.axf := rfl
@[simp] theorem State.hostPut_cams (a : Nat) (bs : List Byte) : (s.hostPut a bs).cams = s.cams := rfl
@[simp] theorem State.hostPut_trc (a : Nat) (bs : List Byte) : (s.hostPut a bs).trc = s.trc := rfl
@[simp] theorem State.hostPut_maps (a : Nat) (bs : List Byte) : (s.hostPut a bs).maps = s.maps := rfl
@[simp] theorem State.hostPut_tim (a : Nat) (bs : List Byte) : (s.hostPut a bs).tim = s.tim := rfl
@[simp] theorem State.hostPut_cal (a : Nat) (bs : List Byte) : (s.hostPut a bs).cal = s.cal := rfl
@[simp] theorem State.hostPut_chans (a : Nat) (bs : List Byte) : (s.hostPut a bs).chans = s.chans := rfl
@[simp] theorem State.hostPut_recd (a : Nat) (bs : List Byte) : (s.hostPut a bs).recd = s.recd := rfl
@[simp] theorem State.hostPut_flt (a : Nat) (bs : List Byte) : (s.hostPut a bs).flt = s.flt := rfl
@[simp] theorem State.hostPut_lcs (a : Nat) (bs : List Byte) : (s.hostPut a bs).lcs = s.lcs := rfl
@[simp] theorem State.hostPut_pwr (a : Nat) (bs : List Byte) : (s.hostPut a bs).pwr = s.pwr := rfl
@[simp] theorem State.hostPut_out (a : Nat) (bs : List Byte) : (s.hostPut a bs).out = s.out := rfl
@[simp] theorem State.hostPut_free (a : Nat) (bs : List Byte) : (s.hostPut a bs).free = s.free := rfl

/-! ### setSeq -/

@[simp] theorem State.setSeq_pending (n : Nat) (q : Seq) : (s.setSeq n q).pending = s.pending := rfl
@[simp] theorem State.setSeq_tick (n : Nat) (q : Seq) : (s.setSeq n q).tick = s.tick := rfl
@[simp] theorem State.setSeq_now (n : Nat) (q : Seq) : (s.setSeq n q).now = s.now := rfl
@[simp] theorem State.setSeq_regs (n : Nat) (q : Seq) : (s.setSeq n q).regs = s.regs := rfl
@[simp] theorem State.setSeq_live (n : Nat) (q : Seq) : (s.setSeq n q).live = s.live := rfl
@[simp] theorem State.setSeq_latches (n : Nat) (q : Seq) : (s.setSeq n q).latches = s.latches := rfl
@[simp] theorem State.setSeq_mem (n : Nat) (q : Seq) : (s.setSeq n q).mem = s.mem := rfl
@[simp] theorem State.setSeq_glb (n : Nat) (q : Seq) : (s.setSeq n q).glb = s.glb := rfl
@[simp] theorem State.setSeq_hq (n : Nat) (q : Seq) : (s.setSeq n q).hq = s.hq := rfl
@[simp] theorem State.setSeq_pend (n : Nat) (q : Seq) : (s.setSeq n q).pend = s.pend := rfl
@[simp] theorem State.setSeq_nextPend (n : Nat) (q : Seq) : (s.setSeq n q).nextPend = s.nextPend := rfl
@[simp] theorem State.setSeq_ckpts (n : Nat) (q : Seq) : (s.setSeq n q).ckpts = s.ckpts := rfl
@[simp] theorem State.setSeq_tsc (n : Nat) (q : Seq) : (s.setSeq n q).tsc = s.tsc := rfl
@[simp] theorem State.setSeq_lnk (n : Nat) (q : Seq) : (s.setSeq n q).lnk = s.lnk := rfl
@[simp] theorem State.setSeq_bld (n : Nat) (q : Seq) : (s.setSeq n q).bld = s.bld := rfl
@[simp] theorem State.setSeq_cen (n : Nat) (q : Seq) : (s.setSeq n q).cen = s.cen := rfl
@[simp] theorem State.setSeq_axf (n : Nat) (q : Seq) : (s.setSeq n q).axf = s.axf := rfl
@[simp] theorem State.setSeq_cams (n : Nat) (q : Seq) : (s.setSeq n q).cams = s.cams := rfl
@[simp] theorem State.setSeq_trc (n : Nat) (q : Seq) : (s.setSeq n q).trc = s.trc := rfl
@[simp] theorem State.setSeq_maps (n : Nat) (q : Seq) : (s.setSeq n q).maps = s.maps := rfl
@[simp] theorem State.setSeq_tim (n : Nat) (q : Seq) : (s.setSeq n q).tim = s.tim := rfl
@[simp] theorem State.setSeq_cal (n : Nat) (q : Seq) : (s.setSeq n q).cal = s.cal := rfl
@[simp] theorem State.setSeq_chans (n : Nat) (q : Seq) : (s.setSeq n q).chans = s.chans := rfl
@[simp] theorem State.setSeq_recd (n : Nat) (q : Seq) : (s.setSeq n q).recd = s.recd := rfl
@[simp] theorem State.setSeq_flt (n : Nat) (q : Seq) : (s.setSeq n q).flt = s.flt := rfl
@[simp] theorem State.setSeq_lcs (n : Nat) (q : Seq) : (s.setSeq n q).lcs = s.lcs := rfl
@[simp] theorem State.setSeq_pwr (n : Nat) (q : Seq) : (s.setSeq n q).pwr = s.pwr := rfl
@[simp] theorem State.setSeq_out (n : Nat) (q : Seq) : (s.setSeq n q).out = s.out := rfl
@[simp] theorem State.setSeq_free (n : Nat) (q : Seq) : (s.setSeq n q).free = s.free := rfl

/-! ### setQueue -/

@[simp] theorem State.setQueue_pending (n : Nat) (q : Queue) : (s.setQueue n q).pending = s.pending := rfl
@[simp] theorem State.setQueue_tick (n : Nat) (q : Queue) : (s.setQueue n q).tick = s.tick := rfl
@[simp] theorem State.setQueue_now (n : Nat) (q : Queue) : (s.setQueue n q).now = s.now := rfl
@[simp] theorem State.setQueue_regs (n : Nat) (q : Queue) : (s.setQueue n q).regs = s.regs := rfl
@[simp] theorem State.setQueue_live (n : Nat) (q : Queue) : (s.setQueue n q).live = s.live := rfl
@[simp] theorem State.setQueue_latches (n : Nat) (q : Queue) : (s.setQueue n q).latches = s.latches := rfl
@[simp] theorem State.setQueue_mem (n : Nat) (q : Queue) : (s.setQueue n q).mem = s.mem := rfl
@[simp] theorem State.setQueue_glb (n : Nat) (q : Queue) : (s.setQueue n q).glb = s.glb := rfl
@[simp] theorem State.setQueue_pend (n : Nat) (q : Queue) : (s.setQueue n q).pend = s.pend := rfl
@[simp] theorem State.setQueue_nextPend (n : Nat) (q : Queue) : (s.setQueue n q).nextPend = s.nextPend := rfl
@[simp] theorem State.setQueue_seqs (n : Nat) (q : Queue) : (s.setQueue n q).seqs = s.seqs := rfl
@[simp] theorem State.setQueue_ckpts (n : Nat) (q : Queue) : (s.setQueue n q).ckpts = s.ckpts := rfl
@[simp] theorem State.setQueue_tsc (n : Nat) (q : Queue) : (s.setQueue n q).tsc = s.tsc := rfl
@[simp] theorem State.setQueue_lnk (n : Nat) (q : Queue) : (s.setQueue n q).lnk = s.lnk := rfl
@[simp] theorem State.setQueue_bld (n : Nat) (q : Queue) : (s.setQueue n q).bld = s.bld := rfl
@[simp] theorem State.setQueue_cen (n : Nat) (q : Queue) : (s.setQueue n q).cen = s.cen := rfl
@[simp] theorem State.setQueue_axf (n : Nat) (q : Queue) : (s.setQueue n q).axf = s.axf := rfl
@[simp] theorem State.setQueue_cams (n : Nat) (q : Queue) : (s.setQueue n q).cams = s.cams := rfl
@[simp] theorem State.setQueue_trc (n : Nat) (q : Queue) : (s.setQueue n q).trc = s.trc := rfl
@[simp] theorem State.setQueue_maps (n : Nat) (q : Queue) : (s.setQueue n q).maps = s.maps := rfl
@[simp] theorem State.setQueue_tim (n : Nat) (q : Queue) : (s.setQueue n q).tim = s.tim := rfl
@[simp] theorem State.setQueue_cal (n : Nat) (q : Queue) : (s.setQueue n q).cal = s.cal := rfl
@[simp] theorem State.setQueue_chans (n : Nat) (q : Queue) : (s.setQueue n q).chans = s.chans := rfl
@[simp] theorem State.setQueue_recd (n : Nat) (q : Queue) : (s.setQueue n q).recd = s.recd := rfl
@[simp] theorem State.setQueue_flt (n : Nat) (q : Queue) : (s.setQueue n q).flt = s.flt := rfl
@[simp] theorem State.setQueue_lcs (n : Nat) (q : Queue) : (s.setQueue n q).lcs = s.lcs := rfl
@[simp] theorem State.setQueue_pwr (n : Nat) (q : Queue) : (s.setQueue n q).pwr = s.pwr := rfl
@[simp] theorem State.setQueue_out (n : Nat) (q : Queue) : (s.setQueue n q).out = s.out := rfl
@[simp] theorem State.setQueue_free (n : Nat) (q : Queue) : (s.setQueue n q).free = s.free := rfl

end

/-! ### Registers -/

@[simp] theorem State.rd_wr_same (s : State) (off : Nat) (w : Word) : (s.wr off w).rd off = w := sget_sput_same regReset off w s.regs

@[simp] theorem State.rd_wr_ne (s : State) (o off : Nat) (w : Word) (h : o ≠ off) : (s.wr off w).rd o = s.rd o :=
  sget_sput_ne regReset off o w s.regs h

/-- A register read after a write, as one equation. -/
theorem State.rd_wr (s : State) (o off : Nat) (w : Word) : (s.wr off w).rd o = if o = off then w else s.rd o :=
  sget_sput regReset off o w s.regs

theorem State.rd_setFld (s : State) (o off : Nat) (f : Fld) (v : Nat) :
    (s.setFld off f v).rd o = if o = off then fput (s.rd off) f v else s.rd o := s.rd_wr o off _

theorem State.rd_inc (s : State) (o off n : Nat) : (s.inc off n).rd o = if o = off then satAdd (s.rd off) n else s.rd o := s.rd_wr o off _

@[simp] theorem State.rd_setFld_ne (s : State) (o off : Nat) (f : Fld) (v : Nat) (h : o ≠ off) : (s.setFld off f v).rd o = s.rd o :=
  s.rd_wr_ne o off _ h

@[simp] theorem State.rd_inc_ne (s : State) (o off n : Nat) (h : o ≠ off) : (s.inc off n).rd o = s.rd o := s.rd_wr_ne o off _ h

/-- States with the same register file read alike. -/
theorem State.rd_congr {s t : State} (h : t.regs = s.regs) (o : Nat) : t.rd o = s.rd o := by unfold State.rd; rw [h]

@[simp] theorem State.rd_arrive (s : State) (ns o : Nat) : (s.arrive ns).rd o = s.rd o := rfl
@[simp] theorem State.rd_emit (s : State) (x : Out) (o : Nat) : (s.emit x).rd o = s.rd o := rfl
@[simp] theorem State.rd_draw (s : State) (o : Nat) : s.draw.rd o = s.rd o := rfl
@[simp] theorem State.rd_sramPut (s : State) (a : Nat) (bs : List Byte) (o : Nat) : (s.sramPut a bs).rd o = s.rd o := rfl
@[simp] theorem State.rd_dramPut (s : State) (a : Nat) (bs : List Byte) (o : Nat) : (s.dramPut a bs).rd o = s.rd o := rfl
@[simp] theorem State.rd_hostPut (s : State) (a : Nat) (bs : List Byte) (o : Nat) : (s.hostPut a bs).rd o = s.rd o := rfl
@[simp] theorem State.rd_setSeq (s : State) (n : Nat) (q : Seq) (o : Nat) : (s.setSeq n q).rd o = s.rd o := rfl
@[simp] theorem State.rd_setQueue (s : State) (n : Nat) (q : Queue) (o : Nat) : (s.setQueue n q).rd o = s.rd o := rfl

/-! ### Fields -/

/-- A word as the part above field `f`, the field, and the part below. -/
theorem word_split (w : Word) (f : Fld) :
    w.toNat = (w.toNat / 2 ^ (f.lo + f.wd) * 2 ^ f.wd + fget w f) * 2 ^ f.lo + w.toNat % 2 ^ f.lo := by
  have h1 := Nat.div_add_mod w.toNat (2 ^ f.lo)
  have h2 := Nat.div_add_mod (w.toNat / 2 ^ f.lo) (2 ^ f.wd)
  rw [Nat.div_div_eq_div_mul, ← pow_add] at h2
  rw [Nat.mul_comm _ (2 ^ f.wd), fget, h2, Nat.mul_comm, h1]

/-- The word that `fput` writes. -/
theorem toNat_fput (w : Word) (f : Fld) (v : Nat) (h : f.lo + f.wd ≤ 32) :
    (fput w f v).toNat = (w.toNat / 2 ^ (f.lo + f.wd) * 2 ^ f.wd + v % 2 ^ f.wd) * 2 ^ f.lo + w.toNat % 2 ^ f.lo := by
  have hs := word_split w f
  have hl : w.toNat % 2 ^ f.lo < 2 ^ f.lo := Nat.mod_lt _ (by positivity)
  have hv : v % 2 ^ f.wd < 2 ^ f.wd := Nat.mod_lt _ (by positivity)
  have hw := w.isLt
  obtain ⟨k, hk⟩ := Nat.exists_eq_add_of_le h
  have hp : (2 : Nat) ^ 32 = 2 ^ k * (2 ^ f.wd * 2 ^ f.lo) := by rw [hk]; ring
  have hd : w.toNat / 2 ^ (f.lo + f.wd) < 2 ^ k := by
    rw [Nat.div_lt_iff_lt_mul (by positivity)]
    calc w.toNat < 2 ^ 32 := hw
      _ = _ := by rw [hp]; ring
  have e : w.toNat - fget w f * 2 ^ f.lo + v % 2 ^ f.wd * 2 ^ f.lo =
      (w.toNat / 2 ^ (f.lo + f.wd) * 2 ^ f.wd + v % 2 ^ f.wd) * 2 ^ f.lo + w.toNat % 2 ^ f.lo := by
    generalize w.toNat / 2 ^ (f.lo + f.wd) = a at *
    generalize w.toNat % 2 ^ f.lo = l at *
    generalize fget w f = m at *
    rw [hs, Nat.add_mul, Nat.add_mul]
    omega
  rw [fput, BitVec.toNat_ofNat, e, Nat.mod_eq_of_lt]
  generalize w.toNat / 2 ^ (f.lo + f.wd) = a at *
  generalize w.toNat % 2 ^ f.lo = l at *
  generalize v % 2 ^ f.wd = m at *
  generalize (2 : Nat) ^ f.wd = W at *
  generalize (2 : Nat) ^ f.lo = L at *
  generalize (2 : Nat) ^ k = K at *
  rw [hp]
  have h1 : a + 1 ≤ K := hd
  have h2 : a * W + m + 1 ≤ K * W := by nlinarith
  nlinarith

/-- A field reads what was written to it, modulo its width. -/
theorem fget_fput_same (w : Word) (f : Fld) (v : Nat) (h : f.lo + f.wd ≤ 32) : fget (fput w f v) f = v % 2 ^ f.wd := by
  have hl : w.toNat % 2 ^ f.lo < 2 ^ f.lo := Nat.mod_lt _ (by positivity)
  rw [fget, toNat_fput w f v h, Nat.mul_comm _ (2 ^ f.lo), Nat.mul_add_div (by positivity), Nat.div_eq_of_lt hl, Nat.add_zero,
    Nat.mul_comm _ (2 ^ f.wd), Nat.mul_add_mod, Nat.mod_mod]

/-- A field at or above bit `a` of numbers that agree from there on. -/
theorem div_mod_of_div {x y a : Nat} (b c : Nat) (h : x / 2 ^ a = y / 2 ^ a) (hb : a ≤ b) : x / 2 ^ b % c = y / 2 ^ b % c := by
  obtain ⟨k, rfl⟩ := Nat.exists_eq_add_of_le hb
  rw [pow_add, ← Nat.div_div_eq_div_mul, h, Nat.div_div_eq_div_mul]

/-- A field below bit `a` of numbers that agree below it. -/
theorem div_mod_of_mod {x y a : Nat} (b c : Nat) (h : x % 2 ^ a = y % 2 ^ a) (hb : b + c ≤ a) :
    x / 2 ^ b % 2 ^ c = y / 2 ^ b % 2 ^ c := by
  have k (z : Nat) : z / 2 ^ b % 2 ^ c = z % 2 ^ a / 2 ^ b % 2 ^ c := by
    rw [← Nat.mod_mul_right_div_self, ← Nat.mod_mul_right_div_self, ← pow_add,
      Nat.mod_mod_of_dvd _ (pow_dvd_pow 2 hb)]
  rw [k x, k y, h]

/-- A write to one field leaves a field that does not overlap it alone. -/
theorem fget_fput_ne (w : Word) (f g : Fld) (v : Nat) (h : f.lo + f.wd ≤ 32) (d : f.lo + f.wd ≤ g.lo ∨ g.lo + g.wd ≤ f.lo) :
    fget (fput w f v) g = fget w g := by
  have hl : w.toNat % 2 ^ f.lo < 2 ^ f.lo := Nat.mod_lt _ (by positivity)
  have hv : v % 2 ^ f.wd < 2 ^ f.wd := Nat.mod_lt _ (by positivity)
  unfold fget
  rcases d with d | d
  · refine div_mod_of_div (a := f.lo + f.wd) _ _ ?_ d
    rw [toNat_fput w f v h, pow_add, ← Nat.div_div_eq_div_mul, Nat.mul_comm _ (2 ^ f.lo), Nat.mul_add_div (by positivity), Nat.div_eq_of_lt hl,
      Nat.add_zero, Nat.mul_comm _ (2 ^ f.wd), Nat.mul_add_div (by positivity), Nat.div_eq_of_lt hv, Nat.add_zero]
  · refine div_mod_of_mod (a := f.lo) _ _ ?_ d
    rw [toNat_fput w f v h, Nat.mul_comm _ (2 ^ f.lo), Nat.mul_add_mod, Nat.mod_mod]
@[simp] theorem State.fld_setFld_same (s : State) (off : Nat) (f : Fld) (v : Nat) (h : f.lo + f.wd ≤ 32) :
    (s.setFld off f v).fld off f = v % 2 ^ f.wd := by
  simp [State.setFld, State.fld, fget_fput_same _ _ _ h]

theorem State.fld_setFld_off (s : State) (o off : Nat) (f g : Fld) (v : Nat) (h : o ≠ off) : (s.setFld off f v).fld o g = s.fld o g := by
  simp [State.fld, h]

theorem State.fld_setFld_ne (s : State) (off : Nat) (f g : Fld) (v : Nat) (h : f.lo + f.wd ≤ 32)
    (d : f.lo + f.wd ≤ g.lo ∨ g.lo + g.wd ≤ f.lo) : (s.setFld off f v).fld off g = s.fld off g := by
  simp [State.setFld, State.fld, fget_fput_ne _ _ _ _ h d]

theorem State.fld_wr_ne (s : State) (o off : Nat) (w : Word) (g : Fld) (h : o ≠ off) : (s.wr off w).fld o g = s.fld o g := by
  simp [State.fld, h]

end Sys2Proof.Machine
end

