-- ==== Sys2Proof/Laws/Interrupts.lean ====
section
/-! SUPPORT. What the interrupt gathering of R32 can do, once for every command: the state that `done` answers settles the state it was
given, and GLB_IRQ_SRC agrees with the status bits afterwards. -/

namespace Sys2Proof.Machine

/-! ## The sources -/

/-- The OR of what a table's words raise. -/
def irqFold (acc : Nat) (m : Sparse Word) : Nat := m.foldl (fun acc p => acc ||| irqBits p.1 p.2) acc

theorem irqFold_sdel (k : Nat) (hk : ∀ w, irqBits k w = 0) (m : Sparse Word) (acc : Nat) : irqFold acc (sdel k m) = irqFold acc m := by
  induction m generalizing acc with
  | nil => rfl
  | cons p t ih =>
    obtain ⟨j, w⟩ := p
    by_cases h : k = j
    · subst h
      simpa [sdel, irqFold, hk] using ih acc
    · simpa [sdel, irqFold, h] using ih (acc ||| irqBits j w)

theorem irqFold_sins (k : Nat) (v : Word) (hk : ∀ w, irqBits k w = 0) (m : Sparse Word) (acc : Nat) :
    irqFold acc (sins k v m) = irqFold acc m := by
  induction m generalizing acc with
  | nil => simp [sins, irqFold, hk]
  | cons p t ih =>
    obtain ⟨j, w⟩ := p
    by_cases h : k < j
    · simp [sins, irqFold, h, hk]
    · simpa [sins, irqFold, h] using ih (acc ||| irqBits j w)

/-- A write to a register that raises no source leaves the sources as they were. -/
theorem irqSources_wr (s : State) (off : Nat) (w : Word) (h : ∀ w, irqBits off w = 0) : (s.wr off w).irqSources = s.irqSources := by
  show irqFold 0 (sput regReset off w s.regs) = irqFold 0 s.regs
  unfold sput
  split
  · exact irqFold_sdel off h _ _
  · rw [irqFold_sins off w h, irqFold_sdel off h]

theorem irqBits_lt (off : Nat) (w : Word) : irqBits off w < 2 ^ 8 := by
  unfold irqBits
  split; · decide
  split; · decide
  split
  · split
    · refine lt_of_le_of_lt (Nat.pow_le_pow_right (by decide) (?_ : _ ≤ 7)) (by decide)
      omega
    · decide
  split; · split <;> decide
  split; · split <;> decide
  split; · split <;> decide
  decide

theorem irqFold_lt (m : Sparse Word) (acc : Nat) (h : acc < 2 ^ 8) : irqFold acc m < 2 ^ 8 := by
  induction m generalizing acc with
  | nil => exact h
  | cons p t ih => exact ih _ (Nat.or_lt_two_pow h (irqBits_lt p.1 p.2))

theorem irqSources_lt (s : State) : s.irqSources < 2 ^ 8 := irqFold_lt s.regs 0 (by decide)

theorem irqBits_irqRegs {off : Nat} (h : off ∈ irqRegs) (w : Word) : irqBits off w = 0 := by
  simp only [irqRegs, List.mem_cons, List.not_mem_nil, or_false] at h
  unfold irqBits
  split
  · rfl
  · rcases h with rfl | rfl | rfl <;>
      rw [if_neg (by decide), if_neg (by decide), if_neg (by decide), if_neg (by decide), if_neg (by decide)]

/-! ## Sending -/

/-- What sending vectors can change: the pending-bit words and the messages sent. -/
def State.sentFrom (t x : State) : Prop :=
  t.core = x.core ∧ (∀ off, off ≠ R.MSIX_PBA 0 → off ≠ R.MSIX_PBA 1 → t.rd off = x.rd off) ∧ t.irqSources = x.irqSources ∧
    ∃ l : List Out, t.out = l ++ x.out ∧ l.all Out.isMsix

theorem State.sentFrom.refl (x : State) : x.sentFrom x := ⟨rfl, fun _ _ _ => rfl, rfl, [], rfl, rfl⟩

theorem State.sentFrom.trans {t u x : State} (h : t.sentFrom u) (g : u.sentFrom x) : t.sentFrom x := by
  obtain ⟨h1, h2, h3, l, h4, h5⟩ := h
  obtain ⟨g1, g2, g3, m, g4, g5⟩ := g
  exact ⟨h1.trans g1, fun o a b => (h2 o a b).trans (g2 o a b), h3.trans g3, l ++ m, by rw [h4, g4, List.append_assoc], by simp [h5, g5]⟩

/-- A vector below 64 is sent, or left pending. -/
theorem msix_sentFrom (s : State) (v : Nat) (h : v < 64) : (s.msix v).sentFrom s := by
  unfold State.msix
  have hv : v / 32 = 0 ∨ v / 32 = 1 := by omega
  split
  · rcases hv with e | e <;> rw [e]
    · exact ⟨rfl, fun o a b => s.rd_wr_ne _ _ _ a, irqSources_wr _ _ _ (irqBits_irqRegs (by simp [irqRegs])), [], rfl, rfl⟩
    · exact ⟨rfl, fun o a b => s.rd_wr_ne _ _ _ b, irqSources_wr _ _ _ (irqBits_irqRegs (by simp [irqRegs])), [], rfl, rfl⟩
  · exact ⟨rfl, fun _ _ _ => rfl, rfl, [_], rfl, rfl⟩

theorem irqSend_sentFrom (s : State) (rose : Nat) : (s.irqSend rose).sentFrom s := by
  unfold State.irqSend
  generalize List.range 9 = l
  induction l generalizing s with
  | nil => exact .refl s
  | cons i t ih =>
    rw [List.foldl_cons]
    split
    · exact (ih _).trans (msix_sentFrom _ _ (Nat.mod_lt _ (by decide)))
    · exact ih s

/-! ## Every command's end -/

/-- The gathering changes nothing but GLB_IRQ_SRC, the pending bits and the messages, and leaves GLB_IRQ_SRC in agreement (R32). -/
theorem irqSync_settles (x : State) : x.irqSync.settles x := by
  unfold State.irqSync
  simp only []
  split
  · next h => exact ⟨rfl, fun _ _ => rfl, h.symm, rfl, [], rfl, rfl⟩
  · obtain ⟨h1, h2, h3, l, h4, h5⟩ := irqSend_sentFrom (x.setFld R.GLB_IRQ_SRC F.GLB_IRQ_SRC_SRC x.irqSources)
      (x.irqSources - (x.irqSources &&& x.fld R.GLB_IRQ_SRC F.GLB_IRQ_SRC_SRC))
    refine ⟨h1, fun off ho => ?_, ?_, ?_, l, h4, h5⟩
    · simp only [irqRegs, List.mem_cons, List.not_mem_nil, or_false, not_or] at ho
      rw [h2 off ho.2.1 ho.2.2, State.rd_setFld_ne _ _ _ _ _ ho.1]
    · unfold State.irqAgrees
      have hw : irqBits R.GLB_IRQ_SRC = fun _ => 0 := funext fun w => irqBits_irqRegs (by simp [irqRegs]) w
      rw [h3, State.fld, h2 _ (by decide) (by decide), ← State.fld, State.fld_setFld_same _ _ _ _ (by decide), State.setFld,
        irqSources_wr _ _ _ (irqBits_irqRegs (by simp [irqRegs])), Nat.mod_eq_of_lt]
      exact irqSources_lt x
    · rw [State.fld, h2 _ (by decide) (by decide), ← State.fld, State.fld_setFld_ne _ _ _ _ _ (by decide) (by decide)]

/-- What `done` answers. -/
theorem done_next (x : State) : done x = .next x.irqSync := rfl

/-- A command whose meaning is `done x` gives `x`. -/
theorem gives_of_done {c : Instr} {s x : State} (h : exec c s = done x) : Gives c s x := ⟨x.irqSync, h, irqSync_settles x⟩

/-- Every next state that `done` answers agrees with its status bits. -/
theorem done_irqAgrees {x t : State} (h : done x = .next t) : t.irqAgrees := by
  cases h
  exact (irqSync_settles x).2.2.1

/-- A host write during BOOT has no effect; in any other mode it has its effect (R457). -/
theorem hostOp_boot (s : State) (k : State → State) (h : s.mode = .boot) : hostOp s k = done s := by simp [hostOp, h]

theorem hostOp_run (s : State) (k : State → State) (h : s.mode ≠ .boot) : hostOp s k = done (k s) := by simp [hostOp, h]

theorem hostOp_goesOn (s : State) (k : State → State) : ∃ x, hostOp s k = done x := ⟨_, rfl⟩

/-! ## Reading a settled state -/

section
variable {t x : State}

theorem State.settles.rd (h : t.settles x) {off : Nat} (ho : off ∉ irqRegs) : t.rd off = x.rd off := h.2.1 off ho

theorem State.settles.fld (h : t.settles x) {off : Nat} (f : Fld) (ho : off ∉ irqRegs) : t.fld off f = x.fld off f := by
  rw [State.fld, h.rd ho, State.fld]

theorem State.settles.pending (h : t.settles x) : t.pending = x.pending := (congrArg State.pending h.1 : t.core.pending = x.core.pending)
theorem State.settles.tick (h : t.settles x) : t.tick = x.tick := (congrArg State.tick h.1 : t.core.tick = x.core.tick)
theorem State.settles.now (h : t.settles x) : t.now = x.now := (congrArg State.now h.1 : t.core.now = x.core.now)
theorem State.settles.live (h : t.settles x) : t.live = x.live := (congrArg State.live h.1 : t.core.live = x.core.live)
theorem State.settles.latches (h : t.settles x) : t.latches = x.latches := (congrArg State.latches h.1 : t.core.latches = x.core.latches)
theorem State.settles.mem (h : t.settles x) : t.mem = x.mem := (congrArg State.mem h.1 : t.core.mem = x.core.mem)
theorem State.settles.glb (h : t.settles x) : t.glb = x.glb := (congrArg State.glb h.1 : t.core.glb = x.core.glb)
theorem State.settles.hq (h : t.settles x) : t.hq = x.hq := (congrArg State.hq h.1 : t.core.hq = x.core.hq)
theorem State.settles.pend (h : t.settles x) : t.pend = x.pend := (congrArg State.pend h.1 : t.core.pend = x.core.pend)
theorem State.settles.nextPend (h : t.settles x) : t.nextPend = x.nextPend := (congrArg State.nextPend h.1 : t.core.nextPend = x.core.nextPend)
theorem State.settles.seqs (h : t.settles x) : t.seqs = x.seqs := (congrArg State.seqs h.1 : t.core.seqs = x.core.seqs)
theorem State.settles.ckpts (h : t.settles x) : t.ckpts = x.ckpts := (congrArg State.ckpts h.1 : t.core.ckpts = x.core.ckpts)
theorem State.settles.tsc (h : t.settles x) : t.tsc = x.tsc := (congrArg State.tsc h.1 : t.core.tsc = x.core.tsc)
theorem State.settles.lnk (h : t.settles x) : t.lnk = x.lnk := (congrArg State.lnk h.1 : t.core.lnk = x.core.lnk)
theorem State.settles.bld (h : t.settles x) : t.bld = x.bld := (congrArg State.bld h.1 : t.core.bld = x.core.bld)
theorem State.settles.cen (h : t.settles x) : t.cen = x.cen := (congrArg State.cen h.1 : t.core.cen = x.core.cen)
theorem State.settles.axf (h : t.settles x) : t.axf = x.axf := (congrArg State.axf h.1 : t.core.axf = x.core.axf)
theorem State.settles.cams (h : t.settles x) : t.cams = x.cams := (congrArg State.cams h.1 : t.core.cams = x.core.cams)
theorem State.settles.trc (h : t.settles x) : t.trc = x.trc := (congrArg State.trc h.1 : t.core.trc = x.core.trc)
theorem State.settles.maps (h : t.settles x) : t.maps = x.maps := (congrArg State.maps h.1 : t.core.maps = x.core.maps)
theorem State.settles.tim (h : t.settles x) : t.tim = x.tim := (congrArg State.tim h.1 : t.core.tim = x.core.tim)
theorem State.settles.cal (h : t.settles x) : t.cal = x.cal := (congrArg State.cal h.1 : t.core.cal = x.core.cal)
theorem State.settles.chans (h : t.settles x) : t.chans = x.chans := (congrArg State.chans h.1 : t.core.chans = x.core.chans)
theorem State.settles.recd (h : t.settles x) : t.recd = x.recd := (congrArg State.recd h.1 : t.core.recd = x.core.recd)
theorem State.settles.flt (h : t.settles x) : t.flt = x.flt := (congrArg State.flt h.1 : t.core.flt = x.core.flt)
theorem State.settles.lcs (h : t.settles x) : t.lcs = x.lcs := (congrArg State.lcs h.1 : t.core.lcs = x.core.lcs)
theorem State.settles.pwr (h : t.settles x) : t.pwr = x.pwr := (congrArg State.pwr h.1 : t.core.pwr = x.core.pwr)
theorem State.settles.free (h : t.settles x) : t.free = x.free := (congrArg State.free h.1 : t.core.free = x.core.free)
end

end Sys2Proof.Machine
end

