-- ==== Sys2Proof/Laws/Memory.lean ====
section
/-! SUPPORT. The memories: a byte read after a write, and the canonical form, which every memory operation keeps. -/

namespace Sys2Proof.Machine

/-! ## Reads after writes -/

/-- One byte after a write of a list: the byte of the list at that address, else what was there. -/
theorem sget_writeBytes (m : Sparse Byte) (a k : Nat) (bs : List Byte) :
    sget zeroByte k (writeBytes m a bs) = if a ≤ k ∧ k < a + bs.length then bs.getD (k - a) 0 else sget zeroByte k m := by
  induction bs generalizing m a with
  | nil => simp [writeBytes]
  | cons b t ih =>
    rw [writeBytes, ih, sget_sput]
    simp only [List.length_cons]
    by_cases h : k = a
    · subst h; simp
    · by_cases h1 : a + 1 ≤ k ∧ k < a + 1 + t.length
      · have e : k - a = (k - (a + 1)) + 1 := by omega
        rw [if_pos h1, if_pos (by omega), e, List.getD_cons_succ]
      · rw [if_neg h1, if_neg h, if_neg (by omega)]

/-- A write leaves every byte outside it alone. -/
theorem sget_writeBytes_out (m : Sparse Byte) (a k : Nat) (bs : List Byte) (h : k < a ∨ a + bs.length ≤ k) :
    sget zeroByte k (writeBytes m a bs) = sget zeroByte k m := by
  rw [sget_writeBytes, if_neg (by omega)]

/-- What was written reads back. -/
theorem readBytes_writeBytes (m : Sparse Byte) (a : Nat) (bs : List Byte) : readBytes (writeBytes m a bs) a bs.length = bs := by
  apply List.ext_getElem
  · simp [readBytes]
  · intro i h1 h2
    simp only [readBytes, List.getElem_map, List.getElem_range]
    rw [sget_writeBytes, if_pos (by omega)]
    simp [List.getD, h2]

/-- A read that does not meet the write is unchanged. -/
theorem readBytes_writeBytes_out (m : Sparse Byte) (a b n : Nat) (bs : List Byte) (h : b + n ≤ a ∨ a + bs.length ≤ b) :
    readBytes (writeBytes m a bs) b n = readBytes m b n := by
  unfold readBytes
  apply List.map_congr_left
  intro i hi
  have := List.mem_range.1 hi
  exact sget_writeBytes_out m a _ bs (by omega)

/-! ## The canonical form -/

theorem swf_writeBytes (m : Sparse Byte) (a : Nat) (bs : List Byte) (h : swf zeroByte m = true) : swf zeroByte (writeBytes m a bs) = true := by
  induction bs generalizing m a with
  | nil => exact h
  | cons b t ih => exact ih _ _ (swf_sput _ _ _ _ h)

theorem swf_clearBad (m : Sparse Bool) (w a n : Nat) (h : swf (fun _ => false) m = true) : swf (fun _ => false) (clearBad m w a n) = true := by
  unfold clearBad
  split
  · exact h
  · generalize List.range ((a + n - 1) / w - a / w + 1) = l
    induction l generalizing m with
    | nil => exact h
    | cons i t ih => exact ih _ (swf_sput _ _ _ _ h)

/-- The five tables of the canonical form. -/
theorem Memory.wf_iff (m : Memory) : m.wf = true ↔ swf zeroByte m.sram = true ∧ swf zeroByte m.dram = true ∧ swf zeroByte m.host = true ∧
    swf (fun _ => false) m.sramBad = true ∧ swf (fun _ => false) m.dramBad = true := by
  have e : zeroByte = fun _ => (0 : Byte) := rfl
  simp [Memory.wf, e, and_assoc]

theorem Memory.reset_wf : Memory.reset.wf = true := rfl

theorem State.reset_mem_wf : State.reset.mem.wf = true := rfl

theorem State.sramPut_wf (s : State) (a : Nat) (bs : List Byte) (h : s.mem.wf = true) : (s.sramPut a bs).mem.wf = true := by
  rw [Memory.wf_iff] at *
  exact ⟨swf_writeBytes _ _ _ h.1, h.2.1, h.2.2.1, swf_clearBad _ _ _ _ h.2.2.2.1, h.2.2.2.2⟩

theorem State.dramPut_wf (s : State) (a : Nat) (bs : List Byte) (h : s.mem.wf = true) : (s.dramPut a bs).mem.wf = true := by
  rw [Memory.wf_iff] at *
  exact ⟨h.1, swf_writeBytes _ _ _ h.2.1, h.2.2.1, h.2.2.2.1, swf_clearBad _ _ _ _ h.2.2.2.2⟩

theorem State.hostPut_wf (s : State) (a : Nat) (bs : List Byte) (h : s.mem.wf = true) : (s.hostPut a bs).mem.wf = true := by
  rw [Memory.wf_iff] at *
  exact ⟨h.1, h.2.1, swf_writeBytes _ _ _ h.2.2.1, h.2.2.2.1, h.2.2.2.2⟩

/-- A word of SRAM marked as holding an uncorrectable error (R429). -/
theorem Memory.wf_sramBad (m : Memory) (k : Nat) (b : Bool) (h : m.wf = true) :
    ({ m with sramBad := sput (fun _ => false) k b m.sramBad } : Memory).wf = true := by
  rw [Memory.wf_iff] at *
  exact ⟨h.1, h.2.1, h.2.2.1, swf_sput _ _ _ _ h.2.2.2.1, h.2.2.2.2⟩

theorem Memory.wf_dramBad (m : Memory) (k : Nat) (b : Bool) (h : m.wf = true) :
    ({ m with dramBad := sput (fun _ => false) k b m.dramBad } : Memory).wf = true := by
  rw [Memory.wf_iff] at *
  exact ⟨h.1, h.2.1, h.2.2.1, h.2.2.2.1, swf_sput _ _ _ _ h.2.2.2.2⟩

/-- A part of a table in canonical form has the form. -/
theorem swf_filter {α : Type} [DecidableEq α] (d : Nat → α) (f : Nat × α → Bool) (m : Sparse α) (h : swf d m = true) :
    swf d (m.filter f) = true := by
  induction m with
  | nil => rfl
  | cons p t ih =>
    obtain ⟨j, w⟩ := p
    have h0 := h
    simp only [swf, Bool.and_eq_true] at h
    rw [List.filter_cons]
    split
    · simp only [swf, Bool.and_eq_true]
      refine ⟨⟨h.1.1, (sabove_iff d j _ (ih h.2)).2 fun q hq => ?_⟩, ih h.2⟩
      exact (sabove_iff d j t h.2).1 h.1.2 q (List.mem_of_mem_filter hq)
    · exact ih h.2

theorem State.sramFill_wf (s : State) (dst n : Nat) (bs : List (Nat × Byte)) (h : s.mem.wf = true) : (s.sramFill dst n bs).mem.wf = true := by
  rw [Memory.wf_iff] at *
  refine ⟨?_, h.2.1, h.2.2.1, swf_filter _ _ _ h.2.2.2.1, h.2.2.2.2⟩
  have h1 := swf_filter _ (fun p : Nat × Byte => !(decide (dst ≤ p.1) && decide (p.1 < dst + n))) _ h.1
  show swf zeroByte (bs.foldl (fun m p => sput zeroByte (dst + p.1) p.2 m) (s.mem.sram.filter _)) = true
  generalize s.mem.sram.filter _ = m at h1 ⊢
  induction bs generalizing m with
  | nil => exact h1
  | cons p t ih => exact ih _ (swf_sput _ _ _ _ h1)

/-- The copies of whole halves keep the form (R213, R270). -/
theorem State.sramCopy_wf (s : State) (src dst n : Nat) (h : s.mem.wf = true) : (s.sramCopy src dst n).mem.wf = true :=
  s.sramFill_wf dst n _ h

/-- A device reset keeps host memory and clears the rest (R453). -/
theorem Memory.reset_host_wf (m : Memory) (h : m.wf = true) : ({ Memory.reset with host := m.host } : Memory).wf = true := by
  rw [Memory.wf_iff] at *
  exact ⟨rfl, rfl, h.2.2.1, rfl, rfl⟩

/-! ## Commands over SRAM and DRAM -/

theorem State.sramBytes_sramPut (s : State) (a : Nat) (bs : List Byte) : (s.sramPut a bs).sramBytes a bs.length = bs :=
  readBytes_writeBytes _ _ _

theorem State.sramBytes_sramPut_out (s : State) (a b n : Nat) (bs : List Byte) (h : b + n ≤ a ∨ a + bs.length ≤ b) :
    (s.sramPut a bs).sramBytes b n = s.sramBytes b n := readBytes_writeBytes_out _ _ _ _ _ h

theorem State.dramBytes_dramPut (s : State) (a : Nat) (bs : List Byte) : (s.dramPut a bs).dramBytes a bs.length = bs :=
  readBytes_writeBytes _ _ _

theorem State.hostBytes_hostPut (s : State) (a : Nat) (bs : List Byte) : (s.hostPut a bs).hostBytes a bs.length = bs :=
  readBytes_writeBytes _ _ _

end Sys2Proof.Machine
end

