-- ==== Sys2Proof/Tests/Slice0.lean ====
section
/-! SUPPORT. Small tests: values that the manual works out, a term that each well-formedness check refuses, and for every statement with
hypotheses a state and operands that meet them. -/

namespace Sys2Proof.Machine.Tests

open Sys2Proof Sys2Proof.Machine

-- The kernel evaluates these theorems one after another.
set_option Elab.async false

/-! ## States -/

/-- The machine in mode `m`, else as after reset. -/
def inMode (m : Mode) : State := State.reset.setFld R.GLB_MODE F.GLB_MODE_MODE m.code

/-- A started command 7 of opcode `op` on queue 0, with its target, length and arguments. -/
def cmdOf (op target len : Nat) (args : List Nat) : Cmd :=
  { seq := 7, queue := 0, path := 0, slot := 0, epochAt := 0,
    words := ([op, target, 0x1000, 0, len, 0, 0, 0] ++ args).map (BitVec.ofNat 32), started := true, late := false,
    tAccept := 0, tStart := 0, wait := .run, journalOnly := false }

/-- The machine in mode `m` with that command in flight. -/
def withCmd (m : Mode) (c : Cmd) : State := { inMode m with hq := { Hq.reset with cmds := [c] } }

/-- `State.ready` as a test. -/
def isReady (s : State) (n op : Nat) (c : Cmd) : Bool :=
  s.cmd n = some c && c.started && c.wait = .run && c.op = op && s.flt.mcpHealthy ≠ 0 && opMode c s.mode && !c.epochChk

theorem ready_of {s : State} {n op : Nat} {c : Cmd} (h : isReady s n op c = true) : s.ready n op c := by
  simp [isReady] at h
  simp_all [State.ready]

/-! ## Interrupts, host accesses, interlocks, modes (O5 to O16) -/

theorem witness_InterruptSending :
    (let s := ((inMode .idle).setFld (R.LCS_UC_STAT 15) F.LCS_UC_STAT_EMPTY 1).irqSync
     s.mode ≠ .boot ∧ s.irqAgrees ∧ bit s.irqSources 7 = true ∧ s.fld R.GLB_IRQ_EN F.GLB_IRQ_EN_EN = 0) ∧
    (let s := ((inMode .idle).wr (R.MSIX_PBA 1) 0x80000000).irqSync
     s.mode ≠ .boot ∧ s.irqAgrees ∧ bit (s.rd (R.MSIX_PBA (63 / 32))).toNat (63 % 32) = true) ∧ State.reset.mode = .boot := by
  unfold State.irqAgrees; decide +kernel

theorem witness_FieldsByAccessCode : [Acc.ro, .rw, .rwl, .w1c, .wo, .rc].all (fun a =>
    [R.GLB_LOCKVIOL, R.GLB_SVC_CTRL, R.GLB_SAFE_CAUSE, R.GLB_IRQ_EN, R.GLB_MODE, R.GLB_MODE_REQ].any fun o =>
      (regRow o).any fun r => r.fields.any fun f => f.acc = a) = true := by decide +kernel

theorem witness_HostRegisterWrites :
    State.reset.mode = .boot ∧ regRow 4 = none ∧ accessOk 2 1 = false ∧ accessOk 0xFFFFFC 2 = false ∧ accessOk 0x100 2 = true ∧
    (let s := inMode .armed
     s.mode ≠ .boot ∧ accessOk R.TIM_RATE_SET 1 = true ∧ (regRow R.TIM_RATE_SET).any (fun r => decide
      ((s.arrive 499).rowWrite r (r.inst R.TIM_RATE_SET) R.TIM_RATE_SET 5 = (s.arrive 499).plainWrite r R.TIM_RATE_SET 5)) = true) := by
  decide +kernel

theorem witness_HostRegisterReads :
    (let s := inMode .safe
     s.mode ≠ .boot ∧ s.latched R.GLB_LOCKVIOL = none ∧ s.latched (R.LCS_UC_BAL_LO 15) = none ∧ s.latched (R.TIM_NOW 0) = none) ∧
    (let s := (inMode .safe).latch (R.TIM_NOW 1) (some 3)
     accessOk (R.TIM_NOW 1) 1 = true ∧ (regRow (R.TIM_NOW 1)).isSome = true ∧ s.latched (R.TIM_NOW 1) = some 3) ∧
    (State.reset.mode = .boot ∧ accessOk R.GLB_SAFE_CAUSE 1 = true ∧ State.reset.bootServes R.GLB_SAFE_CAUSE = false) := by decide +kernel

theorem witness_WindowWrites :
    (let s := (inMode .idle).wr R.GLB_DRAM_CAP 4096
     let t := { s with glb := { s.glb with dramLive := [(0, 0), (0, 0), (0, 0), (1, 64), (65, 64), (129, 64)] } }
     let a (x : Nat) : Nat := t.fld R.HQ_APER F.HQ_APER_BASE * 2 ^ 28 + x
     a 0x100000 < t.fld R.GLB_DRAM_CAP F.GLB_DRAM_CAP_CAP * 2 ^ 20 ∧ t.dramRegionOf (a 0x100000) = some 3 ∧
       t.dramRegionOf (a 0x8100000) = some 5 ∧ t.dramRegionOf (a 0x4100000) = some 4 ∧ t.dramRegionOf (a 0xFFFFFFF) = none ∧
       State.reset.fld R.GLB_DRAM_CAP F.GLB_DRAM_CAP_CAP * 2 ^ 20 ≤ a 0) := by decide +kernel

theorem witness_MemoryKeepsItsForm : State.reset.mem.wf = true ∧ 0x3A80000 ≤ 0x3FFFFFE ∧ 0x3FFFFFE + [1, 2].length ≤ 0x4000000 := by
  decide +kernel

theorem witness_InterlockAndRelayInputs :
    (let s := { inMode .idle with glb := { Glb.reset with pins := 0x80 } }
     bit s.glb.pins 7 = true ∧ bit s.glb.pins 0 = false) ∧
    (let s := { inMode .idle with glb := { Glb.reset with ilkCfg := 0, tripping := 0x80 } }
     bit s.glb.pins 7 = false ∧ bit (fget s.glb.ilkCfg F.GLB_ILK_CFG_USE) 0 = false ∧ bit s.glb.tripping 7 = true) ∧
    (let s := { (inMode .idle).setFld R.GLB_ILK_STAT F.GLB_ILK_STAT_LEVEL 0x80 with glb := { Glb.reset with force := 0x80 } }
     bit (s.fld R.GLB_ILK_STAT F.GLB_ILK_STAT_LEVEL) 7 = true ∧ bit s.glb.force 7 = true ∧ s.mode ≠ .hold ∧ bit s.glb.force 0 = false) ∧
    (let s := { inMode .armed with glb := { Glb.reset with ilkCfg := fput 0 F.GLB_ILK_CFG_FB_EN 1 } }
     State.reset.fbEnabled = false ∧ s.fbEnabled = true ∧ s.glb.fbLow ≠ s.emitEn ∧ safeFrom s.mode = true) ∧
    safeFrom (inMode .idle).mode = false := by decide +kernel

theorem witness_ClassSTrip : [Mode.expose, .idle].all (fun m =>
    let s := inMode m
    !bit s.glb.pins 7 && bit (fget s.glb.ilkCfg F.GLB_ILK_CFG_USE) 7 && bit (fget s.glb.ilkCfg F.GLB_ILK_CFG_CLASS) 7 &&
      !bit s.glb.tripping 7 && safeFrom s.mode = (m = .expose)) = true := by decide +kernel

theorem witness_ClassPTrip : [Mode.expose, .idle].all (fun m =>
    let s := { inMode m with glb := { Glb.reset with ilkCfg := fput Glb.reset.ilkCfg F.GLB_ILK_CFG_CLASS 0 } }
    !bit s.glb.pins 7 && bit (fget s.glb.ilkCfg F.GLB_ILK_CFG_USE) 7 && !bit (fget s.glb.ilkCfg F.GLB_ILK_CFG_CLASS) 7 &&
      !bit s.glb.tripping 7 && s.runMode = (m = .expose)) = true := by decide +kernel

/-- Every interlock input healthy. -/
def healthy (m : Mode) : State := { (inMode m).setFld R.GLB_ILK_STAT F.GLB_ILK_STAT_LEVEL 255 with glb := { Glb.reset with pins := 255 } }

theorem witness_ModeOperationRefusals :
    [Mode.boot, .idle, .armed, .expose, .hold, .degraded, .safe, .service].all (fun m => (inMode m).mode = m) = true ∧
    (inMode .armed).ilkHealthy = false ∧ { inMode .hold with glb := { Glb.reset with latched := true } }.forceZero = true ∧
    (inMode .safe).ilkHealthy = false ∧ (healthy .safe).ilkHealthy = true ∧ ((healthy .safe).setFld R.FLT_FATAL F.FLT_FATAL_CLOCK 1).rd R.FLT_FATAL ≠ 0 ∧
    (let s := { healthy .safe with glb := { (healthy .safe).glb with ilkCfg := fput Glb.reset.ilkCfg F.GLB_ILK_CFG_FB_EN 1, fbLow := true } }
     s.ilkHealthy = true ∧ s.rd R.FLT_FATAL = 0 ∧ s.fbEnabled = true ∧ s.glb.fbLow = true) ∧
    ((inMode .idle).setFld R.LCS_STAT F.LCS_STAT_LC 0).lc ≠ 2 := by decide +kernel

theorem witness_ModeOperations :
    (let s := healthy .idle
     s.mode = .idle ∧ s.lc = 2 ∧ s.latchIlk.ilkHealthy = true ∧ s.rd R.FLT_FATAL = 0 ∧
       (∀ h < 24, s.headConfigured h = true → s.inService h = true) ∧ s.expwin = false ∧ s.cfgFail = none) ∧
    (let s := { healthy .armed with tsc := { Tsc.reset with committed := true } }
     s.mode = .armed ∧ s.ilkHealthy = true ∧ s.tsc.committed = true ∧ s.ntiles = 0 ∧ s.expwin = false) ∧
    ((inMode .expose).runMode = true ∧ (inMode .hold).forceZero = false) ∧
    (let s := inMode .service
     (∀ h < 24, s.held h = none) ∧ s.cal.kind ≠ 1) ∧
    (let s := healthy .safe
     s.ilkHealthy = true ∧ s.rd R.FLT_FATAL = 0 ∧ s.fbEnabled = false) := by decide +kernel

theorem witness_PauseAndRunEnd :
    (let s := (inMode .expose).setFld R.GLB_MODE F.GLB_MODE_PENDING 1
     s.runMode = true ∧ s.fld R.GLB_MODE F.GLB_MODE_PENDING ≠ 0 ∧ (∀ h < 24, s.inVector h = false) ∧
       s.glb.pauseAt + (s.fld R.GLB_PAUSE_CFG F.GLB_PAUSE_CFG_PAUSE_TMO + 1) * 1000 ≤ ({ s with tick := 2000 }.arrive 0).now ∧
       ({ s with tick := 1999 }.arrive 499).now < s.glb.pauseAt + (s.fld R.GLB_PAUSE_CFG F.GLB_PAUSE_CFG_PAUSE_TMO + 1) * 1000 ∧
       (∀ i < s.ntiles, finalState (s.tileState i) = true) ∧ ∀ h < 24, s.held h = none) ∧
    (inMode .idle).runMode = false ∧ (inMode .expose).fld R.GLB_MODE F.GLB_MODE_PENDING = 0 := by decide +kernel

/-! ## Host queues (O17 to O27) -/

/-- Queue `q` enabled on path `path` with 8 slots. -/
def enabled (s : State) (q path : Nat) : State :=
  ((s.setFld (R.HQ_CFG q) F.HQ_CFG_SIZE 8).setFld (R.HQ_CFG q) F.HQ_CFG_PATH path).setFld (R.HQ_CFG q) F.HQ_CFG_EN 1

theorem witness_QueueConfiguration :
    (let s := inMode .idle
     let v (size path : Nat) : Word := fput (fput (fput 0 F.HQ_CFG_EN 1) F.HQ_CFG_SIZE size) F.HQ_CFG_PATH path
     s.mode ≠ .boot ∧ s.fld (R.HQ_CFG 15) F.HQ_CFG_EN = 0 ∧ (enabled s 15 0).fld (R.HQ_CFG 15) F.HQ_CFG_EN = 1 ∧ fget (0 : Word) F.HQ_CFG_EN = 0 ∧
       [(1, 0), (64, 2), (0, 0), (65, 0), (8, 3)].all (fun p => fget (v p.1 p.2) F.HQ_CFG_EN = 1 &&
         fget (v p.1 p.2 &&& 0x00FFE0FF#32) F.HQ_CFG_SIZE = p.1 && fget (v p.1 p.2 &&& 0x00FFE0FF#32) F.HQ_CFG_PATH = p.2) = true) ∧
    (let s := (withCmd .idle (cmdOf 0 0 0 [])).setFld (R.HQ_QSTAT 15) F.HQ_QSTAT_ACTIVE 1
     s.fld (R.HQ_CFG 15) F.HQ_CFG_EN = 0 ∧ s.fld (R.HQ_QSTAT 15) F.HQ_QSTAT_ACTIVE = 1 ∧ (s.hq.cmds.all fun c => c.queue ≠ 15) = true ∧
       ∃ c ∈ s.hq.cmds, c.queue = 0 ∧ c.journalOnly = false) := by decide +kernel

theorem witness_Doorbells :
    (let s := enabled (inMode .safe) 15 0
     s.mode ≠ .boot ∧ s.fld (R.HQ_CFG 15) F.HQ_CFG_EN = 1 ∧ s.fld (R.HQ_CFG 15) F.HQ_CFG_PATH = 0 ∧ 7 < s.fld (R.HQ_CFG 15) F.HQ_CFG_SIZE ∧
       s.fld (R.HQ_CFG 15) F.HQ_CFG_SIZE ≤ fget (8 : Word) F.HQ_SQ_TAIL_INDEX ∧ s.fld (R.HQ_CFG 14) F.HQ_CFG_EN = 0) := by decide +kernel

theorem witness_HostWatchdog : [0, 1, 2].all (fun a =>
    let s := ((inMode .expose).setFld R.HQ_HOSTWD F.HQ_HOSTWD_TMO 1).setFld R.HQ_HOSTWD F.HQ_HOSTWD_ACTION a
    s.mode ≠ .boot && s.fld R.HQ_HOSTWD F.HQ_HOSTWD_TMO ≠ 0 && !s.hq.hostOut && s.runMode && s.fld R.HQ_HOSTWD F.HQ_HOSTWD_ACTION = a &&
      decide (s.hq.hostAt + s.fld R.HQ_HOSTWD F.HQ_HOSTWD_TMO * 1000000 ≤ ({ s with tick := 2000 }.arrive 0).now) &&
      decide (({ s with tick := 1999 }.arrive 499).now < s.hq.hostAt + s.fld R.HQ_HOSTWD F.HQ_HOSTWD_TMO * 1000000)) = true ∧
    State.reset.fld R.HQ_HOSTWD F.HQ_HOSTWD_TMO = 0 := by decide +kernel

theorem witness_DescriptorFetch :
    let s := ((enabled (inMode .idle) 3 0).setFld (R.HQ_CFG 3) F.HQ_CFG_PRIO 3).setFld (R.HQ_SQ_TAIL 3) F.HQ_SQ_TAIL_INDEX 1
    (s.pwr.pfailAt = none ∧ s.handoverDue = [] ∧ (s.pickQueue.any fun p => p.1 = 3) = true ∧ s.journalBusy = false ∧
      s.lastSeq + 1 < 2 ^ 64 ∧ s.fld (R.HQ_CFG 3) F.HQ_CFG_PATH = 0 ∧ s.fetchable 3 = true ∧ s.prio 3 = 3) ∧
    (let t := { s with hq := { s.hq with cmds := [{ cmdOf 0 0 0 [] with seq := 0 }] } }.wr R.HQ_JRN_SEQ_LO 4095
     t.journalBusy = true ∧ (t.pickQueue.any fun p => p.1 = 3) = true) ∧
    State.reset.pickQueue = none := by decide +kernel

theorem witness_CommandsStart :
    let c : Cmd := { cmdOf 0x10 0 0 [] with started := false }
    let d : Cmd := { cmdOf 0x1010 0 0 [] with started := false }
    (let s := withCmd .idle c
     s.cmd 7 = some c ∧ s.handoverDue = [] ∧ c.timed = false ∧ (∀ d ∈ s.hq.cmds, d.queue = c.queue → d.seq < c.seq → d.started = true) ∧
       c.barrier = false) ∧
    (let s := withCmd .idle (cmdOf 0x10 0 0 [])
     s.cmd 7 = some (cmdOf 0x10 0 0 []) ∧ (cmdOf 0x10 0 0 []).started = true) ∧
    (let s := withCmd .idle d
     s.cmd 7 = some d ∧ d.timed = true ∧ d.op ≠ 0x02 ∧ extendTs d.at64 (tsFine d.tAccept / 65536) ≤ ((s.arrive 0).now : Int) * 65536) ∧
    (let e : Cmd := { d with words := d.words.set 6 0x10000 }
     (((withCmd .idle e).arrive 0).now : Int) * 65536 < extendTs e.at64 (tsFine e.tAccept / 65536)) := by decide +kernel

theorem witness_SharedChecks :
    let c := cmdOf 0x28 0 0 []
    let s := withCmd .idle c
    (s.cmd 7 = some c ∧ c.started = true ∧ c.wait = .run ∧ c.op = 0x28 ∧ s.flt.mcpHealthy ≠ 0 ∧ opMode c s.mode = false) ∧
    { s with flt := { s.flt with mcpHealthy := 0 } }.flt.mcpHealthy = 0 ∧
    (let d := cmdOf 0x2018 0x10 0 []
     let d : Cmd := { d with words := d.words.set 1 0x50010 }
     let s := withCmd .idle d
     d.op = 0x18 ∧ opMode d s.mode = true ∧ d.epochChk = true ∧
       epochPlace (epochTarget d) = some (R.TSC_STAT, F.TSC_STAT_EPOCH) ∧ s.fld R.TSC_STAT F.TSC_STAT_EPOCH ≠ d.expEpoch) ∧
    (let d := cmdOf 0x2010 0 0 []
     let s := withCmd .idle d
     d.op = 0x10 ∧ opMode d s.mode = true ∧ d.epochChk = true ∧ epochPlace (epochTarget d) = none) := by decide +kernel

theorem witness_CommandEnd :
    (withCmd .boot (cmdOf 0 0 0 [])).ready 7 0 (cmdOf 0 0 0 []) ∧ (withCmd .safe (cmdOf 0x22 0 0 [5, 6])).ready 7 0x22 (cmdOf 0x22 0 0 [5, 6]) ∧
    (let c := cmdOf 0 0 0 []
     let s := enabled (withCmd .idle c) 0 0
     c.path = 0 ∧ c.queue < 16 ∧ c.journalOnly = false ∧ c.noCq = false ∧ c.irq = false ∧ s.fld (R.HQ_CFG 0) F.HQ_CFG_IRQ_ALL = 0 ∧
       0 < s.fld (R.HQ_CFG 0) F.HQ_CFG_SIZE ∧ s.fld (R.HQ_CFG 0) F.HQ_CFG_SIZE ≤ 64) ∧ (cmdOf 0x400 0 0 []).noCq = true :=
  ⟨ready_of (by decide +kernel), ready_of (by decide +kernel), by decide +kernel, by decide +kernel⟩

theorem witness_CancelOfACommand :
    let c := cmdOf 0x38 0 0 [0, 9]
    let d : Cmd := { cmdOf 0x90000 0 0 [] with seq := 5, started := false }
    (let s := { inMode .idle with hq := { Hq.reset with cmds := [d, c] } }
     s.ready 7 0x38 c ∧ s.hq.cmds = [] ++ d :: [c] ∧ d.queue = c.arg 0 ∧ d.tag = c.arg 1 ∧ d.started = false) ∧
    (withCmd .idle c).ready 7 0x38 c :=
  ⟨⟨ready_of (by decide +kernel), by decide +kernel⟩, ready_of (by decide +kernel)⟩

theorem witness_HostLink :
    let c := cmdOf 0x09 0 64 []
    let s := withCmd .idle c
    s.cmd 7 = some c ∧ c.started = true ∧ c.path = 0 ∧ c.wait = .run ∧ dataOp c.op = true ∧ 63 < c.len ∧ c.len ≤ 64 ∧
      (s.hq.sbc.all fun j => j.seq ≠ c.seq) = true := by decide +kernel

/-- Port 0 up, in IDLE, with queue 2 enabled on it and the session key `[1]`. -/
def onEthernet : State :=
  let s := enabled (inMode .idle) 2 1
  let s := ((s.setFld (R.TIM_P_CFG 0) F.TIM_P_CFG_EN 1).setFld (R.TIM_P_CFG 0) F.TIM_P_CFG_SPEED 0).setFld (R.TIM_P_STAT 0) F.TIM_P_STAT_LINK 1
  { s with lcs := { s.lcs with session := some [1] } }

/-- A datagram of type `type` for queue 2, of DSEQ `dseq`, with the given number of descriptors of zeros and its MAC. -/
def datagram (type dseq k : Nat) : List Byte :=
  let b := (([1, type, 2, k] : List Nat) ++ [dseq, 0, 0, 0, 0, 0, 0, 0, 0, 0, 0, 0]).map (BitVec.ofNat 8) ++ List.replicate (64 * k) 0
  b ++ (Config.hmacSha256 [1] b).take 16

theorem datagram_accepted (type dseq : Nat) (s : State) (h : s.lcs.session = some [1]) (he : s.fld (R.HQ_CFG 2) F.HQ_CFG_EN = 1)
    (hp : s.fld (R.HQ_CFG 2) F.HQ_CFG_PATH = 1) : s.datagramOk 0 (datagram type dseq 0) = true := by
  simp [State.datagramOk, datagram, hdr, leNat, h, he, hp, Config.hmacSha256]

theorem witness_SubmitInOrder :
    let a := (onEthernet.arrive 0).rxOk 0
    (onEthernet.portUp 0 = true ∧ onEthernet.mode ≠ .boot) ∧ a.datagramOk 0 (datagram 1 1 0) = true ∧ hdr (datagram 1 1 0) 1 1 = 1 ∧
      (a.ackTo 2 0).queue 2 = Queue.reset ∧ hdr (datagram 1 1 0) 4 4 = 1 ∧ hdr (datagram 1 0 0) 4 4 = 0 ∧ hdr (datagram 1 2 0) 4 4 = 2 :=
  ⟨by decide +kernel, datagram_accepted 1 1 _ (by decide +kernel) (by decide +kernel) (by decide +kernel), by decide +kernel⟩

theorem witness_ManagementDatagrams :
    (∀ type dseq, ((onEthernet.arrive 0).rxOk 0).datagramOk 0 (datagram type dseq 0) = true) ∧ State.reset.datagramOk 0 [] = false ∧
    (let u : EthComplete := ⟨1, 0, 0, []⟩
     let s := { onEthernet with tick := 2000000, hq := { onEthernet.hq with queues := [(2, { Queue.reset with unacked := [u] })] } }
     s.fld (R.HQ_CFG 2) F.HQ_CFG_PATH = 1 ∧ (s.queue 2).unacked = [u] ∧
       u.sentAt + (s.fld R.HQ_ETH_CFG F.HQ_ETH_CFG_RTO + 1) * 100000 ≤ (s.arrive 0).now ∧ u.repeats < s.fld R.HQ_ETH_CFG F.HQ_ETH_CFG_RETRY ∧
       (s.setFld R.HQ_ETH_CFG F.HQ_ETH_CFG_RETRY 0).fld R.HQ_ETH_CFG F.HQ_ETH_CFG_RETRY ≤ u.repeats) :=
  ⟨fun type dseq => datagram_accepted type dseq _ (by decide +kernel) (by decide +kernel) (by decide +kernel), by decide +kernel⟩

/-! ## Programs (O28 to O38) -/

/-- An instruction's words: opcode, MOD, the rest of the base word, extension words. -/
def asm (op mod rest : Nat) (ws : List Nat := []) : List Nat := (op + ws.length * 256 + mod * 1024 + rest) :: ws

def iwOf (ws : List Nat) : Iw := ⟨ws.getD 0 0, ws.getD 1 0, ws.getD 2 0, ws.getD 3 0⟩

/-- Sequencer `n` runs in EXPOSE with these words at its PC, 0, in a tile bounded by ±1000 µm; else as after reset but for `f`. -/
def running (n : Nat) (ws : List Nat) (f : Seq → Seq) : State :=
  let s := (inMode .expose).sramPut 0 (ws.flatMap fun w => leBytes w 8)
  let s := s.sramPut 0x2000014 (([-1000000, -1000000, 1000000, 1000000] : List Int).flatMap fun v => leBytes (wrap 32 v) 4)
  s.setSeq n (f { Seq.reset n with running := true })

/-- `State.issues` as a test. -/
def doesIssue (s : State) (n : Nat) (i : Iw) : Bool :=
  decide (n < 26) && match s.nextIw n with
    | some (.ok j) => decide (j = i)
    | _ => false

theorem issues_of {s : State} {n : Nat} {i : Iw} (h : doesIssue s n i = true) : s.issues n i := by
  unfold doesIssue at h
  split at h <;> simp_all [State.issues]

/-- The words issue on sequencer 25 in the plain state, and there `p` holds of the state, the instruction and the sequencer with its words spent. -/
def meets (ws : List Nat) (f : Seq → Seq) (p : State → Iw → Seq → Bool) : Bool :=
  let s := running 25 ws f
  let i := iwOf ws
  doesIssue s 25 i && p s i ((s.seq 25).spend i.len)

/-- Engine 11 evaluates loop 176 with these words at its PC. -/
def evalState (ws : List Nat) (f : Eval → Eval) : State × Eval :=
  let e : Eval :=
    { loop := 176, slot := 0, round := 0, pc := 0, issued := 0, g := List.replicate 16 0, acc := 0, fz := false, fn := false,
      fc := false, fw := false, ft := false, intg := 0, gset := 0, pair := 0, held := none, limited := false, taps := [], dark := false,
      ended := false, pd0 := 0, pd1 := 0, speed := 0, region := 0, level := 0, idrv := 0, umps := 0 }
  let e := f e
  let s := inMode .expose
  let s := s.sramPut (s.ctlLive + 0x400 * (s.loopD s.ctlLive 176).prog) (ws.flatMap fun w => leBytes w 8)
  (s.setEval 11 (some e), e)

/-- The words are next on engine 11, and `p` holds of the state, the evaluation and the instruction. -/
def ctlMeets (ws : List Nat) (f : Eval → Eval) (p : State → Eval → Iw → Bool) : Bool :=
  let (s, e) := evalState ws f
  s.evalOf 11 = some e && s.ctlFetch e = some (iwOf ws) && p s e (iwOf ws)

theorem witness_issues : (running 25 (asm 0x10 0 0) id).issues 25 (iwOf (asm 0x10 0 0)) ∧
    (evalState (asm 0x10 0 0) id).1.evaluates 11 (evalState (asm 0x10 0 0) id).2 (iwOf (asm 0x10 0 0)) :=
  ⟨issues_of (by decide +kernel), by unfold State.evaluates; decide +kernel⟩

/-- A value was read. -/
def got (r : Except Nat Word) : Bool := match r with
  | .ok _ => true
  | .error _ => false

theorem witness_RegisterInstructions :
    ([0x10, 0x11, 0x12, 0x13, 0x14, 0x15, 0x16].all fun op =>
      meets (asm op 1 0xF0000) id (fun _ i q => i.op = op && got (q.reg i.ga) && got (q.opB i) && i.gd = 15) &&
      meets (asm op 1 0x1F0000) id (fun _ i q => got (q.reg i.ga) && got (q.opB i) && i.gd = 31) &&
      meets (asm op 1 (28 * 2 ^ 21)) id (fun _ i _ => i.ga = 28) && ctlMeets (asm op 1 0xF0000) id (fun _ _ i => i.op = op && i.gd = 15)) = true ∧
    meets (asm 0x17 1 0) id (fun _ i q => i.op = 0x17 && got (q.reg i.ga) && got (q.opB i)) = true ∧
    meets (asm 0x17 1 (28 * 2 ^ 21)) id (fun _ i _ => i.ga = 28) = true ∧ ctlMeets (asm 0x17 1 0) id (fun _ _ i => i.op = 0x17) = true := by
  decide +kernel

theorem witness_LoadsAndStores :
    ([15, 16, 19, 20, 21, 22, 23, 31].all fun d => meets (asm 0x08 0 (d * 2 ^ 16 + 255 * 2 ^ 32)) id fun _ i _ => i.op = 0x08 && i.gd = d) = true ∧
    meets (asm 0x09 0 (15 * 2 ^ 16 + 255 * 2 ^ 32)) id (fun _ i _ => i.op = 0x09 && i.gd = 15 && i.ga = 0 && !i.md 10) = true ∧
    meets (asm 0x09 1 (8388607 * 2 ^ 32)) id (fun _ i _ => i.op = 0x09 && i.gd = 0 && i.ga = 0 && i.md 10) = true ∧
    meets (asm 0x09 0 (16 * 2 ^ 21)) id (fun _ i _ => i.op = 0x09 && i.gd = 0 && i.ga = 16) = true ∧
    meets (asm 0x0A 0 (27 * 2 ^ 16)) id (fun _ i q => i.op = 0x0A && i.ga = 0 && got (q.reg i.gd)) = true ∧
    meets (asm 0x0A 0 (16 * 2 ^ 21)) id (fun _ i _ => i.op = 0x0A && i.ga = 16) = true ∧
    meets (asm 0 0 0) id (fun _ i _ => i.op = 0) = true ∧ ctlMeets (asm 0x08 0 0xF0000) id (fun _ _ i => i.op = 0x08 && i.gd = 15) = true ∧
    ctlMeets (asm 0 0 0) id (fun _ _ i => i.op = 0) = true := by decide +kernel

theorem witness_Branches :
    meets (asm 0x20 0 0) id (fun _ i _ => i.op = 0x20) = true ∧
    ([0, 2, 12, 1, 13].all fun c => meets (asm 0x21 0 (c * 2 ^ 16)) id fun _ i _ => i.op = 0x21 && bits i.base 19 16 = c) = true ∧
    ([7, 8].all fun k => meets (asm 0x22 0 0) (fun q => { q with arch := { q.arch with stack := List.replicate k 0 } })
      fun _ i q => i.op = 0x22 && q.arch.stack.length = k) = true ∧
    meets (asm 0x23 0 0) id (fun _ i q => i.op = 0x23 && q.arch.stack = []) = true ∧
    meets (asm 0x23 0 0) (fun q => { q with arch := { q.arch with stack := [5] } }) (fun _ _ q => q.arch.stack = [5]) = true ∧
    ([0, 1, 2].all fun v => meets (asm 0x24 0 (15 * 2 ^ 20)) (fun q => { q with arch := { q.arch with g := q.arch.g.set 15 v } })
      fun _ i q => i.op = 0x24 && bits i.base 24 20 = 15 && q.arch.g.getD 15 0 = v) = true ∧
    ctlMeets (asm 0x20 0 0) id (fun _ _ i => i.op = 0x20) = true ∧
    ([0, 1].all fun c => ctlMeets (asm 0x21 0 (c * 2 ^ 16)) id fun _ x i => i.op = 0x21 && bits i.base 19 16 = c && !x.fz) = true := by
  decide +kernel

theorem witness_DoseInstructions :
    meets (asm 0x38 7 0) id (fun _ i _ => i.op = 0x38 && i.md 10) = true ∧ meets (asm 0x38 0 0) id (fun _ i _ => i.op = 0x38) = true ∧
    meets (asm 0x39 0 0) id (fun _ i _ => i.op = 0x39 && bits i.base 55 32 = 0) = true ∧
    meets (asm 0x39 0 (2 ^ 32)) id (fun _ i _ => i.op = 0x39 && !i.md 10 && bits i.base 55 32 ≠ 0) = true ∧
    meets (asm 0x3A 0 0) id (fun _ i _ => i.op = 0x3A && bits i.base 27 20 = 0) = true ∧
    meets (asm 0x3A 0 (0xF * 2 ^ 16 + 0x80 * 2 ^ 20)) id
      (fun s i q => i.op = 0x3A && bits i.base 27 20 ≠ 0 && !s.present s.curveLive q.head (bits i.base 19 16)) = true ∧
    (let s := (running 25 (asm 0x3A 0 (0xF * 2 ^ 16 + 0x80 * 2 ^ 20)) id).sramPut (State.reset.curveLive + 0xC0000 + 4 * 31) [0xFF, 0xFF]
     doesIssue s 25 (iwOf (asm 0x3A 0 (0xF * 2 ^ 16 + 0x80 * 2 ^ 20))) = true ∧ s.present s.curveLive (s.seq 25).head 15 = true) ∧
    meets (asm 0x3C 0 (5 * 2 ^ 16)) id (fun _ i _ => i.op = 0x3C && bits i.base 18 16 = 5) = true ∧
    meets (asm 0x3C 0 (2 * 2 ^ 16 + 0x80000000 * 2 ^ 32)) id (fun _ i _ => bits i.base 18 16 = 2 && decide (sgn 32 i.hi < 0)) = true ∧
    meets (asm 0x3C 0 (4 * 2 ^ 16)) id (fun _ i _ => bits i.base 18 16 = 4 && sgn 32 i.hi = 0) = true ∧
    meets (asm 0x3D 1 0 [0]) id (fun _ i _ => i.op = 0x3D && i.md 10) = true ∧ meets (asm 0x3D 0 0) id (fun _ i _ => i.op = 0x3D && !i.md 10) = true := by
  decide +kernel

theorem witness_ControlInstructions :
    ([0x80, 0x81, 0x82, 0x83, 0x85, 0x86].all fun op => ctlMeets (asm op 0 0) id fun _ x i => i.op = op && !x.dark && i.gd < 16 && x.taps.length < 3) = true ∧
    ctlMeets (asm 0x80 2 0 [0x7FFFFFFF]) (fun e => { e with acc := 2 ^ 63 - 1, g := e.g.set 0 0x7FFFFFFF }) (fun s x i => i.op = 0x80 && i.md 11 &&
      x.acc + (s.creg x i.gd).toInt * (BitVec.ofNat 32 (bits i.w1 31 0)).toInt ≠ min (max (x.acc + 0x3FFFFFFF00000001) (-(2 ^ 63))) (2 ^ 63 - 1)) = true ∧
    ctlMeets (asm 0x82 1 0) (fun e => { e with dark := true }) (fun _ x i => i.op = 0x82 && x.dark) = true ∧
    ctlMeets (asm 0x84 0 0) id (fun s _ i => i.op = 0x84 && decide (0 < s.gsCount)) = true ∧
    ctlMeets (asm 0x84 0 0xFF0000) id (fun s _ i => i.op = 0x84 && decide (s.gsCount ≤ 255)) = true ∧
    ctlMeets (asm 0x86 0 0) (fun e => { e with taps := List.replicate 3 (0, 0, false) }) (fun _ x i => i.op = 0x86 && x.taps.length = 3) = true ∧
    ctlMeets (asm 0x01 0 0) id (fun _ _ i => i.op = 0x01) = true := by decide +kernel

/-- A speed for the motions of a program. -/
def fast (q : Seq) : Seq := { q with arch := { q.arch with speed := 1000000, jspeed := 2000000 } }

/-- The vector of a firing motion. -/
def vecOf (s : State) (i : Iw) (q : Seq) : Option Vec := match q.firingVec (s.env (s.seq 25)).bounds i with
  | some (.ok w) => some w
  | _ => none

/-- The target of a motion. -/
def toOf (i : Iw) (q : Seq) (v : Nat) : Option (Pt × Nat) := match q.target i v with
  | .ok p => some p
  | .error _ => none

theorem witness_MotionInstructions :
    meets (asm 0x31 0 0 [1000 + 500 * 2 ^ 32]) fast (fun s i q => i.op = 0x31 && !i.md 11 && !i.md 13 && !q.inSwitch && !q.shape.skyOn &&
      !q.runInDone && (vecOf s i q).any fun w => w.len ≠ 0 && w.v ≠ 0) = true ∧
    meets (asm 0x31 0 0 [0]) fast (fun s i q => (vecOf s i q).any fun w => w.len = 0 && w.p0 = w.p1) = true ∧
    meets (asm 0x31 0 0 [1000]) id (fun s i q => (vecOf s i q).any fun w => w.len ≠ 0 && w.v = 0) = true ∧
    meets (asm 0x31 0 0 [1000001]) fast (fun s i q => match q.firingVec (s.env (s.seq 25)).bounds i with
      | some (.error _) => true
      | _ => false) = true ∧
    meets (asm 0x30 0 0 [1000000]) fast (fun s i q => i.op = 0x30 && !q.shape.skyOn && decide (0 ≤ q.delay 0) && (toOf i q q.arch.jspeed).any fun p =>
      (s.env (s.seq 25)).bounds.has p.1 && p.1 ≠ q.point && p.2 ≠ 0) = true ∧
    meets (asm 0x30 0 0 [1000001]) fast (fun s i q => (toOf i q q.arch.jspeed).any fun p => !(s.env (s.seq 25)).bounds.has p.1) = true ∧
    meets (asm 0x30 0 0 [1]) (fun q => { q with arch := { q.arch with jspeed := 0 } }) (fun s i q => (toOf i q q.arch.jspeed).any fun p =>
      (s.env (s.seq 25)).bounds.has p.1 && p.1 ≠ q.point && p.2 = 0) = true ∧
    meets (asm 0x30 1 0 [0x7FFFFFFF]) (fun q => { q with arch := { q.arch with px := 1 } }) (fun _ i q => toOf i q q.arch.jspeed = none) = true ∧
    meets (asm 0x40 0 0 [1000, 0]) fast (fun _ i _ => i.op = 0x40 && bits i.base 19 16 = 0) = true ∧
    meets (asm 0x40 0 (2 * 2 ^ 16) [1000, 5]) fast (fun s i q => i.op = 0x40 && bits i.base 19 16 ≠ 0 && !i.md 13 && !q.inSwitch &&
      (toOf i q q.arch.speed).any fun p => (lineVec q.point p.1 p.2).len ≠ 0 && p.2 ≠ 0 && q.arch.jspeed ≠ 0 && !q.runInDone &&
        (List.range 2).all fun k =>
          let w := brushVec q.point p.1 p.2 (i.md 11) (q.feedSum i k) k
          (s.env (s.seq 25)).bounds.has w.p0 && (s.env (s.seq 25)).bounds.has w.p1 && fits32 w.p0.x && fits32 w.p0.y && fits32 w.p1.x &&
            fits32 w.p1.y) = true := by decide +kernel

theorem witness_HoldsAndWaits :
    ([asm 0x34 0 0, asm 0x34 0 0x10000, asm 0x34 1 0x10000, asm 0x39 1 (2 ^ 32), asm 0x49 0 0, asm 0x49 0 0x10000].all fun ws =>
      meets ws id fun _ _ q => !q.inSwitch && !q.shape.skyOn) = true ∧
    meets (asm 0x49 1 0 [1000000000 * 65536]) id (fun _ i _ => i.md 10 && !tsValid i.w1) = true ∧
    (let f (q : Seq) : Seq := { q with cursor := 2500, nextTick := 2 }
     meets (asm 0x49 1 0 [65536]) f (fun s i q => tsValid i.w1 && decide (extendTs i.w1 s.now * 5 < (q.cursor * 131072 : Nat))) = true ∧
     meets (asm 0x49 1 0 [1000 * 65536]) f (fun s i q => decide ((q.cursor * 131072 : Nat) ≤ extendTs i.w1 s.now * 5) &&
       decide (1250 * (((extendTs i.w1 s.now).toNat + 32767999) / 32768000) ≤ q.cursor)) = true ∧
     meets (asm 0x49 1 0 [5000 * 65536]) f (fun s i q => tsValid i.w1 && decide ((q.cursor * 131072 : Nat) ≤ extendTs i.w1 s.now * 5) &&
       decide (q.cursor < 1250 * (((extendTs i.w1 s.now).toNat + 32767999) / 32768000))) = true) ∧
    meets (asm 0x48 0 0) id (fun s i _ => i.op = 0x48 && decide (s.wmLen (bits i.base 18 16) ≤ bits i.base 43 32)) = true ∧
    ([0, 2, 3].all fun st =>
      let ws := asm 0x48 (if st = 0 then 1 else 0) 0
      let s := ((running 25 ws id).setLive (R.AXF_AX_CFG 0) (fput 0 F.AXF_AX_CFG_WMLEN 1)).sramPut (wmAddr 0 0 + 10) [BitVec.ofNat 8 st]
      doesIssue s 25 (iwOf ws) && decide (0 < s.wmLen 0) && (s.wm 0 0).state = st) = true ∧
    meets (asm 0x4A 0 (1 * 2 ^ 32)) id (fun _ i _ => i.op = 0x4A && bits i.base 36 32 = 1) = true ∧
    meets (asm 0x4A 0 (25 * 2 ^ 32)) id (fun _ i _ => bits i.base 36 32 = 25) = true ∧
    meets (asm 0x4A 0 (24 * 2 ^ 32)) id (fun s i _ => bits i.base 36 32 = 24 && s.barWait (bits i.base 21 16) = []) = true ∧
    (let s := running 25 (asm 0x4A 0 (2 * 2 ^ 32)) (fun q => { q with head := 24 })
     let t (c : Nat) : State := { s with tsc := { s.tsc with barriers := [(0, 5, c, 1)] } }
     doesIssue (t 2) 25 (iwOf (asm 0x4A 0 (2 * 2 ^ 32))) = true ∧ (t 2).barWait 0 = [(5, 2, 1)] ∧ (t 2).seqOf 5 ≠ 25 ∧ (t 3).barWait 0 = [(5, 3, 1)]) := by
  decide +kernel

/-- Sequencer 5 of head 5 as `f` makes it, with head 5 holding tile 9. -/
def holding (ws : List Nat) (f : Seq → Seq) : State :=
  let s := running 5 ws f
  { s with tsc := { s.tsc with holds := [(5, some 9)] } }

theorem witness_ProgramEvents :
    ([Activity.motion, .dwell, .waitTime false, .ready].all fun a =>
      let q := (running 25 [] fun q => { q with act := a, cursor := 2499, nextTick := 1 }).seq 25
      q.running && q.act = a && decide (q.cursor / 1250 ≤ q.nextTick)) = true ∧
    (let q := (running 25 [] fun q => { q with cursor := 2500, nextTick := 1 }).seq 25
     ¬ q.cursor / 1250 ≤ q.nextTick) ∧
    ([3999, 4000].all fun c =>
      let q := (running 25 [] fun q => { q with cursor := c, arch := { q.arch with ramp := ⟨true, 0, 65535, 5000, 1000, 0⟩ } }).seq 25
      q.arch.ramp.running && (decide (q.arch.ramp.time ≤ q.arch.ramp.done + (q.cursor - q.arch.ramp.since)) == (c = 4000))) = true ∧
    (Seq.reset 0).arch.ramp.running = false ∧
    ([Activity.waitWm 3 1023 50 true, .waitBar 63 24 50 true].all fun a => [50, 51].all fun t =>
      let q := (running 25 [] fun q => { q with act := a, nextTick := t }).seq 25
      q.act = a && q.running && (decide (50 < q.nextTick) == (t = 51))) = true := by decide +kernel

theorem witness_TileEdgesAndSignals :
    (meets (asm 0x50 0 0x70000) id (fun _ i q => i.op = 0x50 && bits i.base 18 16 = 7 && !q.inSwitch) = true ∧
     meets (asm 0x50 0 0x30000) id (fun _ i _ => bits i.base 18 16 = 3) = true ∧
     meets (asm 0x50 0 0) (fun q => { q with entry := 5 }) (fun _ i q => bits i.base 18 16 = 0 && q.arch.pc ≠ q.entry) = true ∧
     ([0x10000, 0x20000].all fun k => meets (asm 0x50 0 k) id fun _ i q => i.op = 0x50 && decide (1 ≤ bits i.base 18 16) && !q.begun) = true ∧
     meets (asm 0x50 0 0) id (fun _ i q => bits i.base 18 16 = 0 && q.arch.pc = q.entry && q.args.length = 4) = true ∧
     (let s := holding (asm 0x50 0 0x10000) fun q => { q with begun := true }
      let q := (s.seq 5).spend 1
      doesIssue s 5 (iwOf (asm 0x50 0 0x10000)) = true ∧ q.begun = true ∧ s.held q.head ≠ none ∧ s.seqOf q.head = 5) ∧
     meets (asm 0x50 0 0x20000) (fun q => { q with begun := true }) (fun _ i q => bits i.base 18 16 = 2 && q.begun && !q.arch.ft) = true ∧
     ([0, 255].all fun e => [0, 1].all fun m => meets (asm 0x4B m (e * 0x10000)) id fun _ i _ => i.op = 0x4B && bits i.base 23 16 = e) = true ∧
     meets (asm 0x58 0 0xF0000) id (fun s i q => i.op = 0x58 && got (q.reg (bits i.base 20 16)) && s.fld R.REC_QS_CFG F.REC_QS_CFG_EN = 0) = true ∧
     meets (asm 0x58 0 0x1C0000) id (fun _ i q => i.op = 0x58 && !got (q.reg (bits i.base 20 16))) = true ∧
     (let s := holding (asm 0x01 0 0) id
      doesIssue s 5 (iwOf (asm 0x01 0 0)) = true ∧ s.seqOf ((s.seq 5).spend 1).head = 5 ∧ s.held ((s.seq 5).spend 1).head ≠ none ∧
        s.fld (R.BSQ_FAULT 5) F.BSQ_FAULT_FAULTED = 0)) ∧
    (let s : State := holding (asm 0x41 0 (2 ^ 32) [3 + 3 * 2 ^ 32]) id
     let a := s.fld (R.BLD_H_BCFG 5) F.BLD_H_BCFG_AREA
     s.colCap a = 0 ∧ doesIssue s 5 (iwOf (asm 0x41 0 (2 ^ 32) [3 + 3 * 2 ^ 32])) = true ∧
       meets (asm 0x41 0 0 [0]) id (fun _ i _ => i.op = 0x41 && bits i.base 47 32 = 0) = true ∧
       meets (asm 0x41 0 (2 ^ 32) [0]) id (fun _ i _ => bits i.base 47 32 = 1 && bits i.w1 31 0 = 0) = true ∧
       meets (asm 0x41 0 (2 ^ 32) [2 + 3 * 2 ^ 32]) id (fun _ i _ => !i.md 10 && decide (bits i.w1 31 0 < bits i.w1 47 32)) = true ∧
       meets (asm 0x41 2 (2 * 2 ^ 32) [1]) id (fun _ i _ => i.md 11 && decide (bits i.base 31 16 + 1 < bits i.base 47 32)) = true ∧
       (let t := ((s.wr (R.BLD_CA_CFG a) 0).setFld (R.BLD_CA_CFG a) F.BLD_CA_CFG_SIZE 1).wr (R.BLD_CA_STAT a) 0xFFFFFFFF
        t.caReady a (t.caActive a) = true ∧ t.fld (R.BLD_CA_CFG a) F.BLD_CA_CFG_SRC = 0 ∧ 1 ≤ t.colCap a ∧
          doesIssue t 5 (iwOf (asm 0x41 0 (2 ^ 32) [3 + 3 * 2 ^ 32])) = true)) ∧
    (let s := running 5 [] fun q => { q with act := .column, colRun := { ColRun.none with active := true, ncol := 2, period := 10 } }
     let c := (s.seq 5).colRun
     s.mayRun (s.seq 5) = true ∧ (s.seq 5).act = .column ∧ s.inWeb 5 = false ∧ c.axisMode = false ∧ c.starved = false ∧ c.next + 1 < c.ncol ∧
       c.s0 + c.next * c.period < 1250 * ((s.seq 5).nextTick + 1) ∧ (∀ u < 16, s.fld (R.LCS_UC_STAT u) F.LCS_UC_STAT_BOUND = 0) ∧
       (s.seq 5).job = none) ∧
    State.reset.mayRun (State.reset.seq 25) = false ∧ (inMode .safe).mode ≠ .boot ∧ fget (fput 0 F.BSQ_FAULT_FAULTED 1) F.BSQ_FAULT_FAULTED = 1 ∧
    fget (0 : Word) F.BSQ_FAULT_FAULTED = 0 ∧
    (let s := running 25 [0xFF] fun q => { q with arch := { q.arch with pc := 2 ^ 22 } }
     (s.nextIw 25).any (fun r => match r with
       | .ok _ => false
       | .error _ => true) = true ∧ progEnd ≤ (s.seq 25).arch.pc) := by decide +kernel

theorem witness_StreamTicks :
    ([Activity.swbStop, .swbWait, .swbBack, .swbApproach, .ready].all fun a =>
      let q := (running 25 [] fun q => { q with act := a, cursor := 2499, nextTick := 1 }).seq 25
      q.running && q.act = a && decide (q.cursor / 1250 ≤ q.nextTick)) = true ∧
    (let i := iwOf (asm 0x34 0 0x10000)
     i.op = 0x34 ∧ i.md 10 = false ∧ bits i.base 47 16 ≠ 0 ∧ doesIssue (running 25 (asm 0x34 0 0x10000) fun q => { q with act := .swbWait }) 25 i = true) ∧
    (let ws := asm 0x31 0 0 [1000 + 500 * 2 ^ 32]
     let s := running 25 ws fun q => { fast q with act := .swbWait }
     doesIssue s 25 (iwOf ws) = true ∧ (vecOf s (iwOf ws) (s.seq 25)).any (fun w => w.len ≠ 0) = true ∧ (s.seq 25).arch.jspeed ≠ 0) ∧
    (let s := running 25 [] fun q => { q with nextTick := 2, cursor := 2500 }
     let q := s.seq 25
     (∀ m < 26, m ≠ 25 → (s.seq m).running = false) ∧ s.seqs.length ≤ 26 ∧ q.running = true ∧ q.act = .ready ∧ q.inRun = false ∧
       s.mayRun q = true ∧ q.nextTick = s.tick + 2 ∧ q.cursor = 1250 * (s.tick + 2)) := by decide +kernel


/-! ## Commits, data commands and faults (O39 to O46) -/

/-- A state in SERVICE in which every shadow set passes its checks. -/
def passing : State :=
  let s := (inMode .service).setFld R.GLB_DRAM_CAP F.GLB_DRAM_CAP_CAP 65535
  let s := (s.setFld (R.GLB_DRAM_BASE 4) F.GLB_DRAM_BASE_BASE 1024).setFld (R.GLB_DRAM_SIZE 4) F.GLB_DRAM_SIZE_SIZE 64
  let s := (List.range 2).foldl (fun s p =>
    let s := (s.setFld (R.MAP_GEOM p) F.MAP_GEOM_WIDTH 256).setFld (R.MAP_GEOM p) F.MAP_GEOM_HEIGHT 4
    let s := ((s.setFld (R.MAP_FRAME p) F.MAP_FRAME_NPL 1).setFld (R.MAP_FRAME p) F.MAP_FRAME_VB 1).setFld (R.MAP_FRAME p) F.MAP_FRAME_FSIZE 1
    (s.setFld (R.MAP_SEQ_A p 0) F.MAP_SEQ_A_CMASK 0).setFld (R.MAP_SEQ_B p 0) F.MAP_SEQ_B_PLEN 208750) s
  let s := { s with glb := { s.glb with dramLive := [(0, 64), (64, 64), (128, 64), (192, 72), (1024, 64), (1088, 64)] } }
  (List.range 4).foldl (fun s c =>
    let s := (s.setFld (R.CAM_GEOM c) F.CAM_GEOM_WIDTH 16).setFld (R.CAM_GEOM c) F.CAM_GEOM_HEIGHT 1
    (s.setFld (R.CAM_ESET c) F.CAM_ESET_BITS 8).setFld (R.CAM_EXP c) F.CAM_EXP_EXP 1) s

theorem passing_dram : passing.judge 0 0 = .pass := by decide +kernel
theorem passing_sets : ([2, 3, 4, 27, 34, 35, 36].all fun id => passing.judge id 0 = .pass) = true := by decide +kernel
theorem passing_maps : ([28, 29].all fun id => passing.judge id 0 = .pass) = true := by decide +kernel
theorem passing_cams : ([30, 33].all fun id => passing.judge id 0 = .pass) = true := by decide +kernel
theorem failing_sets : ([0, 28, 29, 30, 31, 32, 33].all fun id => match State.reset.judge id 0 with
    | .bad _ _ => true
    | _ => false) = true := by decide +kernel

/-- `passing` in mode `m`, with the command in flight. -/
def ready (m : Mode) (c : Cmd) : State := { passing.setFld R.GLB_MODE F.GLB_MODE_MODE m.code with hq := { Hq.reset with cmds := [c] } }

/-- A list of modes and started commands, each ready as its opcode. -/
def allReady (l : List (Mode × Cmd)) : Bool := l.all fun p => isReady (withCmd p.1 p.2) 7 p.2.op p.2

theorem allReady_of {l : List (Mode × Cmd)} (h : allReady l = true) : ∀ p ∈ l, (withCmd p.1 p.2).ready 7 p.2.op p.2 :=
  fun p hp => ready_of (by simpa using List.all_eq_true.mp h p hp)

theorem witness_CommitSnapshot :
    (passing.mode ≠ .boot ∧ passing.pend = [] ∧ passing.unlocked = true ∧ (inMode .expose).unlocked = false) ∧
    (∀ p ∈ [(Mode.idle, cmdOf 0x02 0 0 [0, 0]), (.safe, cmdOf 0x02 0 0 [0, 32]), (.expose, cmdOf 0x02 0 0 [2, 0]), (.idle, cmdOf 0x02 0 0 [1, 0]),
      (.idle, cmdOf 0x02 0 0 [0, 16]), (.hold, cmdOf 0x0B 0 0 [0]), (.armed, cmdOf 0x0B 0 0 [3])], (withCmd p.1 p.2).ready 7 p.2.op p.2) ∧
    bit (32 * 2 ^ 32) 37 = true ∧ setMode 1 .expose = false ∧ ([0, 34, 35, 36].all fun id => setMode id .idle) = true ∧
    (cmdOf 0x02 0 0 [0, 16]).timed = false ∧ isReady (ready .idle (cmdOf 0x02 0 0 [0, 16])) 7 0x02 (cmdOf 0x02 0 0 [0, 16]) = true ∧
    (let s := ready .idle (cmdOf 0x0B 0 0 [2])
     isReady s 7 0x0B (cmdOf 0x0B 0 0 [2]) = true ∧ s.nslots = 2 ∧ s.judge 1 0 = .pass ∧ s.judge 1 2 = .pass) :=
  ⟨by decide +kernel, allReady_of (by decide +kernel), by decide +kernel, by decide +kernel, by decide +kernel, by decide +kernel,
    by decide +kernel, by decide +kernel⟩

/-- A snapshot of set `id`. -/
def snapOf (id : Nat) (nr : List Nat) : Pending := ⟨9, [id], nr, none, false, 500, [(R.CAM_EXP 0, 1)], 0, none⟩

theorem witness_CommitGoLive :
    ([0, 1, 2, 30, 36].all fun id =>
      let s := { inMode .idle with pend := [snapOf id []] }
      (s.pend.find? fun x => x.id = 9 && x.ready ((s.tick + 1) * 500)) = some (snapOf id []) && (snapOf id []).seq = none) = true ∧
    (snapOf 1 [1]).ready 500 = false ∧ (snapOf 1 []).ready 499 = false ∧ State.reset.pend = [] ∧
    State.reset.fld R.BLD_STAT F.BLD_STAT_COPYING = 0 ∧ State.reset.fld R.CEN_STAT F.CEN_STAT_COPYING = 0 ∧ State.reset.tsc.copying = none ∧
    (let s := (State.reset.setFld R.BLD_STAT F.BLD_STAT_COPYING 1).setFld R.CEN_STAT F.CEN_STAT_COPYING 1
     s.mem.wf = true ∧ s.bld.held = [] ∧ s.cen.held = [] ∧ s.fld R.BLD_STAT F.BLD_STAT_COPYING = 1 ∧ s.fld R.CEN_STAT F.CEN_STAT_COPYING = 1) ∧
    (1 ∈ (snapOf 1 [1]).notReady) ∧
    (let bank : Sparse Byte := [(0xFF04, 1), (0xFF14, 1)]
     let p := snapOf 27 [27]
     let f : Bounds := ⟨0, 0, 0, 0⟩
     let s : State := { inMode .idle with pend := [p], cal := { Cal.reset with copying := [23], banks := [(23, bank)] } }
     s.geoCheck 23 (sget (fun _ => []) 23 s.cal.banks) f = .pass ∧ s.geoCheck 23 [] f = .bad 2 0 ∧ p.notReady = [4 + 23] ∧ p.failed = none ∧
       intOf (p.word (R.TSC_H_FXMIN 23)) = 0 ∧ intOf (p.word (R.TSC_H_FXMAX 23)) = 0 ∧ intOf (p.word (R.TSC_H_FYMAX 23)) = 0) := by
  decide +kernel

theorem witness_DataCommands :
    (∀ p ∈ [(Mode.safe, cmdOf 0x01 0 0 [16]), (.idle, cmdOf 0x01 0 0 [1]), (.expose, cmdOf 0x01 0 0 [20]), (.idle, cmdOf 0x01 0 0 [3]),
      (.boot, cmdOf 0x03 0 0 []), (.boot, cmdOf 0x03 0 12 []), (.idle, cmdOf 0x03 0 8 []), (.boot, cmdOf 0x04 0 0 []), (.boot, cmdOf 0x04 0 6 []),
      (.boot, cmdOf 0x04 0 4 [0, 1]), (.idle, cmdOf 0x0A 0 0 [0x20]), (.idle, cmdOf 0x0A 0 8 [0x33]), (.safe, cmdOf 0x0A 0 1028 [0x20, 383]),
      (.service, cmdOf 0x0A 0 512 [0x41]), (.boot, cmdOf 0x21 0 0 [0, 0]), (.idle, cmdOf 0x21 0 8 [0x3FFFF9, 8]),
      (.idle, cmdOf 0x21 0 8 [0x3FFFF8, 8]), (.idle, cmdOf 0x20 0 0 [0, 0, 0]), (.idle, cmdOf 0x20 0 256 [2, 0, 1]), (.idle, cmdOf 0x20 0 256 [1, 0, 1]),
      (.idle, cmdOf 0x20 0 512 [0, 0, 2])], (withCmd p.1 p.2).ready 7 p.2.op p.2) ∧
    (inMode .expose).runMode = true ∧ (cmdOf 0x01 0 0 [3]).timed = false ∧ accessOk 0xFFFFFC 1 = true ∧ accessOk 2 1 = false ∧ accessOk 0x1000000 1 = false ∧
    State.reset.bld.holding = false := ⟨allReady_of (by decide +kernel), by decide +kernel⟩

theorem witness_CompressedLoads :
    (∀ p ∈ [(Mode.idle, cmdOf 0x08 0 0 [0, 0]), (.idle, cmdOf 0x08 0 8 [0, 1]), (.service, cmdOf 0x08 0 8 [0, 0]), (.idle, cmdOf 0x09 0 8 [0, 0, 0]),
      (.idle, cmdOf 0x09 0 8 [65535, 2, 0]), (.armed, cmdOf 0x09 0 8 [0, 1, 1]), (.idle, cmdOf 0x09 0 0 [0, 1, 0]),
      (.idle, cmdOf 0x09 0 8 [65535, 1, 0])], (withCmd p.1 p.2).ready 7 p.2.op p.2) ∧ State.reset.nslots = 0 ∧
    (let bs : List Byte := [7, 9]
     let c : Cmd := { cmdOf 0x08 0 24 [8191, 0] with wait := .expand }
     let s := (withCmd .idle c).hostPut c.addr (sbcStored bs true)
     let s : State := { s with hq := { s.hq with sbc := [⟨7, 0, 0, 0, false⟩] } }
     s.cmd 7 = some c ∧ c.op = 0x08 ∧ c.arg 1 = 0 ∧ c.arg 0 < 8192 ∧ c.len = 24 ∧ sbcStep (s.dataIn c c.addr c.len) = .block bs 24 true ∧
       sbcStep ((s.hostPut (c.addr + 16) [6]).dataIn c (c.addr + 0) (c.len - 0)) = .corrupt ∧
       s.hq.sbc.find? (fun x => x.seq = 7) = some ⟨7, 0, 0, 0, false⟩) ∧ State.reset.cmd 7 = none :=
  ⟨allReady_of (by decide +kernel), by decide +kernel⟩

theorem witness_UnitResets :
    (∀ p ∈ ([0, 3, 0x11A, 0x320].map fun t => (Mode.idle, cmdOf 0x30 t 0 [])) ++ [(.boot, cmdOf 0x30 1 0 []), (.expose, cmdOf 0x30 1 0 []),
      (.idle, cmdOf 0x30 1 0 []), (.service, cmdOf 0x30 0x10 0 []), (.expose, cmdOf 0x30 0x10 0 []), (.safe, cmdOf 0x30 0x11 0 []),
      (.expose, cmdOf 0x30 0x31F 0 []), (.idle, cmdOf 0x30 0x119 0 []), (.expose, cmdOf 0x30 0x117 0 [])], (withCmd p.1 p.2).ready 7 p.2.op p.2) ∧
    ([0, 3, 0x11A, 0x320].all fun t => epochPlace t = none) = true ∧ ([1, 2, 0x10, 0x11, 0x119, 0x31F].all fun t => epochPlace t ≠ none) = true ∧
    State.reset.mcpState 0 = 0 ∧ State.reset.mcpState 1 = 1 ∧ (State.reset.setMcp 1 2).mcpState 1 ≠ 1 ∧
    State.reset.headOfSeq 23 = some 23 ∧ State.reset.bsqState 23 = 0 ∧ State.reset.held 23 = none ∧ State.reset.headOfSeq 25 = none ∧
    State.reset.inReset 0x119 = false ∧ ({ State.reset with tsc := { Tsc.reset with holds := [(23, some 0)] } }).held 23 ≠ none ∧
    ([23, 25].all fun q => ({ State.reset with flt := { Flt.reset with resets := [(0x100 + q, [])] } }).flt.resets = [(0x100 + q, [])]) = true :=
  ⟨allReady_of (by decide +kernel), by decide +kernel⟩

/-- Lane 23 in state `st` with the authentication `a`. -/
def onLane (st : Nat) (a : Option Auth) : State :=
  ((inMode .idle).setFld (R.LN_STAT 23) F.LN_STAT_STATE st).setLane 23 { Lane.reset with auth := a }

theorem witness_HeadTrust :
    (let a : Auth := { step := 18, nonce := [], cert := [], sig := [], failed := false, seq := none, at_ := 0, again := false }
     let b : Auth := { a with step := 0, failed := true }
     let c (t : Nat) : Cmd := cmdOf 0x31 t 0 []
     let s : State := { onLane Ln.service none with hq := { Hq.reset with cmds := [c 23] } }
     (∀ p ∈ [(Mode.idle, c 24), (.idle, c 23)], (withCmd p.1 p.2).ready 7 p.2.op p.2) ∧ (inMode .idle).inService 23 = false ∧
       (isReady s 7 0x31 (c 23) = true ∧ s.inService 23 = true ∧ s.role 23 = 0 ∧ (s.lane 23).auth = none) ∧
       ((onLane Ln.auth (some a)).lane 23).auth = some a ∧ (onLane Ln.auth (some a)).laneState 23 = Ln.auth ∧ 18 ≤ a.step ∧
       (onLane Ln.service (some b)).laneState 23 = Ln.service ∧ b.failed = true ∧ (onLane Ln.service (some b)).role 23 = 0 ∧
       ((({ onLane Ln.auth (some a) with tick := 200000 } : State).arrive 0).now = 100000000 ∧ a.at_ + 100000000 = 100000000) ∧
       ((onLane Ln.auth (some a)).arrive 99).now < 100000000) ∧
    (let s := (onLane Ln.service none).setFld R.LCS_REAUTH F.LCS_REAUTH_PER 1
     s.fld R.LCS_REAUTH F.LCS_REAUTH_PER = 1 ∧ s.lcs.reauthAt + 1000000000 = (({ s with tick := 2000000 } : State).arrive 0).now ∧
       s.inService 23 = true ∧ s.role 23 = 0 ∧ (s.lane 23).auth = none ∧ (∀ h < 24, h ≠ 23 → s.inService h = false)) ∧
    State.reset.fld R.LCS_REAUTH F.LCS_REAUTH_PER = 0 ∧ (∀ h < 24, State.reset.inService h = false) :=
  ⟨⟨allReady_of (by decide +kernel), by decide +kernel⟩, by decide +kernel⟩

/-- An image header that names a body of one byte. -/
def imageHead : List Byte := ([0, 0, 0, 0, 96, 1, 0, 0, 0, 0, 0, 0, 0, 0, 0, 0, 1, 0, 0, 0] : List Nat).map (BitVec.ofNat 8)

theorem witness_FirmwareAndLifeCycle :
    (let c := cmdOf 0x32 0 353 []
     let s := (withCmd .service c).hostPut c.addr imageHead
     (isReady s 7 0x32 c = true ∧ c.path = 0 ∧ 352 ≤ c.len ∧ c.len = hdr (s.hostBytes c.addr c.len) 4 4 + hdr (s.hostBytes c.addr c.len) 16 4 ∧
       s.lcs.update = none ∧ s.flashOpen = false ∧ (s.setFld R.THM_STAT F.THM_STAT_FLWIN 1).flashOpen = true) ∧
       isReady (withCmd .idle (cmdOf 0x32 0 351 [])) 7 0x32 (cmdOf 0x32 0 351 []) = true) ∧
    (let u : FwUpdate := ⟨7, [], 1, 0, 0⟩
     let s : State := { inMode .idle with lcs := { Lcs.reset with update := some u } }
     s.lcs.update = some u ∧ u.step = 0 ∧ s.mcpState (1 - s.activeMcp) = 1 ∧ (s.setMcp 1 3).mcpState (1 - (s.setMcp 1 3).activeMcp) ≠ 1) ∧
    (let s : State := { inMode .idle with lcs := { Lcs.reset with transition := some (2, 4) } }
     s.mode ≠ .boot ∧ fget (fput 0 F.LCS_LC_REQ_GO 1) F.LCS_LC_REQ_GO = 1 ∧ fget (0 : Word) F.LCS_LC_REQ_GO = 0 ∧ s.lcs.transition = some (2, 4) ∧
       s.unlocked = true ∧ 2 = s.lc ∧ lcStep 2 4 = true ∧ lcStep 2 1 = false ∧ s.lcs.burned = none ∧ s.fld R.PWR_STAT F.PWR_STAT_VFUSE_LOW = 0 ∧
       (inMode .expose).unlocked = false ∧ (inMode .idle).lcs.transition = none) := by decide +kernel

theorem witness_CorePairs :
    (State.reset.activeMcp = 0 ∧ State.reset.mcpState 0 = 0 ∧ State.reset.mcpState 1 = 1 ∧ (State.reset.setMcp 1 2).mcpState 1 = 2 ∧
      (State.reset.setMcp 0 2).mcpState 0 ≠ 0) ∧
    (let s : State := { withCmd .idle (cmdOf 0x30 1 0 []) with flt := { Flt.reset with handover := [7] } }
     s.handoverDue ≠ [] ∧ (∀ c ∈ s.hq.cmds, c.started = true → c.seq ∈ s.handoverDue) ∧ s.mcpState (1 - s.activeMcp) = 1) ∧
    (let s : State := { withCmd .idle (cmdOf 0x30 1 0 []) with flt := { Flt.reset with handover := [6] } }
     ∃ c ∈ s.hq.cmds, c.started = true ∧ c.seq ∉ s.handoverDue) ∧ State.reset.handoverDue = [] := by decide +kernel

theorem witness_SequencersAndMemoryErrors :
    (let s := inMode .expose
     s.bsqState 25 = 1 ∧ (s.setBsqState 25 2).bsqState 25 = 2 ∧ (s.setBsqState 25 3).bsqState 25 = 3 ∧ s.bsqState 0 = 0 ∧ s.headOfSeq 0 = some 0 ∧
       (s.seq 0).running = false ∧ sget (fun _ => 0) 0 s.tsc.removedAt ≠ s.tick + 1 ∧ s.freeSpare = some 24 ∧
       ((s.setBsqState 24 2).setBsqState 25 2).freeSpare = none) ∧
    (let s : State := { inMode .idle with flt := { Flt.reset with ceReported := 3, ceSince := [0, 0] } }
     bit s.flt.ceReported 1 = true ∧ s.now < s.flt.ceSince.getD 1 0 + 1000000) ∧
    ([0, 2 ^ 40 - 1].all fun a => State.reset.dramRegionOf a ≠ some 3 && (a < 2 ^ 26 || State.reset.dramRegionOf a ≠ some 4)) = true := by decide +kernel


/-! ## Boot, power, axes and heat (O47 to O54) -/

theorem witness_ResetAndBoot :
    (let s : State := { State.reset with pwr := ⟨false, false, false, false, [], some 0, 0, false⟩ }
     s.pwr.pfailAt ≠ none ∧ s.fld R.PWR_STAT F.PWR_STAT_PFAIL = 0 ∧ s.pwr.highAt + 10000000 ≤ ((({ s with tick := 20000 } : State)).arrive 0).now ∧
       (s.setFld R.PWR_MON F.PWR_MON_RAIL 0x3FF).fld R.PWR_MON F.PWR_MON_RAIL = 0x3FF) ∧
    State.reset.pwr.pfailAt = none ∧ State.reset.lcs.burned = none ∧ State.reset.pwr.held = false ∧
    (State.reset.deviceReset 2).pwr.held = true ∧ State.reset.booting = true ∧ (inMode .idle).booting = false ∧
    State.reset.pwr.time = false ∧ State.reset.pwr.dram = [] ∧
    (let s : State := { State.reset with pwr := ⟨false, true, true, false, [(0, 2, 65535)], none, 0, false⟩ }
     s.booting = true ∧ s.pwr.core = true ∧ s.pwr.image = false ∧ s.fld R.LCS_STAT F.LCS_STAT_BOOTERR = 0 ∧ s.lcs.images = [] ∧
       s.pwr.dram = [(0, 2, 65535)] ∧ 1 ≠ 0) ∧
    (let s : State := { State.reset with pwr := ⟨false, true, true, true, [(0, 2, 65535), (1, 0, 0)], none, 0, false⟩ }
     s.booting = true ∧ s.lc ≠ 4 ∧ s.pwr.core = true ∧ s.pwr.time = true ∧ s.pwr.image = true ∧ s.pwr.dram.length = 2 ∧
       s.fld R.PWR_STAT F.PWR_STAT_DRAM_FAIL = 0) := by decide +kernel

theorem witness_PowerFailAndClocks :
    (∀ m ∈ [Mode.boot, .idle, .expose], (inMode m).pwr.held = false ∧ (inMode m).fld R.PWR_STAT F.PWR_STAT_PFAIL = 0 ∧
      (inMode m).pwr.pfailAt = none ∧ (inMode m).mode = m) ∧ safeFrom .expose = true ∧ safeFrom .idle = false ∧
    (let s := (inMode .idle).setFld R.PWR_STAT F.PWR_STAT_SEALED 1
     let s : State := { s with pwr := { s.pwr with pfailAt := some 0 } }
     s.pwr.pfailAt ≠ none ∧ s.pwr.held = false ∧ s.fld R.PWR_STAT F.PWR_STAT_PFAIL = 0 ∧ s.fld R.PWR_STAT F.PWR_STAT_SEALED = 1 ∧
       0 + 1000000 ≤ (({ s with tick := 2000 } : State).arrive 0).now ∧ (({ s with tick := 1999 } : State).arrive 499).now < 0 + 1000000 ∧
       0 + 1800000 ≤ (({ s with tick := 3600 } : State).arrive 0).now ∧ (({ s with tick := 3599 } : State).arrive 499).now < 0 + 1800000) ∧
    (State.reset.setFld R.PWR_STAT F.PWR_STAT_PFAIL 1).fld R.PWR_STAT F.PWR_STAT_PFAIL = 1 ∧ (State.reset.deviceReset 0).pwr.held = true := by
  decide +kernel

/-- Axis `a` enabled as type `type` and valid, with two waymarks, in EXPOSE. -/
def onAxis (a type : Nat) (f : Axis → Axis) : State :=
  let cfg := fput (fput (fput 0 F.AXF_AX_CFG_EN 1) F.AXF_AX_CFG_TYPE type) F.AXF_AX_CFG_WMLEN 2
  let s := ((inMode .expose).setLive (R.AXF_AX_CFG a) cfg).setFld (R.AXF_AX_STAT a) F.AXF_AX_STAT_VALID 1
  s.setAxis a (f Axis.reset)

theorem witness_WaymarksAndProducts :
    (∀ p ∈ [(Mode.idle, cmdOf 0x10 8 0 [0]), (.idle, cmdOf 0x10 7 0 [0]), (.idle, cmdOf 0x10 7 15 [1]), (.idle, cmdOf 0x10 7 16 [1]),
      (.armed, cmdOf 0x11 0 0 [0]), (.expose, cmdOf 0x11 0 31 [1]), (.hold, cmdOf 0x11 0 131104 [4097])], (withCmd p.1 p.2).ready 7 p.2.op p.2) ∧
    (let c := cmdOf 0x10 7 16 [1]
     let s : State := { onAxis 7 0 id with hq := { Hq.reset with cmds := [c] } }
     let w (i e st : Nat) : List Byte := ([i, 0, 0, 0, 0, 0, e, 0, 0, 0, st, 0, 0, 0, 0, 0] : List Nat).map (BitVec.ofNat 8)
     isReady s 7 0x10 c = true ∧ s.wmLen c.target = 2 ∧ leNat ((w 1 1 3).take 2) < 2 ∧ 2 ≤ leNat ((w 2 0 0).take 2) ∧ 4 ≤ leNat (((w 0 0 4).drop 10).take 2) ∧
       (w 1 0 0).length = 16 ∧ leNat (((w 1 0 0).drop 6).take 1) % 2 = 0 ∧ leNat (((w 1 1 0).drop 6).take 1) % 2 = 1 ∧ State.reset.axValid 7 = false) ∧
    (let c := cmdOf 0x11 0 32 [1]
     let s : State := { (inMode .expose).setLive (R.AXF_PDET_CFG 3) (fput 0 F.AXF_PDET_CFG_EN 1) with hq := { Hq.reset with cmds := [c] } }
     let s := (s.wr R.TSC_NTILES 1).sramPut (0x2000000 : Nat) (List.replicate 64 0xFF)
     let s := s.hostPut c.addr ([0, 0, 3, 0] : List Byte)
     let w := s.fld R.AXF_PQ_STAT F.AXF_PQ_STAT_WPTR
     isReady s 7 0x11 c = true ∧ s.pushBad (s.hostBytes c.addr 32) = false ∧ s.prodState w = 0 ∧ bit (leNat (((s.hostBytes c.addr 32).drop 2).take 1)) 2 = false ∧
       w < 4096 ∧ State.reset.pushBad (s.hostBytes c.addr 32) = true) ∧
    (let s := (inMode .expose).setLive (R.AXF_PDET_CFG 3) (fput (fput 0 F.AXF_PDET_CFG_EN 1) F.AXF_PDET_CFG_BLANK 5)
     let t : State := { s with axf := { s.axf with lastPd := [(3, some 4)] } }
     t.pdFld 3 F.AXF_PDET_CFG_EN = 1 ∧ t.mode ≠ .boot ∧ sget (fun _ => none) 3 t.axf.lastPd = some 4 ∧ t.pdFld 3 F.AXF_PDET_CFG_BLANK ≠ 0 ∧
       (diff48 (t.pos (t.pdFld 3 F.AXF_PDET_CFG_AXIS)) 4).natAbs ≤ t.pdFld 3 F.AXF_PDET_CFG_BLANK ∧ State.reset.pdFld 3 F.AXF_PDET_CFG_EN = 0) ∧
    (let s := (inMode .expose).setLive (R.AXF_PDET_CFG 3) (fput 0 F.AXF_PDET_CFG_EN 1)
     let t := ((s.setFld R.AXF_PQ_STAT F.AXF_PQ_STAT_INFLIGHT 1).sramPut (prodAddr 0 + 2) [3]).sramPut (prodAddr 0 + 38) [1]
     t.pdFld 3 F.AXF_PDET_CFG_EN = 1 ∧ t.pdFld 3 F.AXF_PDET_CFG_BLANK = 0 ∧ t.oldestWait 3 = some 0 ∧ s.oldestWait 3 = none ∧
       s.pdFld 3 F.AXF_PDET_CFG_NOREC_REJ = 0) ∧
    State.reset.prodState 4095 ≠ 2 ∧
    (let s := ((onAxis 0 0 id).sramPut (prodAddr 4095 + 38) [2]).setFld R.AXF_PQ_CFG F.AXF_PQ_CFG_QREC 0
     s.prodState 4095 = 2 ∧ s.axValid (s.pdFld (s.sramNat (prodAddr 4095 + 2) 1 % 4) F.AXF_PDET_CFG_AXIS) = true ∧
       0 ≤ diff48 (s.pos 0) (s.prodPd 4095 + intOf (s.lv (R.AXF_PDET_REJOFS 0))) ∧ s.fld R.AXF_PQ_CFG F.AXF_PQ_CFG_QREC = 0) :=
  ⟨allReady_of (by decide +kernel), by decide +kernel⟩

theorem witness_MediumAndNodes :
    (∀ p ∈ [(Mode.idle, cmdOf 0x12 512 0 [1, 0, 0]), (.idle, cmdOf 0x12 511 0 [5, 0, 0]), (.idle, cmdOf 0x12 0 0 [2, 1, 0]), (.idle, cmdOf 0x12 0 0 [4, 1, 0]),
      (.idle, cmdOf 0x12 0 0 [3, 0, 0]), (.idle, cmdOf 0x12 511 0 [0x100, 0, 0])], (withCmd p.1 p.2).ready 7 p.2.op p.2) ∧
    State.reset.nodeUp 511 = false ∧
    (let c := cmdOf 0x12 511 0 [1, 5, 0]
     let s := ((inMode .expose).setFld (R.LN_STAT 31) F.LN_STAT_STATE Ln.service).setFld (R.LN_CHAIN 31) F.LN_CHAIN_PRESENT 0xFFFF
     let s : State := { s with hq := { Hq.reset with cmds := [c] } }
     isReady s 7 0x12 c = true ∧ s.nodeUp 511 = true ∧ (∀ m < 4, s.fld (R.AXF_MD_STAT m) F.AXF_MD_STAT_ACTIVE = 0) ∧
       (let t := s.setFld (R.AXF_MD_STAT 3) F.AXF_MD_STAT_ACTIVE 1
        t.fld (R.AXF_MD_STAT 3) F.AXF_MD_STAT_ACTIVE = 1 ∧ t.lfld (R.AXF_MD_CFG 3) F.AXF_MD_CFG_NODE = 0)) ∧
    ([(1, 16), (3, 16), (2, 15), (4, 0)].all fun x =>
      let s := (inMode .expose).setFld (R.AXF_MD_STAT 3) F.AXF_MD_STAT_PHASE x.1
      let s : State := { s with axf := { s.axf with md := [(3, ⟨7, x.2, [], true, 9⟩)] } }
      s.fld (R.AXF_MD_STAT 3) F.AXF_MD_STAT_PHASE = x.1 && (s.md 3).moving && (s.md 3).still = x.2 && (s.md 3).back ≠ 0 && (s.md 3).waiting = []) = true ∧
    (let s := (inMode .expose).setFld (R.AXF_AI_CFG 7) F.AXF_AI_CFG_EN 1
     s.fld (R.AXF_AI_CFG 7) F.AXF_AI_CFG_EN = 1 ∧ (s.arrive 499).now < sget (fun _ => 0) 7 s.axf.aiAt + (s.fld R.AXF_AI_TMO F.AXF_AI_TMO_TMO + 1) * 1000 ∧
       sget (fun _ => 0) 7 s.axf.aiAt + (s.fld R.AXF_AI_TMO F.AXF_AI_TMO_TMO + 1) * 1000 ≤ (({ s with tick := 200000000 } : State).arrive 0).now) ∧
    (let s := ((inMode .expose).setFld (R.LN_STAT 31) F.LN_STAT_STATE Ln.linked).setFld (R.AXF_AI_CFG 7) F.AXF_AI_CFG_EN 1
     let t := s.setFld (R.AXF_AI_CFG 7) F.AXF_AI_CFG_NODE 511
     talks (s.laneState 31) = true ∧ (0x702#32).toNat % 256 = 2 ∧ (0x702#32).toNat / 256 % 8 = 7 ∧ t.fld (R.AXF_AI_CFG 7) F.AXF_AI_CFG_NODE = 16 * 31 + 15 % 16 ∧
       t.fld (R.AXF_AI_CFG 7) F.AXF_AI_CFG_EN = 1 ∧ s.fld (R.AXF_AI_CFG 7) F.AXF_AI_CFG_NODE ≠ 16 * 31 + 15 % 16) :=
  ⟨allReady_of (by decide +kernel), by decide +kernel, by decide +kernel, by decide +kernel, by decide +kernel, by decide +kernel⟩

theorem witness_AxisFeedback :
    State.reset.axValid 7 = false ∧ State.reset.axOn 7 = false ∧
    (let s := (onAxis 7 0 id).setLive (R.AXF_AX_CFG 7) (fput 0 F.AXF_AX_CFG_DIRINV 1)
     s.axValid 7 = true ∧ (s.axis 7).corr = none ∧ (s.axis 7).judge = false ∧ s.wmLen 7 = 0 ∧ s.axf.rejects = [] ∧
       (∀ c < 4, (s.cam c).compares = []) ∧ s.lfld (R.AXF_AX_CFG 7) F.AXF_AX_CFG_DIRINV = 1) ∧
    ([0, 1, 2, 3].all fun ty => (onAxis 7 ty id).axOn 7 && (onAxis 7 ty id).axType 7 = ty && (onAxis 7 ty id).mode ≠ .boot) = true ∧
    ([0, 1, 2, 3].all fun ab => ((onAxis 7 0 fun x => { x with ab := ab }).axis 7).ab % 4 = ab) = true ∧
    ([1, 3, 2, 6, 4, 5].all fun c => hallPlace ((onAxis 7 3 fun x => { x with hall := c }).axis 7).hall < 6) = true ∧ hallPlace 0 = 6 ∧ hallPlace 7 = 6 ∧
    hallPlace 3 = (hallPlace 1 + 1) % 6 ∧ hallPlace 5 = (hallPlace 4 + 1) % 6 ∧ hallPlace 1 = (hallPlace 5 + 1) % 6 ∧
    (hallPlace 6 ≠ hallPlace 1 ∧ hallPlace 6 ≠ (hallPlace 1 + 1) % 6 ∧ hallPlace 1 ≠ (hallPlace 6 + 1) % 6) ∧
    (let s := ((onAxis 7 1 fun x => { x with phase := some 0 }).setFld (R.CAL_AX_TRIM1 7) F.CAL_AX_TRIM1_CGAIN 0x4000).setLive (R.AXF_AX_CFG2 7)
       (fput 0 F.AXF_AX_CFG2_HIGH 0xFFFF)
     let t0 := s.rd (R.CAL_AX_TRIM0 7)
     let v (sv : Int) := satI 16 (sv - sgn 16 (fget t0 F.CAL_AX_TRIM0_SOFS))
     let c (cv : Int) := satI 16 (fdiv ((cv - sgn 16 (fget t0 F.CAL_AX_TRIM0_COFS)) * s.fld (R.CAL_AX_TRIM1 7) F.CAL_AX_TRIM1_CGAIN + 8192) 16384)
     (s.axis 7).phase = some 0 ∧ (s.axis 7).ampBad = 0 ∧ v 0 = 0 ∧ c 20000 = 20000 ∧ sgn 12 (wrap 12 ((sinCosPhase 0 20000 : Int) - (0 : Nat))) = 0 ∧
       (fget (s.lv (R.AXF_AX_CFG2 7)) F.AXF_AX_CFG2_LOW : Int) ≤ fdiv (0 * 0 + 20000 * 20000) 32768 ∧
       fdiv (0 * 0 + 20000 * 20000) 32768 ≤ fget (s.lv (R.AXF_AX_CFG2 7)) F.AXF_AX_CFG2_HIGH) ∧
    (let s (f : Option Nat) := (onAxis 7 2 fun x => { x with frame := f }).setLive (R.AXF_AX_CFG2 7) 48
     (s none).axOn 7 = true ∧ (s none).axType 7 = 2 ∧ ((s none).lv (R.AXF_AX_CFG2 7)).toNat % 64 = 48 ∧ bit ((s none).lv (R.AXF_AX_CFG2 7)).toNat 6 = false ∧
       ((s none).axis 7).frame = none ∧ ((s (some 0)).axis 7).frame = some 0 ∧ (sgn 48 (wrap 48 ((2 ^ 46 : Nat) - 0))).natAbs ≤ 2 ^ 46 ∧
       2 ^ 46 < (sgn 48 (wrap 48 ((2 ^ 46 + 1 : Nat) - 0))).natAbs) ∧
    ((onAxis 7 1 fun x => { x with ampBad := 4 }).axis 7).ampBad = 4 ∧ (State.reset.axis 7).ampBad ≠ 4 ∧
    (let s := onAxis 7 2 fun x => { x with ssiBad := 4 }
     s.axValid 7 = true ∧ 4 ≤ (s.axis 7).ssiBad) ∧
    (let s := onAxis 7 1 fun x => x
     (s.axis 7).ssiBad < 4 ∧ (s.setFld (R.AXF_AX_STAT 7) F.AXF_AX_STAT_AMPFLT 1).fld (R.AXF_AX_STAT 7) F.AXF_AX_STAT_AMPFLT = 1 ∧
       s.fld (R.AXF_AX_STAT 7) F.AXF_AX_STAT_AMPFLT = 0 ∧ s.fld (R.AXF_AX_STAT 7) F.AXF_AX_STAT_OVSP = 0 ∧ (s.axis 7).good = 0) ∧
    ([63, 64].all fun g =>
      let s := (onAxis 7 1 fun x => { x with good := g }).setFld (R.AXF_AX_STAT 7) F.AXF_AX_STAT_VALID 0
      s.axOn 7 && !s.axValid 7 && s.mode ≠ .boot && (s.axis 7).good = g && s.axType 7 = 1) = true ∧
    ([0, 1, 2, 3].all fun m => [false, true].all fun due => [0, 100].all fun ref =>
      let cfg := fput (fput 0 F.AXF_AX_CFG_EN 1) F.AXF_AX_CFG_IDXMODE m
      let s := ((onAxis 7 0 fun x => { x with refDue := due }).setLive (R.AXF_AX_CFG 7) cfg).setLive (R.AXF_AX_IDXREF_LO 7) (BitVec.ofNat 32 ref)
      s.axOn 7 && decide (s.axType 7 ≤ 1) && s.axValid 7 && s.lfld (R.AXF_AX_CFG 7) F.AXF_AX_CFG_IDXMODE = m && (s.axis 7).refDue = due &&
        (decide (diff48 (s.pos 7) (expectedIndex (s.pos 7) (sgn 48 ((s.lv (R.AXF_AX_IDXREF_LO 7)).toNat +
          (s.lv (R.AXF_AX_IDXREF_HI 7)).toNat % 65536 * 2 ^ 32)) (s.lv (R.AXF_AX_IDXPER 7)).toNat) = 0) == (ref = 0))) = true ∧
    ((onAxis 7 0 id).axis 7).pubT < (({ onAxis 7 0 id with tick := 2 } : State).arrive 0).now / 1000 * 1000 ∧
    (let s (on : Nat) (p : Pulse) : State := { inMode .expose with axf := { Axf.reset with cmpOn := on, pulses := [p] } }
     let covered (s : State) := s.axf.pulses.any fun p => p.out = 7 && decide (p.first ≤ (s.arrive 5).fine 0) && decide (p.last > (s.arrive 5).fine 0)
     covered (s 0 ⟨7, 5 * 65536, 5 * 65536 + 1⟩) = true ∧ bit (s 0 ⟨7, 0, 0⟩).axf.cmpOn 7 = false ∧ covered (s 128 ⟨7, 0, 5 * 65536⟩) = false ∧
       bit (s 128 ⟨7, 0, 0⟩).axf.cmpOn 7 = true) := by decide +kernel

theorem witness_RegistrationAndThermal :
    (∀ p ∈ [(Mode.service, cmdOf 0x28 0 0 [0, 1]), (.service, cmdOf 0x28 0 0 [3, 1]), (.service, cmdOf 0x28 0 0 [1, 0]), (.service, cmdOf 0x28 0 0 [2, 0]),
      (.service, cmdOf 0x28 0 0 [1, 0xFFFFFF]), (.service, cmdOf 0x28 0 0 [2, 255])], (withCmd p.1 p.2).ready 7 p.2.op p.2) ∧
    State.reset.cal.kind = 0 ∧ (inMode .service).fld (R.CAM_CFG ((inMode .service).fld R.CAL_CFG F.CAL_CFG_CAM)) F.CAM_CFG_SRC ≠ 1 ∧
    (let s : State := { inMode .service with tick := 2000000000, cal := { Cal.reset with kind := 1, heads := [23], todo := [0], fids := [(5, 5)] } }
     let cam := s.fld R.CAL_CFG F.CAL_CFG_CAM
     let y := s.arrive 499
     let bound := y.setFld (R.CAM_CFG cam) F.CAM_CFG_HEAD 23
     let x := slotAfter (y.now * 65536) + s.lfld (R.CAM_TDLY cam) F.CAM_TDLY_TDLY
     let on : State := bound.setFld (R.CAM_CFG cam) F.CAM_CFG_EN 1
     s.cal.heads = [23] ∧ s.cal.kind = 1 ∧ s.cal.trig = none ∧ s.cal.since + s.fld R.CAL_CFG F.CAL_CFG_SETTLE * 1000 ≤ y.now ∧
       bound.camOn cam = false ∧ (s.cam cam).due = [] ∧
       (on.camOn cam = true ∧ (((on.camDecide cam 0 0 x).cam cam).due.find? (fun d => d.at_ = x)).isSome = true) ∧
       (State.reset.arrive 0).now < s.cal.since + s.fld R.CAL_CFG F.CAL_CFG_SETTLE * 1000) ∧
    (let s : State := { inMode .service with cal := { Cal.reset with kind := 1, heads := [23], todo := [0], fids := [(5, 5)], trig := some (0, 0) } }
     let cam := s.fld R.CAL_CFG F.CAL_CFG_CAM
     let base := 0x3300000 + 0x40000 * cam + 0x4000
     let t := (s.wr (R.CAM_FNUM cam) 1).sramPut base (leBytes 1 4 ++ [0, 0, 1, 0] ++ leBytes 0 52 ++ leBytes 1 4)
     let u := t.sramPut (base + 1088) (leBytes 16 4 ++ leBytes 1 8)
     s.cal.trig = some (0, 0) ∧ s.cal.todo = [0] ∧ s.fidRecord cam 0 0 = none ∧
       (t.fidRecord cam 0 0).any (fun r => (t.fidOffset r).isNone) = true ∧ (u.fidRecord cam 0 0).any (fun r => (u.fidOffset r).isSome) = true ∧
       (let v := s.setCam cam { s.cam cam with due := [⟨9, 0, 0, 0, []⟩] }
        v.fidRecord cam 0 0 = none ∧ (v.cam cam).due.any (fun t => t.tag = 0) = true)) ∧
    State.reset.cal.trig = none ∧
    (let e (n : Nat) (v : Bool) : Extremes := ⟨-5, 5, -5, 5, n, v⟩
     let s (e : Extremes) : State := { inMode .service with tick := 2000000, cal := { Cal.reset with kind := 2, heads := [7], extremes := [(7, some e)] } }
     (∀ x ∈ [e 65535 true, e 65536 false, e 65536 true], (s x).cal.kind = 2 ∧ (s x).cal.since + 1000000000 ≤ ((s x).arrive 0).now ∧ (s x).cal.heads = [7] ∧
       sget (fun _ => none) 7 (s x).cal.extremes = some x ∧ x.cMin < x.cMax)) ∧
    State.reset.chanBroken 7 = false ∧ bit 128 7 = true :=
  ⟨allReady_of (by decide +kernel), by decide +kernel⟩

/-- EXPOSE with head 23 alone in the set, two tiles of which the first may run and is eligible there. -/
def oneHead : State :=
  let s := (inMode .expose).setFld R.TSC_HEADS F.TSC_HEADS_LIVE (2 ^ 23)
  let s := (s.wr R.TSC_NTILES 2).sramPut 0x2000000 (List.replicate 64 0)
  let s := (s.sramPut 0x2000024 (leBytes (2 ^ 23) 4)).setStatus 0 (BitVec.ofNat 32 Ts.ready)
  s.setStatus 1 (BitVec.ofNat 32 Ts.waiting)


theorem witness_SchedulerRounds :
    (let s := oneHead
     1 < s.ntiles ∧ s.ntiles ≤ 65536 ∧ s.tileState 1 = Ts.waiting ∧ (s.tileD 1).dt = false ∧ (s.tileD 1).de = false) ∧
    (let x := (State.reset.arrive 0).roundTiles
     ({ x with tsc := { x.tsc with round := x.tsc.round + 1 } } : State).grantMode = none) ∧
    (let x := (oneHead.arrive 0).roundTiles
     let y : State := { x with tsc := { x.tsc with round := x.tsc.round + 1 } }
     y.grantMode = some false ∧ (List.range 24).filter y.requests = [23] ∧ ((y.choice false 23).1.isSome && !(y.choice false 23).2) = true ∧
       y.stuckNow false = false) ∧
    (let j : Job := ⟨4095, 0, none, none⟩
     let s : State := { oneHead with tsc := { Tsc.reset with jobList := [j] } }
     s.tsc.jobList.find? (fun x => x.rcd = 4095) = some j ∧ (∀ h < 24, s.jobHead j h = decide (h = 23)) ∧ (s.arrive 0).window j 23 = none ∧
       (let t := ((s.setAxis 0 { s.axis 0 with pubV := 65536 }).sramPut (prodAddr 4095 + 32) (leBytes (2 ^ 48 - 2 ^ 30) 6))
        ((t.arrive 499).window j 23).any (fun w => decide (w.2 ≤ (t.arrive 499).nowFine)) = true)) ∧
    (let q : Seq := Seq.reset 23
     let c : Ctx := ⟨0, none, 23, 3, 0, 0, 0, 0, 0, ⟨0, 0, 0⟩, 0, none, q⟩
     let s := (inMode .expose).setSeq 23 { q with running := true, act := .guardWait }
     let s : State := { s with tsc := { s.tsc with joining := [(23, some c)] } }
     let n := s.fld R.TSC_CFG F.TSC_CFG_GUARD_CLR + 1
     let m := s.fld R.TSC_CFG2 F.TSC_CFG2_GUARD_TMO + 1
     let t (k : Nat) : State := { s with tsc := { s.tsc with clear := [(23, k)], stopTicks := [(23, k)] } }
     s.seqOf 23 = 23 ∧ sget (fun _ => none) 23 s.tsc.joining = some c ∧ c.job = none ∧ (s.seq 23).running = true ∧ (s.seq 23).act = .guardWait ∧
       (s.seq 23).planDone = true ∧ n ≤ sget (fun _ => 0) 23 (t n).tsc.clear ∧ sget (fun _ => 0) 23 (t (n - 1)).tsc.clear < n ∧
       m ≤ sget (fun _ => 0) 23 (t m).tsc.stopTicks ∧ sget (fun _ => 0) 23 (t (m - 1)).tsc.stopTicks < m ∧
       sget (fun _ => none) 23 State.reset.tsc.joining = none) ∧
    (let s := oneHead.setFld (R.LN_STAT 22) F.LN_STAT_STATE Ln.service
     bit (0xC00000#32).toNat 23 = true ∧ s.liveHead 23 = true ∧ s.inService 22 = true ∧ s.inService 23 = false ∧ bit (0xC00000#32).toNat 0 = false) ∧
    (let s := (inMode .expose).setSeq 23 { Seq.reset 23 with running := true, joinAt := 1000 }
     (s.seq (s.seqOf 23)).running = true ∧ (s.seq (s.seqOf 23)).guarded = false ∧ 2 * (s.seq (s.seqOf 23)).joinAt ≤ 5 * (s.arrive 400).now ∧
       5 * (s.arrive 399).now < 2 * (s.seq (s.seqOf 23)).joinAt) ∧
    fget (fput 0 F.TSC_EVT_POST_GO 1) F.TSC_EVT_POST_GO = 1 ∧ fget (0 : Word) F.TSC_EVT_POST_GO = 0 ∧ (inMode .service).mode = .service ∧
    fget (fput 0 F.TSC_SVC_GO 1) F.TSC_SVC_GO = 1 ∧ fget (0 : Word) F.TSC_SVC_GO = 0 := by decide +kernel

/-- Lane `n` in state `st`, as `f` makes it, in EXPOSE. -/
def laneAt (n st : Nat) (f : Lane → Lane) : State := ((inMode .expose).setFld (R.LN_STAT n) F.LN_STAT_STATE st).setLane n (f Lane.reset)

theorem witness_DriveLoopsAndTrace :
    (let s := inMode .expose
     let ready := fput 0 F.BLD_CA_CTL_READY 1
     let swap := fput 0 F.BLD_CA_CTL_SWAP 1
     fget ready F.BLD_CA_CTL_READY = 1 ∧ fget ready F.BLD_CA_CTL_SWAP = 0 ∧ fget swap F.BLD_CA_CTL_READY = 0 ∧ fget swap F.BLD_CA_CTL_SWAP = 1 ∧
       s.caLocked 7 = false ∧ (running 5 [] fun q => { q with colRun := { ColRun.none with active := true, area := 7, copy := 1 } }).caLocked 7 = true ∧
       s.caReady 7 (1 - s.caActive 7) = false ∧ (s.wr (R.BLD_CA_STAT 7) 6).caReady 7 (1 - (s.wr (R.BLD_CA_STAT 7) 6).caActive 7) = true) ∧
    ({ State.reset with glb := { State.reset.glb with latched := true } } : State).forceZero = true ∧
    (let s := ((inMode .expose).setFld (R.BLD_CLASS_NDIAG 0) F.BLD_CLASS_NDIAG_PRB_AFTER 2).setFld (R.BLD_H_BCFG 23) F.BLD_H_BCFG_PROBE_CAP 1
     let s := (s.setFld (R.BLD_CLASS_DIAG2 0) F.BLD_CLASS_DIAG2_DIAG_EN 1).setEmitter 23 7 { Emitter.reset with bare := 2 }
     s.classOfBeamlet 23 7 = 0 ∧ s.fld (R.BLD_CLASS_NDIAG 0) F.BLD_CLASS_NDIAG_PRB_AFTER = 2 ∧ (s.emitter 23 7).bare = 2 ∧ (s.emitter 23 7).probe = none ∧
       bit (s.fld (R.BLD_H_FMASK 23) F.BLD_H_FMASK_BEAMLETS) 7 = false ∧ s.fld (R.BLD_H_BCFG 23) F.BLD_H_BCFG_PROBE_CAP = 1 ∧ s.forceZero = false ∧
       s.emitMode = true ∧ s.diagOn 23 7 = true) ∧
    (let s := ((inMode .expose).setFld (R.BLD_CLASS_DIAG2 0) F.BLD_CLASS_DIAG2_DIAG_EN 1).setFld (R.BLD_CLASS_NDIAG 0) F.BLD_CLASS_NDIAG_NDIAG 1
     let t (k : Nat) : State := { s with tick := k }
     s.fld (R.BLD_CLASS_NDIAG 0) F.BLD_CLASS_NDIAG_NDIAG = 1 ∧ s.classOfBeamlet 23 7 = 0 ∧ (s.emitter 23 7).unverified = false ∧ s.diagOn 23 7 = true ∧
       max (s.emitter 23 7).lastValid s.bld.diagSince + 1 * 1000 ≤ (t 1000).tick ∧ (t 999).tick < max (s.emitter 23 7).lastValid s.bld.diagSince + 1 * 1000 ∧
       (s.setFld (R.BLD_CLASS_NDIAG 0) F.BLD_CLASS_NDIAG_NDIAG 0).fld (R.BLD_CLASS_NDIAG 0) F.BLD_CLASS_NDIAG_NDIAG = 0) ∧
    (let s := inMode .expose
     let n := s.fld R.FLT_CFG F.FLT_CFG_RETIRE + 1
     let t (k : Nat) : State := { s with flt := { s.flt with gsgRun := [(gsgKey 23 2, k)] } }
     bit (s.fld (R.FLT_GSG 23) F.FLT_GSG_RETIRED) 2 = false ∧ n ≤ sget (fun _ => 0) (gsgKey 23 2) (t n).flt.gsgRun ∧
       sget (fun _ => 0) (gsgKey 23 2) (t (n - 1)).flt.gsgRun < n) ∧
    ([3, 4, 5].all fun st => (laneAt 23 st id).role 23 = 0 && framing ((laneAt 23 st id).laneState 23) &&
      decide (((laneAt 23 st id).lane 23).launched ≤ (laneAt 23 st id).tick + 1)) = true ∧ framing 2 = false ∧ framing 6 = false ∧
    (let s := laneAt 23 5 fun l => { l with launched := 1 }
     s.role 23 = 0 ∧ (s.lane 23).launched ≠ 0 ∧ (s.lane 23).zeroed = false ∧ (s.slice 23).doneTo ≤ 1250 * ((s.lane 23).launched - 1) + 32 * 39) ∧
    State.reset.pwr.time = false ∧ ({ State.reset with pwr := ⟨false, true, true, true, [], none, 0, false⟩ } : State).pwr.time = true ∧
    (evalState [] id).1.evalOf 11 = some (evalState [] id).2 ∧ (inMode .expose).evalOf 11 = none ∧
    ((evalState [] fun e => { e with loop := 191 }).1.evalOf (191 / 16)).any (fun e => e.loop = 191) = true ∧
    (let s := laneAt 23 5 id
     let s := s.sramPut (s.ctlLive + 0x20000 + 16 * 191) [0x80]
     (s.evalOf 11 = none ∧ (s.loopD s.ctlLive 191).en = true ∧ (s.loop 191).round ≤ (s.arrive 0).now / 1000 ∧ s.inService 23 = true ∧ s.engIdle 11 = false ∧
       (s.arrive 0).sample 23 14 0 = none)) ∧
    (let s := inMode .expose
     (s.arrive 0).now / 1000 % ((s.loopD s.ctlLive 207).div + 1) = 0 ∧ (s.loop 207).round ≤ (s.arrive 0).now / 1000 ∧ (s.loopD s.ctlLive 207).en = false) ∧
    (let s := inMode .expose
     let n := s.fld R.CEN_CFG F.CEN_CFG_MISSLIM + 1
     let t (k : Nat) := s.setLoop 191 { s.loop 191 with missRun := k }
     fget ((t n).loop 191).stat F.CEN_LSTAT_MISSING = 0 ∧ n ≤ ((t n).loop 191).missRun ∧ ((t (n - 1)).loop 191).missRun < n) ∧
    (let s := inMode .expose
     s.fld R.CEN_LIDX F.CEN_LIDX_LOOP < 208 ∧ 208 ≤ (s.setFld R.CEN_LIDX F.CEN_LIDX_LOOP 208).fld R.CEN_LIDX F.CEN_LIDX_LOOP) ∧
    (let s := inMode .expose
     let t := s.setFld (R.CEN_CE_STAT 11) F.CEN_CE_STAT_RESETTING 1
     t.engIdle 11 = true ∧ s.engIdle 11 = false) ∧
    (let s := (inMode .expose).setFld R.CEN_TRC_STAT F.CEN_TRC_STAT_RUN 1
     fget (fput 0 F.CEN_TRC_CTL_STOP 1) F.CEN_TRC_CTL_STOP = 1 ∧ fget (fput 0 F.CEN_TRC_CTL_ARM 1) F.CEN_TRC_CTL_ARM = 1 ∧
       fget (fput 0 F.CEN_TRC_CTL_ARM 1) F.CEN_TRC_CTL_STOP = 0 ∧ (s.setFld R.CEN_TRC_CFG F.CEN_TRC_CFG_MODE 1).fld R.CEN_TRC_CFG F.CEN_TRC_CFG_MODE = 1 ∧
       fget (fput 0 F.CEN_TRC_CTL_TRIGGER 1) F.CEN_TRC_CTL_TRIGGER = 1 ∧ fget (fput 0 F.CEN_TRC_CTL_TRIGGER 1) F.CEN_TRC_CTL_ARM = 0 ∧
       fget (fput 0 F.CEN_TRC_CTL_TRIGGER 1) F.CEN_TRC_CTL_STOP = 0 ∧ s.fld R.CEN_TRC_STAT F.CEN_TRC_STAT_RUN = 1 ∧
       s.fld R.CEN_TRC_STAT F.CEN_TRC_STAT_TRIGGERED = 0 ∧ (s.setFld R.CEN_TRC_STAT F.CEN_TRC_STAT_TRIGGERED 1).fld R.CEN_TRC_STAT F.CEN_TRC_STAT_TRIGGERED = 1 ∧
       s.trc.post = 0 ∧ s.trc.copying = []) ∧
    (let s := (inMode .expose).setFld R.CEN_TRC_SPILL F.CEN_TRC_SPILL_SIZE 1
     let s : State := { s with trc := { Trc.reset with copying := [3] } }
     s.trc.copying = [3] ∧ s.fld R.CEN_TRC_SPILL F.CEN_TRC_SPILL_SIZE ≠ 0) :=
  ⟨by decide +kernel, by decide +kernel, by decide +kernel, by decide +kernel, by decide +kernel, by decide +kernel, by decide +kernel, by decide +kernel, by decide +kernel, by decide +kernel, by decide +kernel, by decide +kernel, by decide +kernel, by decide +kernel, by decide +kernel, by decide +kernel, by decide +kernel, by decide +kernel, by decide +kernel, by decide +kernel, by decide +kernel⟩

/-! ## Lanes, ports, cameras, time and records (O55 to O60) -/

theorem witness_LaneStates :
    (let s (st en test : Nat) : State := (((inMode .idle).setFld (R.LN_STAT 31) F.LN_STAT_STATE st).setFld (R.LN_CFG 31) F.LN_CFG_EN en).setFld
       (R.LN_CFG 31) F.LN_CFG_TEST test
     let v (en test role : Nat) : Word := fput (fput (fput 0 F.LN_CFG_EN en) F.LN_CFG_TEST test) F.LN_CFG_ROLE role
     (s 0 0 0).unlocked = true ∧ (s 0 0 0).laneState 31 = Ln.disabled ∧ (s 0 0 0).fld (R.LN_CFG 31) F.LN_CFG_EN = 0 ∧
       fget (v 1 0 2) F.LN_CFG_EN = 1 ∧ fget (v 1 0 2) F.LN_CFG_TEST = 0 ∧ roleOk 31 (fget (v 1 0 2) F.LN_CFG_ROLE) = true ∧
       roleOk 23 0 = true ∧ roleOk 23 1 = false ∧ roleOk 24 0 = false ∧ roleOk 24 1 = true ∧
       (s 5 1 0).laneState 31 = Ln.service ∧ (s 5 1 0).fld (R.LN_CFG 31) F.LN_CFG_EN = 1 ∧ (s 5 1 0).fld (R.LN_CFG 31) F.LN_CFG_TEST = 0 ∧
       fget (v 1 1 2) F.LN_CFG_TEST = 1 ∧ (s 7 1 1).laneState 31 = Ln.test ∧ (s 7 1 1).fld (R.LN_CFG 31) F.LN_CFG_TEST = 1) ∧
    ((inMode .expose).unlocked = false ∧ (inMode .expose).mode ≠ .boot) ∧
    ([2, 1].all fun k => ((laneAt 31 1 fun l => { l with mkGood := k, mkBad := 2 }).lane 31).mkGood = k) = true ∧
    ((laneAt 31 1 fun l => { l with mkBad := 2 }).laneState 31 = Ln.acquire ∧ ((laneAt 31 1 fun l => { l with mkBad := 2 }).lane 31).mkBad = 2) ∧
    (let s := laneAt 31 1 id
     (s.lane 31).since + 20000000 ≤ (({ s with tick := 40000 } : State).arrive 0).now ∧
       (({ s with tick := 39999 } : State).arrive 499).now < (s.lane 31).since + 20000000) ∧
    (let s (m : Nat) := laneAt 31 3 fun l => { l with meas := m }
     (s 4095).laneState 31 = Ln.delay ∧ ((s 4095).lane 31).meas < 4096 ∧ 4096 ≤ ((s 4096).lane 31).meas ∧
       ((s 0).lane 31).since + 8192 * 500 ≤ (({ s 0 with tick := 8192 } : State).arrive 0).now) ∧
    (let s := ((laneAt 31 6 id).setFld (R.LN_CFG 31) F.LN_CFG_AUTO 1).setFld (R.LN_CFG 31) F.LN_CFG_ROLE 1
     s.laneState 31 = Ln.failed ∧ s.fld (R.LN_CFG 31) F.LN_CFG_AUTO = 1 ∧ roleOk 31 (s.role 31) = true ∧
       (s.lane 31).since + 100000000 ≤ (({ s with tick := 200000 } : State).arrive 0).now) ∧
    (let s := laneAt 23 2 fun l => { l with capsDone := true }
     let t := (s.wr (R.LN_CAP 23 2) (BitVec.ofNat 32 (1 + 8 * 256 + 15000 * 65536))).wr (R.LN_CAP 23 3) 0
     s.laneState 23 = Ln.linked ∧ (s.lane 23).capsDone = true ∧ s.capCause 23 = 1 ∧ t.capCause 23 = 0 ∧
       (t.wr (R.LN_CAP 23 2) (BitVec.ofNat 32 (1 + 8 * 256 + 15001 * 65536))).capCause 23 = 3) ∧
    (let s (sum : Int) := laneAt 23 3 fun l => { l with meas := 4096, sum := sum }
     let y (s : State) := (s.setLane 23 { s.lane 23 with loop := rdiv (s.lane 23).sum (s.lane 23).meas, far := 0, farSum := 0 }).setDelays 23
     (s 0).laneState 23 = Ln.delay ∧ (y (s 0)).delaysFit 23 = true ∧ (y (s (4096 * 2 ^ 40))).delaysFit 23 = false) ∧
    ([63, 64].all fun k => ((laneAt 23 5 fun l => { l with far := k }).lane 23).far = k) = true ∧
    ([1, 5].all fun st => (laneAt 31 st id).laneState 31 = st) = true ∧ (State.reset.setFld (R.LN_CFG 31) F.LN_CFG_AUTO 0).fld (R.LN_CFG 31) F.LN_CFG_AUTO = 0 ∧
    fget (fput 0 F.LN_PEP_CTL_CLR 1) F.LN_PEP_CTL_CLR = 1 ∧
    (let s := laneAt 31 7 fun l => { l with pep := fput 0 F.LN_PEP_CTL_RXPAT 3 }
     s.checkerOn 31 = true ∧ (laneAt 31 7 id).checkerOn 31 = false ∧
       (s.setFld (R.LN_PEP_STAT 31) F.LN_PEP_STAT_LOCK 1).fld (R.LN_PEP_STAT 31) F.LN_PEP_STAT_LOCK = 1) ∧
    (let s := laneAt 31 7 id
     (s.setFld (R.LN_PEP_STAT 31) F.LN_PEP_STAT_INJ_BUSY 1).fld (R.LN_PEP_STAT 31) F.LN_PEP_STAT_INJ_BUSY = 1 ∧
       s.fld (R.LN_PEP_STAT 31) F.LN_PEP_STAT_INJ_BUSY = 0) :=
  ⟨by decide +kernel, by decide +kernel, by decide +kernel, by decide +kernel, by decide +kernel, by decide +kernel, by decide +kernel,
    by decide +kernel, by decide +kernel, by decide +kernel, by decide +kernel, by decide +kernel, by decide +kernel, by decide +kernel,
    by decide +kernel⟩

theorem witness_LaneTraffic :
    ([1, 2, 3, 4, 5, 6].all fun st => (laneAt 31 st id).laneState 31 ≠ Ln.disabled && (laneAt 31 st id).laneState 31 ≠ Ln.test) = true ∧
    ([0, 1].all fun k => ((laneAt 31 5 fun l => { l with announced := k }).lane 31).announced = k) = true ∧
    (let s := laneAt 23 5 fun l => { l with judged := 1 }
     s.role 23 = 0 ∧ framing (s.laneState 23) = true ∧ (s.lane 23).judged ≤ 1 ∧ 1 ≤ s.tick + 1 ∧ 0 < (s.lane 23).judged) ∧
    (let s (up : Nat) : State := { laneAt 23 5 fun l => { l with upTick := up } with tick := 2 }
     let since : Int := (((s 0).arrive 0).now * 1000 : Nat) - 330000 - ((s 0).rd (R.LN_DLY_UP 23)).toInt
     0 ≤ since ∧ (since / 500000).toNat = 1 ∧ ((s 2).lane 23).judged ≤ 1 ∧ ((s 2).lane 23).upTick = 2 ∧ ((s 1).lane 23).upTick ≠ 2) ∧
    (let s := laneAt 23 5 id
     let w : Word := BitVec.ofNat 32 (2 ^ 31 + phaseOf 7 * 2 ^ 20 + 15 * 2 ^ 16)
     s.inService 23 = true ∧ bit w.toNat 31 = true ∧ w.toNat / 1048576 % 2048 = phaseOf (w.toNat / 65536 % 16 / 2) ∧
       (w + 0x100000).toNat / 1048576 % 2048 ≠ phaseOf ((w + 0x100000).toNat / 65536 % 16 / 2) ∧ (laneAt 23 4 id).inService 23 = false) ∧
    (let m : Msg := ⟨255, 16, Mk.time, 0, 0, [], 0, 0, .nothing⟩
     let s := laneAt 31 5 fun l => { l with out := [m] }
     talks (s.laneState 31) = true ∧ (s.lane 31).out.find? (fun m => m.seq = 255) = some m ∧ (s.lane 31).out.find? (fun m => m.seq = 0) = none ∧
       s.fld (R.LN_STAT 31) F.LN_STAT_EPOCH = 0 ∧
       m.sentAt + (s.fld (R.LN_MSG_CFG 31) F.LN_MSG_CFG_TMO + 1) * 1000 ≤ (({ s with tick := 200000000 } : State).arrive 0).now ∧
       (s.arrive 0).now < m.sentAt + (s.fld (R.LN_MSG_CFG 31) F.LN_MSG_CFG_TMO + 1) * 1000 ∧
       m.tries < (s.setFld (R.LN_MSG_CFG 31) F.LN_MSG_CFG_RETRY 1).fld (R.LN_MSG_CFG 31) F.LN_MSG_CFG_RETRY ∧
       (s.setFld (R.LN_MSG_CFG 31) F.LN_MSG_CFG_RETRY 0).fld (R.LN_MSG_CFG 31) F.LN_MSG_CFG_RETRY ≤ m.tries) ∧
    (let s := laneAt 31 2 id
     (s.arrive 0).now / 1000000 ≤ s.lnk.timeAt ∧ s.lnk.timeAt < (({ s with tick := 2000 } : State).arrive 0).now / 1000000 ∧
       (∀ n < 32, talks (s.laneState n) = decide (n = 31))) := by decide +kernel

/-- A frame of port 1 with one entry of 208,750 slots and one line of 256 pixels, from slot `r0`, of which `k` entries were reset. -/
def frameAt (r0 k : Nat) : Frame :=
  { num := 5, buf := some 0, popped := true, rep := false, dark := false, r0 := r0,
    set := { height := 4, width := 256, npl := 1, vb := 1, fsize := 1, tset := 0, trst := 0, guard := 0, plane := List.replicate 16 0,
             wave := List.replicate 16 0, cmask := List.replicate 16 0, wt := List.replicate 16 0, plen := List.replicate 16 208750 },
    scales := [0, 0, 0, 0], k := k, fired := 0, part := false, late := false, cap := false, lateCommit := false, rowBad := false, e := [0, 0, 0, 0],
    eOk := false }

/-- Port 1 as `f` makes it, in EXPOSE, with its lanes in service, a region of 1 MiB and 1 MiB frames. -/
def onPort (f : MapP → MapP) : State :=
  let s := (List.range 4).foldl (fun s l => s.setFld (R.LN_STAT (28 + l)) F.LN_STAT_STATE Ln.service) (inMode .expose)
  let s := s.setLive (R.MAP_FRAME 1) (fput 0 F.MAP_FRAME_FSIZE 1)
  let s : State := { s with glb := { s.glb with dramLive := [(0, 0), (0, 1), (0, 1), (0, 0), (0, 64), (0, 0)] } }
  s.setMap 1 (f MapP.reset)

theorem witness_MapCommands :
    (let s := onPort fun m => { m with queue := [0] }
     s.tiled = false ∧ s.mapPorts 1 = [1] ∧ (s.mapSet 1).fsize * 2 ^ 20 ≤ (s.dramRegion 1).2 ∧ (∀ l < 4, s.inService (24 + 4 * 1 + l) = true) ∧
       (s.map 1).queue ≠ [] ∧ s.fld (R.MAP_STAT 1) F.MAP_STAT_RUN = 0 ∧ s.rd (R.MAP_NFR 1) = 0 ∧
       fget (fput (fput 0 F.MAP_CTL_GO 1) F.MAP_CTL_CONT 1) F.MAP_CTL_CONT = 1 ∧ fget (fput (fput 0 F.MAP_CTL_GO 1) F.MAP_CTL_CONT 1) F.MAP_CTL_GO = 1 ∧
       fget (fput 0 F.MAP_CTL_GO 1) F.MAP_CTL_STOP = 0 ∧ fget (fput 0 F.MAP_CTL_GO 1) F.MAP_CTL_CONT = 0 ∧ (onPort id).map 1 = MapP.reset ∧
       ¬ (1 * 2 ^ 20 ≤ (State.reset.dramRegion 1).2) ∧ (s.setFld R.MAP_CFG F.MAP_CFG_TILED 1).tiled = true) ∧
    ([none, some (frameAt 0 1)].all fun c =>
      let s := (onPort fun m => { m with cur := c, next := [frameAt 5 0] }).setFld (R.MAP_STAT 1) F.MAP_STAT_RUN 1
      (s.map 1).cur = c && s.fld (R.MAP_STAT 1) F.MAP_STAT_RUN = 1 && fget (fput 0 F.MAP_CTL_STOP 1) F.MAP_CTL_STOP = 1 &&
        fget (fput 0 F.MAP_CTL_STOP 1) F.MAP_CTL_GO = 0) = true ∧
    (let s := onPort id
     s.nbuf 1 = 1 ∧ s.bufState 1 0 = 0 ∧ (s.wr (R.MAP_BUFST 1 0) 4).bufState 1 0 = 4 ∧ (s.wr (R.MAP_BUFST 1 0) 1).bufState 1 0 = 1 ∧
       (s.map 1).queue.length < 16 ∧ 16 ≤ ((onPort fun m => { m with queue := List.replicate 16 0 }).map 1).queue.length) := by decide +kernel

theorem witness_ProjectionAndCameras :
    ((onPort fun m => { m with waiting := true, trigAt := some 0 }).map 1).trigAt = some 0 ∧ (State.reset.map 1).waiting = false ∧
    ([false, true].all fun q => ((onPort fun m => { m with waiting := true, trigAt := some 0, queue := if q then [0] else [] }).pulsesPermitted &&
      !(inMode .idle).pulsesPermitted)) = true ∧
    (let s (k : Nat) (stop : Bool) : State := { onPort fun m => { m with next := [frameAt 2500 0], stopping := stop } with tick := k }
     ((s 0 false).map 1).next.getLast? = some (frameAt 2500 0) ∧ (frameAt 2500 0).vTick ≤ (s 2 false).tick ∧ (s 0 false).tick < (frameAt 2500 0).vTick ∧
       ((s 2 true).map 1).stopping = true ∧ ((s 2 false).map 1).stopping = false ∧ (s 0 false).tiled = false) ∧
    (let s := onPort fun m => { m with next := [frameAt 2 0] }
     (s.map 1).cur = none ∧ (s.map 1).next = frameAt 2 0 :: [] ∧ (s.arrive 0).nowSlot < (frameAt 2 0).r0 ∧ (frameAt 2 0).r0 ≤ (s.arrive 1).nowSlot) ∧
    (let f := frameAt 2 0
     let s (n : Nat) (skip : Bool) := onPort fun m => { m with cur := some f, lines := n, skip := skip }
     ((s 1 false).map 1).cur = some f ∧ f.k < f.set.npl ∧ f.rk f.k ≤ ((s 1 false).arrive 1).nowSlot ∧ ((s 1 false).arrive 0).nowSlot < f.rk f.k ∧
       f.set.nl ≤ ((s 1 false).map 1).lines ∧ ((s 1 false).map 1).skip = false ∧ ((s 1 true).map 1).skip = true ∧ ((s 0 false).map 1).lines < f.set.nl ∧
       f.dark = false ∧ ((s 1 false).arrive 1).pulsesPermitted = true ∧ ((s 1 false).arrive 1).forceZero = false ∧
       ((s 0 false).map 1).target = some (f, 0) ∧ ((onPort id).map 1).target = none ∧
       f.rk 0 ≤ ((s 0 false).arrive 0).nowSlot + f.set.vb * 1250) ∧
    (let f := frameAt 0 1
     let s : State := { onPort fun m => { m with cur := some f, stopping := true } with tick := 167 }
     (s.map 1).cur = some f ∧ f.set.npl ≤ f.k ∧ f.rk f.set.npl ≤ (s.arrive 0).nowSlot ∧ (s.map 1).stopping = true ∧
       (State.reset.arrive 0).nowSlot + (frameAt 1251 0).set.vb * 1250 < (frameAt 1251 0).rk 0) ∧
    (let s := (laneAt 31 5 id).setFld (R.LN_CFG 31) F.LN_CFG_ROLE 1
     s.role 31 = 1 ∧ framing (s.laneState 31) = true ∧ (s.lane 31).judged ≤ 1 ∧ 1 ≤ s.tick + 1) ∧
    (let s := inMode .service
     let v := fput 0 F.CAM_CFG_EN 1
     s.unlocked = true ∧ fget v F.CAM_CFG_EN = 1 ∧ s.camRefused 3 v = false ∧ s.camRefused 3 (fput v F.CAM_CFG_SRC 1) = true ∧
       (inMode .expose).unlocked = false ∧ (s.setFld (R.CAM_CFG 3) F.CAM_CFG_EN 1).camOn 3 = true) ∧
    (let s (l : List CamTrig) : State := ((inMode .expose).setFld (R.CAM_CFG 3) F.CAM_CFG_EN 1).setCam 3 { Cam.reset with await := l }
     fget (fput 0 F.CAM_SNAP_SNAP 1) F.CAM_SNAP_SNAP = 1 ∧ (s []).camOn 3 = true ∧ (s []).lfld (R.CAM_TRIG 3) F.CAM_TRIG_SRC = 0 ∧
       ((s []).cam 3).due = [] ∧ ((s []).cam 3).lastAt = none ∧ ((s (List.replicate 3 ⟨0, 0, 0, 0, []⟩)).cam 3).await.length < 4 ∧
       4 ≤ ((s (List.replicate 4 ⟨0, 0, 0, 0, []⟩)).cam 3).await.length) ∧
    ([0, 1].all fun src =>
      let s := (((inMode .expose).setFld (R.CAM_CFG 3) F.CAM_CFG_EN 1).setFld (R.CAM_CFG 3) F.CAM_CFG_SRC src).setCam 3 { Cam.reset with due := [⟨5, 0, 0, 0, []⟩] }
      s.camOn 3 && (s.cam 3).due = [⟨5, 0, 0, 0, []⟩] && s.headCam 3 = decide (src = 1) && decide ((s.arrive 1).now * 5 < 5 * 2) &&
        decide (5 * 2 ≤ (s.arrive 2).now * 5)) = true ∧
    (let s := (inMode .expose).setCam 3 { Cam.reset with active := true, pulses := [(0, 5)], await := [⟨0, 0, 0, 0, []⟩] }
     (s.cam 3).active = true ∧ (∀ p ∈ (s.cam 3).pulses, p.2 * 2 ≤ (s.arrive 2).now * 5) ∧ ¬ (∀ p ∈ (s.cam 3).pulses, p.2 * 2 ≤ (s.arrive 1).now * 5) ∧
       (s.cam 3).await.any (fun t => decide (t.at_ + 250000000 ≤ (({ s with tick := 200000 } : State).arrive 0).now * 5 / 2)) = true ∧
       (s.cam 3).await.any (fun t => decide (t.at_ + 250000000 ≤ (({ s with tick := 199999 } : State).arrive 0).now * 5 / 2)) = false) ∧
    (let s := (inMode .expose).setFld (R.CAM_CFG 3) F.CAM_CFG_EN 1
     s.camOn 3 = true ∧ s.headCam 3 = false ∧ (s.cam 3).frame = none ∧ State.reset.camOn 3 = false) := by decide +kernel

/-- Pipeline 3, on with source `src`, receives a frame of two lines of 16 pixels that expects line `y` next, with the flags given. -/
def onCam (src y flags : Nat) (at_ : Nat) : State :=
  let f : CamFrame :=
    { num := 7, trig := none, set := [0, 0, 0, 0, 0, fput (fput 0 F.CAM_GEOM_WIDTH 16) F.CAM_GEOM_HEIGHT 2], lines := y, nextLine := y, openLine := none,
      segs := [], flags := flags, startAt := at_, closeTs := 0, tap := none, tapLost := [] }
  let s := (inMode .expose).setFld (R.CAM_CFG 3) F.CAM_CFG_EN 1
  (s.setFld (R.CAM_CFG 3) F.CAM_CFG_SRC src).setCam 3 { Cam.reset with frame := some f }

theorem witness_CameraFrames :
    ([0, 1, 2].all fun y =>
      let s := onCam 0 y 0 0
      s.camOn 3 && !s.headCam 3 && ((s.cam 3).frame.any fun f => f.nextLine = y && f.height = 2 && f.width = 16 && !bit f.flags Cf.long)) = true ∧
    (let s := (onCam 1 0 0 0).setFld (R.LN_STAT 0) F.LN_STAT_STATE Ln.service
     (List.range 4).find? (fun c => s.camOn c && s.headCam c && s.camFld c F.CAM_CFG_HEAD = 0 && s.inService 0) = some 3 ∧
       (List.range 4).find? (fun c => s.camOn c && s.headCam c && s.camFld c F.CAM_CFG_HEAD = 1 && s.inService 1) = none) ∧
    (let s : State := { onCam 0 0 0 0 with tick := 200000 }
     (s.cam 3).frame.any (fun f => decide (f.startAt + 100000000 ≤ (s.arrive 0).now) && f.segs.all fun g => g.2.2 = []) = true ∧
       (s.cam 3).frame.any (fun f => decide ((({ s with tick := 199999 } : State).arrive 499).now < f.startAt + 100000000)) = true) ∧
    (let s := onCam 0 2 0 0
     let f := (s.cam 3).frame
     ((s.setCam 3 { s.cam 3 with closed := f.toList, frame := none }).cam 3).closed.length = 1) ∧
    (let s := (onPort id).setFld (R.CAM_TAPCFG 3) F.CAM_TAPCFG_SIZE 1
     let t := s.setFld (R.CAM_CFG 3) F.CAM_CFG_TAPMODE 2
     fget (fput 0 F.CAM_TAP_N 1) F.CAM_TAP_N = 1 ∧ fget (0 : Word) F.CAM_TAP_N = 0 ∧ (t.dramRegion 2).2 ≠ 0 ∧ t.camFld 3 F.CAM_CFG_TAPMODE = 2 ∧
       (t.fld (R.CAM_TAPCFG 3) F.CAM_TAPCFG_OFS + t.fld (R.CAM_TAPCFG 3) F.CAM_TAPCFG_SIZE) * 2 ^ 20 ≤ (t.dramRegion 2).2 ∧
       tapPages (t.lfld (R.CAM_GEOM 3) F.CAM_GEOM_WIDTH) (t.lfld (R.CAM_GEOM 3) F.CAM_GEOM_HEIGHT) ≤ 256 * t.fld (R.CAM_TAPCFG 3) F.CAM_TAPCFG_SIZE ∧
       s.camFld 3 F.CAM_CFG_TAPMODE = 0) := by decide +kernel

/-- Port 1 with its link up, PTP running on it with the profile and servo state given, as `f` makes the servo. -/
def onPtp (profile pstate : Nat) (f : Ptp → Ptp) : State :=
  let s := (((inMode .expose).setFld (R.TIM_P_CFG 1) F.TIM_P_CFG_EN 1).setFld (R.TIM_P_CFG 1) F.TIM_P_CFG_SPEED 0).setFld (R.TIM_P_STAT 1)
    F.TIM_P_STAT_LINK 1
  let cfg := fput (fput (fput 0 F.TIM_PTP_CFG_EN 1) F.TIM_PTP_CFG_PORTEN 2) F.TIM_PTP_CFG_PROFILE profile
  let s := (s.setFld (R.TIM_P_STAT 1) F.TIM_P_STAT_PSTATE pstate).setLive R.TIM_PTP_CFG cfg
  s.setPtp (f Ptp.reset)

theorem witness_TimeAndNetwork :
    (let s := inMode .expose
     bit s.tim.present 1 = true ∧ bit s.tim.present 0 = true ∧ s.fld R.TIM_STAT F.TIM_STAT_ACTIVE = 0 ∧
       (s.setFld R.TIM_REF_CFG F.TIM_REF_CFG_AUTO 1).fld R.TIM_REF_CFG F.TIM_REF_CFG_AUTO = 1 ∧
       (s.setFld R.TIM_REF_CFG F.TIM_REF_CFG_AUTO 0).fld R.TIM_REF_CFG F.TIM_REF_CFG_AUTO = 0 ∧
       bit ({ s.tim with present := 1 } : Tim).present 1 = false ∧ fget (fput 0 F.TIM_REF_CFG_SEL 1) F.TIM_REF_CFG_SEL = 1) ∧
    (let s := (inMode .armed).setFld (R.TIM_SYNCI_CFG 3) F.TIM_SYNCI_CFG_EDGE 3
     let t : State := s.setTim { s.tim with capAt := [(3, some 0)] }
     s.fld (R.TIM_SYNCI_CFG 3) F.TIM_SYNCI_CFG_EDGE = 3 ∧ (t.arrive 7).now * 65536 + 65535 / 8192 * 8192 < 0 + 8 * 65536 ∧
       0 + 8 * 65536 ≤ (t.arrive 8).now * 65536 + 0 ∧ sget (fun _ => none) 3 s.tim.capAt = none ∧
       (State.reset.setFld (R.TIM_SYNCI_CFG 3) F.TIM_SYNCI_CFG_EDGE 0).fld (R.TIM_SYNCI_CFG 3) F.TIM_SYNCI_CFG_EDGE = 0) ∧
    (let s : State := { inMode .expose with tick := 4 }
     let at_ (s : State) := extendTs ((s.rd (R.TIM_SYNCO_AT_LO 3)).toNat + (s.rd (R.TIM_SYNCO_AT_HI 3)).toNat * 2 ^ 32) (s.arrive 0).now
     [0, 1, 2, 3].all (fun m => fget (fput 0 F.TIM_SYNCO_CFG_MODE m) F.TIM_SYNCO_CFG_MODE = m) = true ∧ (s.arrive 0).now = 2000 ∧
       at_ s = 0 ∧ slotAfter (at_ s).toNat * 2 < (s.arrive 0).now * 5 ∧
       (let t := s.wr (R.TIM_SYNCO_AT_LO 3) (BitVec.ofNat 32 (2000 * 65536))
        at_ t = 2000 * 65536 ∧ (t.arrive 0).now * 5 ≤ slotAfter (at_ t).toNat * 2)) ∧
    (let s := (inMode .expose).setFld (R.TIM_SYNCO_CFG 3) F.TIM_SYNCO_CFG_MODE 1
     let slot := 1250 * s.tick + min 1249 (s.fld (R.TIM_SYNCO_PH 3) F.TIM_SYNCO_PH_PH)
     s.tick % ((s.rd (R.TIM_SYNCO_PER 3)).toNat + 1) = 0 ∧ slot * 2 / 5 ≤ (s.arrive 0).now ∧ sget (fun _ => none) 3 s.tim.lastSync ≠ some slot ∧
       s.fld (R.TIM_SYNCO_CFG 3) F.TIM_SYNCO_CFG_MODE = 1 ∧
       (let t := (s.setFld (R.TIM_SYNCO_CFG 3) F.TIM_SYNCO_CFG_MODE 2).setTim { s.tim with armed := [(3, some 5)] }
        t.fld (R.TIM_SYNCO_CFG 3) F.TIM_SYNCO_CFG_MODE = 2 ∧ sget (fun _ => none) 3 t.tim.armed = some 5 ∧ 5 * 2 / 5 ≤ (t.arrive 2).now ∧
          (t.arrive 1).now < 5 * 2 / 5) ∧ sget (fun _ => none) 3 s.tim.armed = none) ∧
    (let s := (inMode .expose).setTim { State.reset.tim with on := 8, pulses := [(3, 0, 5)] }
     bit s.tim.on 3 = true ∧ (∀ p ∈ s.tim.pulses, p.1 = 3 → p.2.2 * 2 ≤ (s.arrive 2).now * 5) ∧ ¬ (∀ p ∈ s.tim.pulses, p.1 = 3 → p.2.2 * 2 ≤ (s.arrive 1).now * 5)) ∧
    (∀ p ∈ [(Mode.idle, cmdOf 0x18 0 0 [0, 0, 0]), (.idle, cmdOf 0x18 0 0 [0, 1000000000 / 65536 + 1, 0]), (.idle, cmdOf 0x18 0 0 [1, 0, 0]),
      (.expose, cmdOf 0x18 0 0 [1, 0, 0]), (.idle, cmdOf 0x19 2 0 [0]), (.idle, cmdOf 0x19 1 0 [10000000]), (.idle, cmdOf 0x19 1 0 [10000001])],
      (withCmd p.1 p.2).ready 7 p.2.op p.2) ∧
    (tsValid 0 = true ∧ fineOfTs 0 = 0 ∧ tsValid 1 = true ∧ fineOfTs 1 ≠ 0 ∧ tsValid (999999999 * 65536) = true ∧ tsValid (1000000000 * 65536) = false) ∧
    ((inMode .idle).tim.steps = [] ∧ (let s : State := { (inMode .idle).setTim { State.reset.tim with steps := [⟨-65536, none, 0, 3⟩] } with tick := 4 }
      s.tim.steps = ⟨-65536, none, 0, 3⟩ :: [] ∧ 3 < s.tick)) ∧
    (State.reset.portUp 1 = false ∧ (onPtp 0 3 id).portUp 1 = true ∧ (onPtp 0 3 id).ptpPort 1 = true ∧ (onEthernet.portUp 0 && !onEthernet.ptpPort 0) = true ∧
      (onPtp 0 3 id).ptpCfg F.TIM_PTP_CFG_DOMAIN ≠ 1) ∧
    (let f : Foreign := { port := 1, src := 9, key := [], at_ := 0, heard := 2 }
     let s := onPtp 0 3 fun x => { x with parent := some f }
     s.fromParent 1 9 = true ∧ s.fromParent 1 8 = false ∧ 9 ≠ s.clockId ∧ s.tim.ptp.twoStep = none ∧
       (s.setPtp { s.tim.ptp with twoStep := some (1, 65535, 3, 4) }).tim.ptp.twoStep = some (1, 65535, 3, 4)) ∧
    (let s (prof : Nat) (dSet : Bool) (d : Int) := onPtp prof 3 fun x => { x with req := [(1, 65535, 100)], last := some (50, 70), dSet := dSet, d := d }
     ((s 0 true 10).tim.ptp.req.find? fun r => r.1 = 1 && r.2.1 = 65535) = some (1, 65535, 100) ∧ (s 0 false 0).ptpCfg F.TIM_PTP_CFG_PROFILE = 0 ∧
       (s 0 false 0).tim.ptp.last = some (50, 70) ∧ (s 0 false 0).tim.ptp.dSet = false ∧ (s 1 false 0).ptpCfg F.TIM_PTP_CFG_PROFILE ≠ 0 ∧
       (s 1 false 0).fld (R.TIM_P_STAT 1) F.TIM_P_STAT_PSTATE = 3 ∧
       ((70 - 50 + ((120 : Int) - 100)) / 2 - 20).natAbs ≤ (s 0 true 20).lfld R.TIM_PTP_PD F.TIM_PTP_PD_PDSTEP * 65536 ∧ (s 0 true 20).tim.ptp.dSet = true ∧
       ((onPtp 0 3 id).tim.ptp.req.find? fun r => r.1 = 1 && r.2.1 = 0) = none) ∧
    ((onPtp 0 2 id).fld (R.TIM_P_STAT 1) F.TIM_P_STAT_PSTATE = 2 ∧ (onPtp 0 2 id).ptpCfg F.TIM_PTP_CFG_PROFILE = 0 ∧
      (onPtp 2 2 id).ptpCfg F.TIM_PTP_CFG_PROFILE ≠ 0) ∧
    (let f : Foreign := { port := 1, src := 9, key := [], at_ := 0, heard := 2 }
     let s := onPtp 0 3 fun x => { x with parent := some f }
     sget (fun _ => none) (16 * 1 + 11) s.tim.ptp.txAt = none ∧ s.ptpCfg F.TIM_PTP_CFG_EN = 1 ∧ s.tim.ptp.parent = some f ∧
       (({ s with tick := 2000000000 } : State).arrive 0).now ≥ s.tim.ptp.annAt + s.annLimit ∧ (s.arrive 0).now < s.tim.ptp.annAt + s.annLimit ∧
       (s.arrive 0).now < s.tim.ptp.syncAt + s.ptpInt F.TIM_PTP_INT_LOGSYNC * (s.lfld R.TIM_PTP_INT F.TIM_PTP_INT_SYNCTMO + 1) ∧
       State.reset.ptpCfg F.TIM_PTP_CFG_EN = 0) ∧
    (let s := ((inMode .expose).setServo Sv.guard).setPtp { Ptp.reset with guardEnd := 5 }
     s.servo = Sv.guard ∧ s.tim.ptp.guardEnd ≤ (s.arrive 5).now ∧ (s.arrive 4).now < s.tim.ptp.guardEnd) ∧
    ((onPtp 0 3 id).hasIp 1 9 = false ∧ ((onPtp 0 3 id).wr (R.TIM_P_IP 1) 9).hasIp 1 9 = true) :=
  ⟨by decide +kernel, by decide +kernel, by decide +kernel, by decide +kernel, by decide +kernel, allReady_of (by decide +kernel), by decide +kernel,
    by decide +kernel, by decide +kernel, by decide +kernel, by decide +kernel, by decide +kernel, by decide +kernel, by decide +kernel, by decide +kernel⟩

/-- A record of SEQ `seq`. -/
def recordOf (seq : Nat) (perm permDone : Bool) : Cairn := ⟨perm, false, false, 1, 1, seq, 0, 0, 0, [], permDone⟩

theorem witness_RecordsAndFlash :
    ((State.reset.arrive 0).latchProgram.recd.busy = none) ∧
    ([(false, false), (true, false), (true, true)].all fun p => [0, 2].all fun fails =>
      let c := recordOf 65535 p.1 p.2
      let s := (inMode .idle).setFld R.THM_STAT F.THM_STAT_FLWIN 1
      let s : State := { s with recd := { s.recd with staging := [c], fails := fails } }
      let x := (s.arrive 0).latchProgram
      x.recd.busy = some (65535, false) && x.recd.staging.find? (fun d => d.seq = 65535) = some c && decide ((s.rd R.REC_PCOUNT).toNat < 4096) &&
        x.recd.fails = fails && x.recd.room (x.recd.slotOf 65535) = 1) = true ∧
    4096 ≤ ((inMode .idle).wr R.REC_PCOUNT 4096 |>.rd R.REC_PCOUNT).toNat ∧
    (let s := ((inMode .idle).setFld R.THM_STAT F.THM_STAT_FLWIN 1).wr R.REC_SEQ 65520
     (s.arrive 0).erasing = true ∧ ((inMode .idle).arrive 0).erasing = false) ∧
    fget (fput 0 F.REC_CTL_RETRY 1) F.REC_CTL_RETRY = 1 ∧ fget (0 : Word) F.REC_CTL_RETRY = 0 ∧
    (let s := (inMode .idle).wr R.REC_OPTIME 3600
     s.recd.opAt < (s.rd R.REC_OPTIME).toNat / 3600 * 3600 ∧ (State.reset.wr R.REC_OPTIME 3599).rd R.REC_OPTIME = 3599#32) ∧
    (let s : State := { (inMode .idle).setFld R.REC_QS_CFG F.REC_QS_CFG_FLUSH 1 with recd := { Rec.reset with qBuf := [(R.BSQ_QDROP 0, [])] } }
     s.recd.qBuf ≠ [] ∧ s.recd.qBufSince + s.fld R.REC_QS_CFG F.REC_QS_CFG_FLUSH * 1000000 ≤ (({ s with tick := 2000 } : State).arrive 0).now ∧
       (({ s with tick := 1999 } : State).arrive 499).now < s.recd.qBufSince + s.fld R.REC_QS_CFG F.REC_QS_CFG_FLUSH * 1000000) ∧
    (let s := (inMode .idle).setFld R.REC_QS_AREA F.REC_QS_AREA_SIZE 64
     s.unlocked = true ∧ (inMode .expose).unlocked = false ∧ fget (fput 0 F.REC_QS_CFG_EN 1) F.REC_QS_CFG_EN = 1 ∧ s.fld R.REC_QS_CFG F.REC_QS_CFG_EN = 0 ∧
       s.ringBad = false ∧ (s.setFld R.REC_QS_AREA F.REC_QS_AREA_SIZE 65).ringBad = true ∧ s.ring.2 = 2 ^ 26) := by decide +kernel

/-! ## A command that each well-formedness check refuses -/

theorem test_refuses_misaligned_access : (Instr.registerWrite 2 [0] 0).wf = false ∧ (Instr.registerWrite 0xFFFFFC [0, 0] 0).wf = false ∧
    (Instr.registerWrite 0 [] 0).wf = false ∧ (Instr.lowWordReadLatch 4 2 0).wf = false ∧ (Instr.rcCounterRead 0x1000000).wf = false := by decide
theorem test_refuses_a_full_tick : (Instr.grantRound 500).wf = false ∧ (Instr.grantRound 499).wf = true := by decide
theorem test_refuses_units : (Instr.jmp 0x11A).wf = false ∧ (Instr.jmp 0x400).wf = false ∧ (Instr.mac 0x40C).wf = false ∧ (Instr.mac 0x100).wf = false ∧
    (Instr.add 0xFF).wf = false ∧ (Instr.add 0x40B).wf = true ∧ (Instr.bsqCheckerMismatch [0x100, 0x11A] 0).wf = false := by decide
theorem test_refuses_window_bytes : (Instr.bar2Write 0x3FFFFFF [0, 0] 0).wf = false ∧ (Instr.bar2Write 0 [] 0).wf = false ∧
    (Instr.bar4Write 0xFFFFFFF [0] 0).wf = true ∧ (Instr.hostDmaCompletion 0 false 0 (2 ^ 64) [0] 0).wf = false := by decide
theorem test_refuses_numbers : (Instr.queueEnable 16 0).wf = false ∧ (Instr.mode (2 ^ 64)).wf = false ∧ (Instr.laneEnable 32 0).wf = false ∧
    (Instr.guardClear 24).wf = false ∧ (Instr.probePlace 0 8).wf = false ∧ (Instr.gsgCopyRetire 0 3).wf = false ∧ (Instr.engineResetEnd 12).wf = false ∧
    (Instr.mapGo 2 0).wf = false ∧ (Instr.camTap 4 0).wf = false ∧ (Instr.axisValidLoss 8).wf = false ∧ (Instr.productClose 4096 0 0).wf = false ∧
    (Instr.axisQuadEdge 0 4 0 0).wf = false ∧ (Instr.axisQuadEdge 0 3 0 65536).wf = false ∧ (Instr.gateBlockLaunch 0 40 false [] [] 0).wf = false ∧
    (Instr.auxLoopEvaluation 191 0).wf = false ∧ (Instr.auxLoopEvaluation 208 0).wf = false ∧ (Instr.modeReqInvalidOp 10).wf = false ∧
    (Instr.powerOnReset 9 0).wf = false ∧ (Instr.dramTrainingDone 2 0 0 0).wf = false ∧ (Instr.dramTrainingDone 1 4 0 0).wf = false ∧
    (Instr.sramCorrectedError 0x4000000 0).wf = false ∧ (Instr.housekeepingRound [] 0 0).wf = false ∧ (Instr.msixVectorUnmask 64 0).wf = false ∧
    (Instr.referenceLost 2).wf = false ∧ (Instr.ethLinkChange 2 true 0).wf = false := by decide


/-! ## Values that the manual works out -/

/-- Chapter 04's contour tile: the lengths of its JMP and its MRK. -/
theorem test_motion_ticks : ticksOf 2000000 4000000 = 1000 ∧ ticksOf 2000000 800000 = 5000 ∧ ticksOf 5000000 5000000 = 2000 := by decide +kernel

/-- Chapter 04's encoding table: the fields of its CRV, PWR, JMP and MRK words. -/
theorem test_contour_words : (iwOf [0x0FF2003A]).op = 0x3A ∧ bits 0x0FF2003A 27 20 = 0xFF ∧ bits 0x0FF2003A 19 16 = 2 ∧
    (iwOf [0x10F80001C38]).op = 0x38 ∧ (iwOf [0x130, 0xFFCA982000B71B00]).op = 0x30 ∧
    sgn 32 (bits 0xFFCA982000B71B00 31 0) = 12000000 ∧ sgn 32 (bits 0xFFCA982000B71B00 63 32) = -3500000 ∧
    (iwOf [0x1631, 0x1E8480, 0xC350000000000]).op = 0x31 ∧ bits 0xC350000000000 63 32 = 800000 := by decide +kernel

/-- Chapter 05's polygon hold at a right angle, and chapter 07's fade from 0 to 0xC000. -/
theorem test_hold_and_fade : cornerAngle 1 0 0 1 = 16384 ∧ polyHold 5000 16384 = 2500 ∧ rampLevel 0 0xC000 25000 1 = 2 ∧
    rampLevel 0 0xC000 25000 25000 = 0xC000 := by decide +kernel

/-- Chapter 09's INT step: 0x133 is added to INTG. -/
theorem test_int_step :
    let s := ((inMode .expose).sramPut ((inMode .expose).ctlLive + 0x10000 + 8 + 8) (leBytes 0xCCD 4)).sramPut ((inMode .expose).ctlLive + 0x10000 + 0x50)
      (leBytes 0xFFFFC000 4 ++ leBytes 0x4000 4)
    ((s.intOp { (evalState [] id).2 with g := [0, 0, 0x1800], intg := 0x800 } ⟨0x85 + 2 * 2 ^ 16 + 2 * 2 ^ 24 + 2 ^ 28, 0, 0, 0⟩).2.intg) = 0x933#32 := by
  decide +kernel

/-- Chapter 10's Saffron step. -/
theorem test_saffron_step : (saffronStep 65536 2000000 1900000 0x8000 0xC000 0x14000).1 = 67260 := by decide +kernel

/-- Chapter 13's TIME_STEP of −48,003.5 ns. -/
theorem test_step_operands : fineOfTs (0x0E7C8000 + 0xFFFF3B9A * 2 ^ 32 + 0xFFFFFFFF * 2 ^ 64) * 2 = -96007 * 65536 := by decide +kernel

/-- Chapter 14's drive codes of a field point. -/
theorem test_drive_codes :
    let s := (((inMode .idle).setLive (R.TSC_H_FXMAX 5) 400000000).setLive (R.TSC_H_FYMAX 5) 400000000).sramPut (geoLive 5 + 0xFF00)
      (leBytes 0xFECED378 4 ++ leBytes 0x0199999A 4 ++ leBytes 0 4 ++ leBytes 0xFECED2B0 4 ++ leBytes 0 4 ++ leBytes 0x0199999A 4)
    (s.geoRaw 5 ⟨100000000, 300000000, 0⟩).x = -9999880 ∧ (s.geoRaw 5 ⟨100000000, 300000000, 0⟩).y = 9999920 := by decide +kernel

/-- Chapter 15's payload of the stub page, in tokens: 4096 bytes, of which the ninth is 1. -/
theorem test_sbc_tokens :
    let payload : List Byte := [0x09, 0x50, 0, 0, 0, 0, 0, 0, 0, 1, 0] ++ (List.replicate 15 ([0xF0, 0, 0xFF] : List Byte)).flatten ++ [0xF0, 0, 0x65]
    payload.length = 59 ∧ (sbcTokens 100 payload []).map (fun o => (o.length, o.getD 4087 9)) = some (4096, 1) := by decide +kernel

/-- Chapter 01's DRAM partition passes. -/
theorem test_dram_partition :
    let s := ([(0, 640), (640, 640), (1280, 1024), (2304, 2048), (4352, 512), (4864, 10496)] : List (Nat × Nat)).zipIdx.foldl (fun (s : State) p =>
      (s.setFld (R.GLB_DRAM_BASE p.2) F.GLB_DRAM_BASE_BASE p.1.1).setFld (R.GLB_DRAM_SIZE p.2) F.GLB_DRAM_SIZE_SIZE p.1.2)
      ((inMode .idle).setFld R.GLB_DRAM_CAP F.GLB_DRAM_CAP_CAP 0x3C00)
    s.dramCheck = .pass ∧ ({ s with regs := sput (fun _ => 0) R.GLB_DRAM_CAP 0x3BFF s.regs } : State).dramCheck = .bad 2 5 := by decide +kernel

/-- Chapter 07's spread at Lf = 0x2000: four slots on in every 32. -/
theorem test_spread :
    let i : Spread := ⟨false, true, true, 0x2000, 4, 4, 0x7FFF⟩
    let run := (List.range 64).foldl (fun (p : Emitter × List Bool) _ => ((spreadStep p.1 i).1, p.2 ++ [(spreadStep p.1 i).1.o])) (Emitter.reset, [])
    run.2 = (List.range 64).map (fun k => decide (k % 32 < 4)) ∧ (spreadStep Emitter.reset i).1.a = -24577 := by decide +kernel

end Sys2Proof.Machine.Tests
end

section
/-! PROOFS. Every command of the table completes (O4): each meaning ends by gathering the interrupts of some state. -/

namespace Sys2Proof.Machine

/-- The outcome is a next state whose interrupt sources have been gathered (R32). -/
def Res.gathers (r : Res State) : Prop := ∃ x, r = done x

theorem gathers_done (x : State) : Res.gathers (done x) := ⟨x, rfl⟩

theorem gathers_ite {p : Prop} [Decidable p] {a b : Res State} (ha : a.gathers) (hb : b.gathers) : Res.gathers (if p then a else b) := by
  split <;> assumption

/-- Every meaning is a tree of decisions whose leaves are `done`. The commands named first also branch on what a table, a list or an earlier event
holds; all others decide by conditions alone, or not at all. -/
theorem exec_gathers (c : Instr) (s : State) : Res.gathers (exec c s) := by
  cases c
  case descriptorFetch | commandStart | timedCommandStart | commitGoLive | stagingCopyComplete | timeStepApply | fiducialSettleExpiry |
      unitSelfTestDone | authComplete | authTimeout | msgTimeout | traceSpillCopyDone | mapStartTrigger | axisSsiFrame | productDetectEdge |
      camTrigger | camLineEnd | camBlockReceive | camFrameTimeout | camRecordWrite | syncoPulseStart | ptpFollowUpReceive | ptpMasterLost |
      flashPageProgramDone | sbcBlockExpanded | ethRefclkLoss | hostDmaCompletion | fwImageWriteDone =>
    simp only [exec, execDescriptorFetch, execCommandStart, execTimedCommandStart, execCommitGoLive, execStagingCopyComplete,
      execTimeStepApply, execFiducialSettleExpiry, execUnitSelfTestDone, execAuthComplete, execAuthTimeout, execMsgTimeout,
      execTraceSpillCopyDone, execMapStartTrigger, execAxisSsiFrame, execProductDetectEdge, execCamTrigger, execCamLineEnd,
      execCamBlockReceive, execCamFrameTimeout, execCamRecordWrite, execSyncoPulseStart, execPtpFollowUpReceive, execPtpMasterLost,
      execFlashPageProgramDone, execSbcBlockExpanded, execEthRefclkLoss, execHostDmaCompletion, execFwImageWriteDone]
    repeat' first | exact gathers_done _ | apply gathers_ite | split
  all_goals
    repeat' apply gathers_ite
    all_goals exact gathers_done _

theorem exec_goesOn (c : Instr) (s : State) : Res.goesOn (exec c s) := by
  obtain ⟨x, hx⟩ := exec_gathers c s
  exact ⟨x.irqSync, hx⟩

/-- Settles O4: no meaning faults or is refused, and a step runs one command or idles. -/
theorem everyCommandCompletes : Obligations.EveryCommandCompletes := by
  unfold Obligations.EveryCommandCompletes
  refine ⟨exec_goesOn, fun s => ?_⟩
  unfold step
  split
  · exact ⟨s, rfl⟩
  · exact exec_goesOn _ _

end Sys2Proof.Machine
end

section
/-! PROOFS. A register write acts on each field by its access code (O6): the fields of a table share no bit. -/

namespace Sys2Proof.Machine

/-! ## Fields as bits -/

theorem testBit_fget (w : Word) (f : Fld) (i : Nat) : (fget w f).testBit i = (decide (i < f.wd) && w.getLsbD (f.lo + i)) := by
  simp [fget, BitVec.getLsbD, Nat.testBit_mod_two_pow, Nat.testBit_div_two_pow, Nat.add_comm]

/-- Words that agree on the bits of a field agree on the field. -/
theorem fget_congr {w u : Word} {f : Fld} (h : ∀ k, f.lo ≤ k → k < f.lo + f.wd → w.getLsbD k = u.getLsbD k) : fget w f = fget u f := by
  refine Nat.eq_of_testBit_eq fun i => ?_
  rw [testBit_fget, testBit_fget]
  by_cases hi : i < f.wd
  · rw [h (f.lo + i) (by omega) (by omega)]
  · simp [hi]

/-- A field of a bitwise AND is the AND of the fields. -/
theorem fget_and (w u : Word) (f : Fld) : fget (w &&& u) f = fget w f &&& fget u f := by
  refine Nat.eq_of_testBit_eq fun i => ?_
  simp only [Nat.testBit_and, testBit_fget, BitVec.getLsbD_and]
  cases decide (i < f.wd) <;> simp

theorem getLsbD_fmask (f : Fld) (k : Nat) (h : f.lo + f.wd ≤ 32) :
    (fmask f).getLsbD k = (decide (f.lo ≤ k) && decide (k < f.lo + f.wd)) := by
  simp only [fmask, BitVec.getLsbD_ofNat, Nat.testBit_mul_two_pow, Nat.testBit_two_pow_sub_one]
  by_cases h1 : f.lo ≤ k <;> by_cases h2 : k < f.lo + f.wd <;> simp [h1, h2] <;> omega

/-- Two fields share no bit. -/
def Fld.apart (f g : Fld) : Bool := decide (f.lo + f.wd ≤ g.lo) || decide (g.lo + g.wd ≤ f.lo)

/-- Clearing the bits of `v` inside field `f`, seen in `f`: the mask makes no difference there. -/
theorem fget_w1c_same (w v : Word) (f : Fld) (h : f.lo + f.wd ≤ 32) : fget (w &&& ~~~(v &&& fmask f)) f = fget (w &&& ~~~v) f := by
  refine fget_congr fun k h1 h2 => ?_
  simp [getLsbD_fmask f k h, h1, h2]

/-- Clearing bits inside field `g` leaves a field apart from it alone. -/
theorem fget_w1c_apart (w v : Word) (f g : Fld) (h : g.lo + g.wd ≤ 32) (d : f.apart g = true) :
    fget (w &&& ~~~(v &&& fmask g)) f = fget w f := by
  simp only [Fld.apart, Bool.or_eq_true, decide_eq_true_eq] at d
  refine fget_congr fun k h1 h2 => ?_
  have hm : (fmask g).getLsbD k = false := by
    rw [getLsbD_fmask g k h, Bool.and_eq_false_iff, decide_eq_false_iff_not, decide_eq_false_iff_not]
    omega
  rw [BitVec.getLsbD_and, BitVec.getLsbD_not, BitVec.getLsbD_and, hm, Bool.and_false, Bool.not_false, Bool.and_true]
  by_cases hw : k < 32
  · simp [hw]
  · simp [hw, BitVec.getLsbD_of_ge w k (by omega)]

/-! ## A write, field by field -/

/-- The fields of a register table lie in the word and share no bit. -/
def fieldsLaidOut : List FieldRow → Bool
  | [] => true
  | f :: t => decide (f.fld.lo + f.fld.wd ≤ 32) && t.all (fun g => f.fld.apart g.fld) && fieldsLaidOut t

theorem all_ite {α : Type} {p : Prop} [Decidable p] {a b : List α} {f : α → Bool} (ha : a.all f = true) (hb : b.all f = true) :
    (if p then a else b).all f = true := by
  split <;> assumption

/-- Every register table of the device is laid out so (checked row by row). -/
theorem regRows_laidOut (off : Nat) : (regRows off).all (fun r => fieldsLaidOut r.fields) = true := by
  unfold regRows
  repeat' refine all_ite ?_ ?_
  all_goals decide +kernel

theorem regRow_laidOut {off : Nat} {r : RegRow} (h : regRow off = some r) : fieldsLaidOut r.fields = true :=
  List.all_eq_true.1 (regRows_laidOut off) r (List.mem_of_find?_eq_some h)

/-- The value that Table 0-3 gives a field of access code `a` when `v` is written over `w`. -/
def Acc.after (a : Acc) (open_ : Bool) (v w : Word) (f : Fld) : Nat :=
  match a with
  | .rw => fget v f
  | .rwl => if open_ then fget v f else fget w f
  | .w1c => fget (w &&& ~~~v) f
  | .ro | .wo | .rc => fget w f

/-- That value depends on the old word through the field alone. -/
theorem Acc.after_congr {w u : Word} {f : Fld} (h : fget w f = fget u f) (a : Acc) (open_ : Bool) (v : Word) :
    a.after open_ v w f = a.after open_ v u f := by
  cases a <;> simp [Acc.after, h, fget_and]

theorem Fld.apart_comm (f g : Fld) : f.apart g = g.apart f := Bool.or_comm _ _

/-- What a field's own write does to it. -/
theorem fget_fieldsWrite_own (open_ : Bool) (v w : Word) (f : FieldRow) (h : f.fld.lo + f.fld.wd ≤ 32) :
    fget (fieldsWrite open_ [f] v w) f.fld = f.acc.after open_ v w f.fld := by
  have hv : fget v f.fld % 2 ^ f.fld.wd = fget v f.fld := Nat.mod_mod _ _
  simp only [fieldsWrite, List.foldl, Acc.after]
  cases f.acc
  case rw => simpa [fget_fput_same _ _ _ h] using hv
  case rwl => cases open_ <;> simp [fget_fput_same _ _ _ h, hv]
  case w1c => exact fget_w1c_same w v f.fld h
  case ro | wo | rc => rfl

/-- A field's write leaves a field apart from it alone. -/
theorem fget_fieldsWrite_apart (open_ : Bool) (v w : Word) (g : FieldRow) (f : Fld) (h : g.fld.lo + g.fld.wd ≤ 32) (d : f.apart g.fld = true) :
    fget (fieldsWrite open_ [g] v w) f = fget w f := by
  have d' : g.fld.lo + g.fld.wd ≤ f.lo ∨ f.lo + f.wd ≤ g.fld.lo := by
    simpa [Fld.apart, or_comm] using d
  simp only [fieldsWrite, List.foldl]
  cases g.acc
  case rw => exact fget_fput_ne w _ _ _ h d'
  case rwl => cases open_ <;> simp [fget_fput_ne w _ _ _ h d']
  case w1c => exact fget_w1c_apart w v f g.fld h d
  case ro | wo | rc => rfl

theorem fieldsWrite_cons (open_ : Bool) (g : FieldRow) (fs : List FieldRow) (v w : Word) :
    fieldsWrite open_ (g :: fs) v w = fieldsWrite open_ fs v (fieldsWrite open_ [g] v w) := rfl

/-- The writes of fields apart from `f` leave it alone. -/
theorem fget_fieldsWrite_other (open_ : Bool) (v w : Word) (f : Fld) (fs : List FieldRow) (h : fieldsLaidOut fs = true)
    (d : fs.all (fun g => f.apart g.fld) = true) : fget (fieldsWrite open_ fs v w) f = fget w f := by
  induction fs generalizing w with
  | nil => rfl
  | cons g t ih =>
    simp only [fieldsLaidOut, List.all_cons, Bool.and_eq_true, decide_eq_true_eq] at h d
    rw [fieldsWrite_cons, ih _ h.2 d.2, fget_fieldsWrite_apart open_ v w g f h.1.1 d.1]

/-- Every field of a table that is laid out takes the value of its access code. -/
theorem fget_fieldsWrite (open_ : Bool) (v w : Word) (f : FieldRow) (fs : List FieldRow) (h : fieldsLaidOut fs = true) (hf : f ∈ fs) :
    fget (fieldsWrite open_ fs v w) f.fld = f.acc.after open_ v w f.fld := by
  induction fs generalizing w with
  | nil => cases hf
  | cons g t ih =>
    simp only [fieldsLaidOut, Bool.and_eq_true, decide_eq_true_eq] at h
    obtain ⟨⟨hg, hd⟩, ht⟩ := h
    rw [fieldsWrite_cons]
    rcases List.mem_cons.1 hf with rfl | hf
    · rw [fget_fieldsWrite_other open_ v _ _ t ht hd, fget_fieldsWrite_own open_ v w f hg]
    · have d : f.fld.apart g.fld = true := by rw [Fld.apart_comm]; exact List.all_eq_true.1 hd f hf
      rw [ih _ ht hf, Acc.after_congr (fget_fieldsWrite_apart open_ v w g f.fld hg d)]

/-- Settles O6: the fields of every table share no bit, so each takes the value of its own access code. -/
theorem fieldsByAccessCode : Obligations.FieldsByAccessCode := by
  unfold Obligations.FieldsByAccessCode
  intro off r f hr hf open_ v w
  exact fget_fieldsWrite open_ v w f r.fields (regRow_laidOut hr) hf

end Sys2Proof.Machine
end

section
/-! PROOFS. Host reads and writes of BAR0 (O7, O8): what `hostWrite` and `hostRead` do, case by case. -/

namespace Sys2Proof.Machine

/-! ## Host writes -/

/-- A write of a register other than GLB_MODE leaves the mode alone. -/
theorem mode_wr (s : State) (off : Nat) (w : Word) (h : off ≠ R.GLB_MODE) : (s.wr off w).mode = s.mode := by
  rw [State.mode, State.fld_wr_ne _ _ _ _ _ h.symm, State.mode]

theorem unlocked_lockviol (s : State) : s.lockviol.unlocked = s.unlocked := by
  simp only [State.unlocked, State.lockviol, State.inc, mode_wr s R.GLB_LOCKVIOL _ (by decide)]

theorem bar0Write_none (s : State) (off : Nat) (v : Word) (h : s.mode = .boot ∨ regRow off = none) : s.bar0Write off v = s := by
  unfold State.bar0Write
  rcases h with h | h <;> simp [h]

theorem bar0Write_row (s : State) (off : Nat) (v : Word) (r : RegRow) (hm : s.mode ≠ .boot) (hr : regRow off = some r) :
    s.bar0Write off v = s.rowWrite r (r.inst off) off v := by
  simp [State.bar0Write, hm, hr]

theorem hostWrite_one (s : State) (off : Nat) (v : Word) (h : accessOk off 1 = true) : s.hostWrite off [v] = s.bar0Write off v := by
  simp [State.hostWrite, h]

theorem hostWrite_two (s : State) (off : Nat) (v w : Word) (h : accessOk off 2 = true) :
    s.hostWrite off [v, w] = (s.bar0Write off v).bar0Write (off + 4) w := by
  simp [State.hostWrite, h]

/-- A host write of one word in BOOT, beyond the chapters' registers, or misaligned does nothing (R2, R3, R457). -/
theorem hostWrite_none (s : State) (off : Nat) (v : Word) (h : s.mode = .boot ∨ regRow off = none ∨ accessOk off 1 = false) :
    s.hostWrite off [v] = s := by
  by_cases ha : accessOk off 1 = true
  · rw [hostWrite_one s off v ha, bar0Write_none]
    simpa [ha] using h
  · simp [State.hostWrite, ha]

/-- A write by the access codes alone, with the lock of R481 counted first. -/
theorem plainWrite_eq (s : State) (r : RegRow) (off : Nat) (v : Word) :
    s.plainWrite r off v =
      (let b := if r.has .rwl && !s.unlocked then s.inc R.GLB_LOCKVIOL 1 else s
       b.wr off (fieldsWrite s.unlocked r.fields v (b.rd off))) := by
  unfold State.plainWrite
  split
  · simp only [unlocked_lockviol]; rfl
  · rfl

/-- GLB_SAFE_CAUSE holds W1C fields only, and its write has no further effect. -/
theorem rowWrite_safeCause (s : State) (r : RegRow) (i : Nat) (v : Word) (hr : r.has .rwl = false) :
    s.rowWrite r i R.GLB_SAFE_CAUSE v = s.wr R.GLB_SAFE_CAUSE (fieldsWrite s.unlocked r.fields v (s.rd R.GLB_SAFE_CAUSE)) := by
  have h : s.rowWrite r i R.GLB_SAFE_CAUSE v = s.plainWrite r R.GLB_SAFE_CAUSE v := rfl
  rw [h, plainWrite_eq]
  simp [hr]

/-- Settles O7: the cases of `hostWrite`, with the lock counted before the word is stored. -/
theorem hostRegisterWrites : Obligations.HostRegisterWrites := by
  unfold Obligations.HostRegisterWrites
  refine ⟨fun s off ns v h => ?_, fun s off ns v r hm ha hr hp => ?_,
    fun s off ns v w ha => ?_, fun s ns v hm => ?_, fun s off ns v h => ?_⟩
  · exact gives_of_done (congrArg done (hostWrite_none (s.arrive ns) off v h))
  · refine gives_of_done (congrArg done ?_)
    rw [hostWrite_one _ _ _ ha, bar0Write_row (s.arrive ns) off v r hm hr, hp, plainWrite_eq]
    rfl
  · exact gives_of_done (congrArg done (hostWrite_two (s.arrive ns) off v w ha))
  · obtain ⟨r, hr, hl⟩ : ∃ r, regRow R.GLB_SAFE_CAUSE = some r ∧ r.has .rwl = false := ⟨_, rfl, rfl⟩
    refine gives_of_done (congrArg done ?_)
    rw [hostWrite_one _ _ _ rfl, bar0Write_row (s.arrive ns) _ v r hm hr, rowWrite_safeCause _ _ _ _ hl, hr]
    rfl
  · exact gives_of_done (congrArg done (hostWrite_none (s.arrive ns) off v h))

/-! ## Host reads -/

@[simp] theorem nowTs_latch (s : State) (o : Nat) (w : Option Word) : (s.latch o w).nowTs = s.nowTs := rfl

@[simp] theorem latched_latch_same (s : State) (off : Nat) (w : Option Word) : (s.latch off w).latched off = w := sget_sput_same _ _ _ _

@[simp] theorem latched_latch_ne (s : State) (o off : Nat) (w : Option Word) (h : off ≠ o) : (s.latch o w).latched off = s.latched off :=
  sget_sput_ne _ _ _ _ _ h

@[simp] theorem latched_emit (s : State) (x : Out) (off : Nat) : (s.emit x).latched off = s.latched off := rfl

theorem State.settles.latched {t x : State} (h : t.settles x) (off : Nat) : t.latched off = x.latched off := by
  rw [State.latched, State.latched, h.latches]

/-- BAR0 reads 0 in BOOT, but for the registers that it serves there (R457). -/
theorem hostRead_boot (s : State) (off : Nat) (hm : s.mode = .boot) (hb : s.bootServes off = false) :
    s.hostRead off = s.emit (.read off 0) := by
  simp [State.hostRead, State.bar0Read, hm, hb]

/-- A word latched for the register is answered and released (R10). -/
theorem hostRead_latched (s : State) (off : Nat) (r : RegRow) (w : Word) (hm : s.mode ≠ .boot) (hr : regRow off = some r)
    (hl : s.latched off = some w) : s.hostRead off = (s.latch off none).emit (.read off w) := by
  simp [State.hostRead, State.bar0Read, hm, hr, hl]

/-- With no word latched, the register's word is answered, and the read takes its effect (R8, R10). -/
theorem hostRead_row (s : State) (off : Nat) (r : RegRow) (hm : s.mode ≠ .boot) (hr : regRow off = some r) (hl : s.latched off = none) :
    s.hostRead off = (s.readEffect r off).emit (.read off (s.view r off)) := by
  simp [State.hostRead, State.bar0Read, hm, hr, hl]

/-- A read of a register without RC fields only latches the further words of its value (R10). -/
theorem readEffect_noRc (s : State) (r : RegRow) (off : Nat) (h : r.has .rc = false) :
    s.readEffect r off = (highWords r off).foldl (fun s o => s.latch o ((regRow o).map fun r => s.view r o)) s := by
  simp [State.readEffect, h]

/-! ### GLB_LOCKVIOL -/

/-- A word with all 32 bits written to 0. -/
theorem fput_whole_zero (w : Word) : fput w ⟨0, 32⟩ 0 = 0 := by
  refine BitVec.eq_of_toNat_eq ?_
  rw [toNat_fput _ _ _ (by decide)]
  simp [Nat.div_eq_of_lt w.isLt, Nat.mod_one]

/-- The RC counter answers its value and is left 0. -/
theorem hostRead_lockviol (s : State) (hm : s.mode ≠ .boot) (hl : s.latched R.GLB_LOCKVIOL = none) :
    s.hostRead R.GLB_LOCKVIOL = (s.wr R.GLB_LOCKVIOL 0).emit (.read R.GLB_LOCKVIOL (s.rd R.GLB_LOCKVIOL)) := by
  rw [hostRead_row s _ _ hm rfl hl]
  have he : s.readEffect ⟨0x11C, [], [⟨F.GLB_LOCKVIOL_COUNT, .rc, 0⟩]⟩ R.GLB_LOCKVIOL =
      s.wr R.GLB_LOCKVIOL (fput (s.rd R.GLB_LOCKVIOL) ⟨0, 32⟩ 0) := rfl
  rw [fput_whole_zero] at he
  exact congrArg (fun x : State => x.emit (.read R.GLB_LOCKVIOL (s.rd R.GLB_LOCKVIOL))) he

/-! ### Usage counter balances -/

/-- The tables of the balance words. -/
def balLoRow : RegRow := ⟨0xE00100, [(0x10, 16)], [⟨F.LCS_UC_BAL_LO_BAL, .ro, 0⟩]⟩
def balHiRow : RegRow := ⟨0xE00104, [(0x10, 16)], [⟨F.LCS_UC_BAL_HI_BAL, .ro, 0⟩]⟩

theorem regRow_bal (t : Nat) (h : t < 16) :
    regRow (R.LCS_UC_BAL_LO t) = some balLoRow ∧ regRow (R.LCS_UC_BAL_HI t) = some balHiRow := by
  revert t
  decide +kernel

/-- A register above the blocks that hold values outside the register file reads its stored word, but for WO fields (R5). -/
theorem view_stored (s : State) (r : RegRow) (off : Nat) (h : 0xE00000 ≤ off) (hc : r.base ≠ R.BLD_CA_STAT 0) (ht : r.base ≠ R.TIM_NOW 0) :
    s.view r off = r.fields.foldl (fun w f => if f.acc = .wo then fput w f.fld 0 else w) (s.rd off) := by
  have h1 : off ≠ 0x208 := by omega
  have h2 : ¬(0x200000 ≤ off ∧ off < 0x300000) := by omega
  have h3 : ¬(0x600044 ≤ off ∧ off ≤ 0x600054) := by omega
  unfold State.view
  simp only [h1, h2, hc, h3, ht, if_false]

/-- A read of a balance's low word answers it and latches the high word (R10). -/
theorem hostRead_balLo (s : State) (t : Nat) (h : t < 16) (hm : s.mode ≠ .boot) (hl : s.latched (R.LCS_UC_BAL_LO t) = none) :
    s.hostRead (R.LCS_UC_BAL_LO t) = (s.latch (R.LCS_UC_BAL_HI t) (some (s.rd (R.LCS_UC_BAL_HI t)))).emit
      (.read (R.LCS_UC_BAL_LO t) (s.rd (R.LCS_UC_BAL_LO t))) := by
  obtain ⟨hlo, hhi⟩ := regRow_bal t h
  have vlo : s.view balLoRow (R.LCS_UC_BAL_LO t) = s.rd (R.LCS_UC_BAL_LO t) :=
    view_stored s _ _ (by show 0xE00000 ≤ 0xE00100 + 0x10 * t; omega) (by decide) (by decide)
  have vhi : s.view balHiRow (R.LCS_UC_BAL_HI t) = s.rd (R.LCS_UC_BAL_HI t) :=
    view_stored s _ _ (by show 0xE00000 ≤ 0xE00104 + 0x10 * t; omega) (by decide) (by decide)
  have hw : highWords balLoRow (R.LCS_UC_BAL_LO t) = [R.LCS_UC_BAL_HI t] := by
    have e : R.LCS_UC_BAL_LO t + 4 = R.LCS_UC_BAL_HI t := by show 0xE00100 + 0x10 * t + 4 = 0xE00104 + 0x10 * t; omega
    rw [← e]
    rfl
  rw [hostRead_row s _ _ hm hlo hl, readEffect_noRc _ _ _ rfl, hw, vlo]
  simp only [List.foldl, hhi, Option.map_some, vhi]

/-! ### Device time -/

/-- The table of TIM_NOW. -/
def timNowRow : RegRow := ⟨0xA00010, [(4, 3)], [⟨F.TIM_NOW_NOW, .ro, 0⟩]⟩

theorem view_timNow (s : State) (k : Nat) (h : k < 3) :
    s.view timNowRow (R.TIM_NOW k) = BitVec.ofNat 32 (s.nowTs / 2 ^ (32 * k)) := by
  interval_cases k <;> rfl

theorem regRow_timNow (k : Nat) (h : k < 3) : regRow (R.TIM_NOW k) = some timNowRow := by
  interval_cases k <;> rfl

/-- A read of the low word of device time answers it and latches the other two (R10, R26). -/
theorem hostRead_timNow (s : State) (hm : s.mode ≠ .boot) (hl : s.latched (R.TIM_NOW 0) = none) :
    s.hostRead (R.TIM_NOW 0) =
      ((s.latch (R.TIM_NOW 1) (some (BitVec.ofNat 32 (s.nowTs / 2 ^ 32)))).latch (R.TIM_NOW 2) (some (BitVec.ofNat 32 (s.nowTs / 2 ^ 64)))).emit
        (.read (R.TIM_NOW 0) (BitVec.ofNat 32 s.nowTs)) := by
  have hw : highWords timNowRow (R.TIM_NOW 0) = [R.TIM_NOW 1, R.TIM_NOW 2] := rfl
  rw [hostRead_row s _ _ hm (regRow_timNow 0 (by decide)) hl, readEffect_noRc _ _ _ rfl, hw, view_timNow s 0 (by decide)]
  simp only [List.foldl, regRow_timNow 1 (by decide), regRow_timNow 2 (by decide), Option.map_some, view_timNow _ 1 (by decide),
    view_timNow _ 2 (by decide), nowTs_latch, Nat.mul_zero, Nat.pow_zero, Nat.div_one, Nat.mul_one]

theorem gives_rcCounterRead (s : State) (off : Nat) (h : accessOk off 1 = true) : Gives (.rcCounterRead off) s (s.hostRead off) := by
  refine gives_of_done (congrArg done ?_)
  simp [h]

theorem gives_lowWordRead (s : State) (off ns : Nat) (h : accessOk off 1 = true) :
    Gives (.lowWordReadLatch off 1 ns) s ((s.arrive ns).hostRead off) := by
  refine gives_of_done (congrArg done ?_)
  simp [h]

theorem accessOk_balLo (t : Nat) (h : t < 16) : accessOk (R.LCS_UC_BAL_LO t) 1 = true := by
  revert t
  decide

/-- Settles O8: the cases of `hostRead` for an RC counter, for a low word, for a latched word and in BOOT. -/
theorem hostRegisterReads : Obligations.HostRegisterReads := by
  unfold Obligations.HostRegisterReads
  refine ⟨fun s hm hl => ?_, fun s t ns ht hm hl => ?_,
    fun s off ns w r hm ha hr hl => ?_, fun s ns hm hl => ?_, fun s off ns hm ha hb => ⟨?_, ?_⟩⟩
  · rw [← hostRead_lockviol s hm hl]
    exact gives_rcCounterRead s _ rfl
  · have h := gives_lowWordRead s _ ns (accessOk_balLo t ht)
    rwa [hostRead_balLo (s.arrive ns) t ht hm hl] at h
  · rw [← hostRead_latched (s.arrive ns) off r w hm hr hl]
    exact gives_lowWordRead s off ns ha
  · obtain ⟨t, he, hs⟩ := gives_lowWordRead s (R.TIM_NOW 0) ns rfl
    rw [hostRead_timNow (s.arrive ns) hm hl] at hs
    refine ⟨t, he, ?_, ?_, hs.mem, fun off ho => hs.rd ho⟩
    · rw [hs.latched, latched_emit, latched_latch_ne _ _ _ _ (by decide), latched_latch_same]
    · rw [hs.latched, latched_emit, latched_latch_same]
  · rw [← hostRead_boot s off hm hb]
    exact gives_rcCounterRead s off ha
  · rw [← hostRead_boot (s.arrive ns) off hm hb]
    exact gives_lowWordRead s off ns ha

end Sys2Proof.Machine
end

section
/-! PROOFS. What the device's activities outside GLB leave of GLB: the frame of a trip (O12). -/

namespace Sys2Proof.Machine

/-- The counters of the buffered quality records (R414) are registers outside GLB. -/
def State.dropsOutsideGlb (s : State) : Prop := ∀ r ∈ s.recd.qBuf, 0x100000 ≤ r.1

/-- `t` has the GLB registers of `s` and GLB's state beside them, and no new buffered record counts in GLB. -/
structure State.keepsGlb (s t : State) : Prop where
  glb : t.glb = s.glb
  rd : ∀ off < 0x100000, t.rd off = s.rd off
  drops : s.dropsOutsideGlb → t.dropsOutsideGlb

namespace State.keepsGlb

theorem refl (s : State) : s.keepsGlb s := ⟨rfl, fun _ _ => rfl, id⟩

variable {s t u : State}

theorem trans (h : s.keepsGlb t) (g : t.keepsGlb u) : s.keepsGlb u :=
  ⟨g.glb.trans h.glb, fun off ho => (g.rd off ho).trans (h.rd off ho), fun d => g.drops (h.drops d)⟩

/-- A change outside GLB, the register file and the quality buffer. -/
theorem of_eq (hg : t.glb = s.glb) (hr : t.regs = s.regs) (hq : t.recd.qBuf = s.recd.qBuf) : s.keepsGlb t :=
  ⟨hg, fun off _ => State.rd_congr hr off, fun d => by unfold dropsOutsideGlb; rwa [hq]⟩

theorem fld (h : s.keepsGlb t) {off : Nat} (ho : off < 0x100000) (f : Fld) : t.fld off f = s.fld off f := by
  rw [State.fld, h.rd off ho, State.fld]

theorem mode (h : s.keepsGlb t) : t.mode = s.mode := by
  rw [State.mode, h.fld (by decide), State.mode]

theorem wr (h : s.keepsGlb t) {off : Nat} {w : Word} (ho : 0x100000 ≤ off) : s.keepsGlb (t.wr off w) :=
  h.trans ⟨rfl, fun o _ => t.rd_wr_ne o off w (by omega), id⟩

theorem setFld (h : s.keepsGlb t) {off : Nat} {f : Fld} {v : Nat} (ho : 0x100000 ≤ off) : s.keepsGlb (t.setFld off f v) := h.wr ho

theorem inc (h : s.keepsGlb t) {off n : Nat} (ho : 0x100000 ≤ off) : s.keepsGlb (t.inc off n) := h.wr ho

section
variable (h : s.keepsGlb t)
include h

theorem emit {o : Out} : s.keepsGlb (t.emit o) := h.trans (of_eq rfl rfl rfl)
theorem draw : s.keepsGlb t.draw := h.trans (of_eq rfl rfl rfl)
theorem sramPut {a : Nat} {bs : List Byte} : s.keepsGlb (t.sramPut a bs) := h.trans (of_eq rfl rfl rfl)
theorem dramPut {a : Nat} {bs : List Byte} : s.keepsGlb (t.dramPut a bs) := h.trans (of_eq rfl rfl rfl)
theorem hostPut {a : Nat} {bs : List Byte} : s.keepsGlb (t.hostPut a bs) := h.trans (of_eq rfl rfl rfl)
theorem setSeq {n : Nat} {q : Seq} : s.keepsGlb (t.setSeq n q) := h.trans (of_eq rfl rfl rfl)
theorem setQueue {n : Nat} {q : Queue} : s.keepsGlb (t.setQueue n q) := h.trans (of_eq rfl rfl rfl)
theorem setMap {p : Nat} {m : MapP} : s.keepsGlb (t.setMap p m) := h.trans (of_eq rfl rfl rfl)
theorem setCam {c : Nat} {m : Cam} : s.keepsGlb (t.setCam c m) := h.trans (of_eq rfl rfl rfl)
theorem putCtx {k : Nat} {c : Option Ctx} : s.keepsGlb (t.putCtx k c) := h.trans (of_eq rfl rfl rfl)
theorem saveCtx {k : Nat} {c : Ctx} : s.keepsGlb (t.saveCtx k c) := h.putCtx.sramPut.draw
theorem tileFld {i v : Nat} {f : Fld} : s.keepsGlb (t.tileFld i f v) := h.sramPut
theorem tsc {x : Tsc} : s.keepsGlb { t with tsc := x } := h.trans (of_eq rfl rfl rfl)
theorem hq {x : Hq} : s.keepsGlb { t with hq := x } := h.trans (of_eq rfl rfl rfl)
theorem cal {x : Cal} : s.keepsGlb { t with cal := x } := h.trans (of_eq rfl rfl rfl)
theorem bld {x : Bld} : s.keepsGlb { t with bld := x } := h.trans (of_eq rfl rfl rfl)
theorem trc {x : Trc} : s.keepsGlb { t with trc := x } := h.trans (of_eq rfl rfl rfl)

end

theorem ite {p : Prop} [Decidable p] (ht : s.keepsGlb t) (hu : s.keepsGlb u) : s.keepsGlb (if p then t else u) := by
  split <;> assumption

theorem foldl {α : Type} {f : State → α → State} {l : List α} (h : s.keepsGlb t) (hf : ∀ (t : State) (a : α), t.keepsGlb (f t a)) :
    s.keepsGlb (l.foldl f t) := by
  induction l generalizing t with
  | nil => exact h
  | cons a l ih => exact ih (h.trans (hf t a))

end State.keepsGlb

open State.keepsGlb

/-! ## Interrupt vectors, Cairn records, the quality stream -/

theorem msix_keepsGlb (s : State) (v : Nat) : s.keepsGlb (s.msix v) :=
  ite (.wr (refl s) (by grind)) (of_eq rfl rfl rfl)

theorem irqSend_keepsGlb (s : State) (rose : Nat) : s.keepsGlb (s.irqSend rose) :=
  .foldl (refl s) fun t _ => ite (msix_keepsGlb t _) (refl t)

theorem recSync_keepsGlb (s : State) : s.keepsGlb s.recSync := .setFld (.wr (refl s) (by decide)) (by decide)

theorem stage_keepsGlb (s : State) (src code : Nat) (p pfl : Bool) (time : Nat) (payload : List Byte) :
    s.keepsGlb (s.stage src code p pfl time payload) := by
  unfold State.stage
  extract_lets r n perm c s1 s2
  have h1 : s.keepsGlb s1 := of_eq rfl rfl rfl
  have h2 : s.keepsGlb s2 := ite (h1.setFld (by decide)) h1
  exact (h2.wr (by decide)).trans (recSync_keepsGlb _)

theorem dropRecord_keepsGlb (s : State) (p counted : Bool) : s.keepsGlb (s.dropRecord p counted) := by
  unfold State.dropRecord
  extract_lets n s1 r s2
  have h1 : s.keepsGlb s1 := (refl s).wr (by decide)
  have h2 : s.keepsGlb s2 := h1.trans (of_eq rfl rfl rfl)
  exact ite (.setFld (.inc h2 (by split <;> decide)) (by decide)) h1

theorem cairnAt_keepsGlb (s : State) (src code : Nat) (p always : Bool) (time : Nat) (payload : List Byte) :
    s.keepsGlb (s.cairnAt src code p always time payload) := by
  unfold State.cairnAt
  extract_lets lost s1 dc dp rec s2
  have h1 : s.keepsGlb s1 := stage_keepsGlb s ..
  have h2 : s.keepsGlb s2 := h1.trans (of_eq rfl rfl rfl)
  exact ite (dropRecord_keepsGlb s ..) (ite (ite (h2.trans (stage_keepsGlb ..)) h1) (dropRecord_keepsGlb s ..))

theorem cairn_keepsGlb (s : State) (src code : Nat) (p : Bool) (payload : List Byte) : s.keepsGlb (s.cairn src code p payload) :=
  cairnAt_keepsGlb ..

/-- Dropped records count where their sources say. -/
theorem dropQuality_keepsGlb (s : State) (rs : List (Nat × List Byte)) (h : ∀ r ∈ rs, 0x100000 ≤ r.1) : s.keepsGlb (s.dropQuality rs) := by
  unfold State.dropQuality
  induction rs generalizing s with
  | nil => exact refl s
  | cons r t ih =>
    rw [List.forall_mem_cons] at h
    exact .trans (.inc (refl s) h.1) (ih _ h.2)

theorem flushQuality_keepsGlb (s : State) (h : s.dropsOutsideGlb) : s.keepsGlb s.flushQuality := by
  unfold State.flushQuality
  extract_lets rs rec s1 blk w r
  have h1 : s.keepsGlb s1 := ⟨rfl, fun _ _ => rfl, fun _ r hr => by cases hr⟩
  have hd : s.keepsGlb (s1.dropQuality rs) := h1.trans (dropQuality_keepsGlb s1 rs h)
  split
  · exact refl s
  split
  refine ite (ite hd ?_) (ite hd ?_)
  · exact .inc (.wr h1.dramPut (by decide)) (by decide)
  · exact .inc (.wr h1.dramPut.dramPut (by decide)) (by decide)

theorem quality_keepsGlb (s : State) (drop : Nat) (record : List Byte) (hd : 0x100000 ≤ drop) (h : s.dropsOutsideGlb) :
    s.keepsGlb (s.quality drop record) := by
  unfold State.quality
  extract_lets r since s1 w
  have hn : s1.dropsOutsideGlb := by
    intro r hr
    rcases List.mem_append.1 hr with hr | hr
    · exact h r hr
    · rw [List.mem_singleton.1 hr]
      exact hd
  have h1 : s.keepsGlb s1 := ⟨rfl, fun _ _ => rfl, fun _ => hn⟩
  have h2 : s.keepsGlb (s.inc drop 1) := (refl s).inc hd
  refine ite h2 (ite (ite (h1.trans (flushQuality_keepsGlb _ hn)) h1) ?_)
  split
  exact ite h2 (.wr (.dramPut (refl s)) (by decide))

/-! ## The ends of commands -/

theorem journal_keepsGlb (s : State) (c : Cmd) (state status tEnd result detail : Nat) :
    s.keepsGlb (s.journal c state status tEnd result detail) :=
  ite (.hostPut (.sramPut (refl s))) (.sramPut (refl s))

theorem setCmds_keepsGlb (s : State) (cs : List Cmd) : s.keepsGlb (s.setCmds cs) :=
  .setFld (.hq (refl s)) (by decide)

theorem ethSend_keepsGlb (s : State) (p : Nat) (o : Out) : s.keepsGlb (s.ethSend p o) :=
  .inc (.emit (refl s)) (by grind)

theorem complete_keepsGlb (s : State) (c : Cmd) (status result : Nat) : s.keepsGlb (s.complete c status result) := by
  unfold State.complete
  extract_lets q size tail p e s1 s2 Q s3 Q' d keep s4
  have h1 : s.keepsGlb s1 := (refl s).setFld (by grind)
  have h2 : s.keepsGlb s2 := ite (h1.setFld (by grind)) h1
  have h3 : s.keepsGlb s3 := h2.setQueue
  have h4 : s.keepsGlb s4 := ite h3.hostPut (h3.setQueue.trans (ethSend_keepsGlb ..))
  exact ite (h4.trans (msix_keepsGlb ..)) h4

theorem endCmd_keepsGlb (s : State) (c : Cmd) (status result detail : Nat) : s.keepsGlb (s.endCmd c status result detail) := by
  unfold State.endCmd
  extract_lets ok d s1 s2
  have h2 : s.keepsGlb s2 := (journal_keepsGlb ..).trans (setCmds_keepsGlb ..)
  exact ite h2 (h2.trans (complete_keepsGlb ..))

theorem endSeq_keepsGlb (s : State) (n status result detail : Nat) : s.keepsGlb (s.endSeq n status result detail) := by
  unfold State.endSeq
  split
  · exact endCmd_keepsGlb ..
  · exact refl s

theorem endPauseWaits_keepsGlb (s : State) : s.keepsGlb s.endPauseWaits := .foldl (refl s) fun _ _ => endCmd_keepsGlb ..

theorem calEnd_keepsGlb (s : State) (status : Nat) : s.keepsGlb (s.calEnd status) := by
  unfold State.calEnd
  extract_lets c cam s1 s2 s3 s4
  have h1 : s.keepsGlb s1 := ite (.setFld (refl s) (by grind)) (refl s)
  have h2 : s.keepsGlb s2 := h1.setFld (by decide)
  have h3 : s.keepsGlb s3 := ite (h2.setFld (by decide)) h2
  have h4 : s.keepsGlb s4 := h3.cal
  exact ite (refl s) (h4.trans (endSeq_keepsGlb ..))

/-! ## Tiles, contexts, heads -/

/-- A tile takes a state other than PARKED, which alone degrades the run (R178). -/
theorem setTile_keepsGlb (s : State) (i t : Nat) (h : t ≠ Ts.parked) : s.keepsGlb (s.setTile i t) := by
  unfold State.setTile
  extract_lets old s1 n
  have h1 : s.keepsGlb s1 := (refl s).tileFld
  rw [if_neg (fun e => h e.1)]
  exact ite (h1.wr (by decide)) h1

theorem prodFlag_keepsGlb (s : State) (r b : Nat) : s.keepsGlb (s.prodFlag r b) := ite (.sramPut (refl s)) (refl s)

theorem freeCtxOf_keepsGlb (s : State) (tile : Nat) (job : Option Nat) : s.keepsGlb (s.freeCtxOf tile job) := by
  refine .foldl (refl s) fun t k => ?_
  split
  · exact ite (.putCtx (refl t)) (refl t)
  · exact refl t

theorem colEnds_keepsGlb (s : State) (c : ColRun) : s.keepsGlb (s.colEnds c) := ite (.setFld (refl s) (by grind)) (refl s)

theorem freeHead_keepsGlb (s : State) (h : Nat) (linger : Bool) : s.keepsGlb (s.freeHead h linger) := by
  unfold State.freeHead
  extract_lets k act tsc s1
  have h1 : s.keepsGlb s1 := (refl s).tsc
  exact .setFld (h1.setFld (by grind)) (by grind)

theorem joined_keepsGlb (s : State) (h : Nat) : s.keepsGlb (s.joined h) := by
  unfold State.joined
  split
  · exact refl s
  · extract_lets s1 tsc s2
    have h2 : s.keepsGlb s2 := (freeCtxOf_keepsGlb ..).tsc
    exact ite (h2.trans (cairn_keepsGlb ..)) h2

theorem closeTile_keepsGlb (s : State) (h t : Nat) (ht : t ≠ Ts.parked) : s.keepsGlb (s.closeTile h t) := by
  unfold State.closeTile
  split
  · exact refl s
  · extract_lets d job q s1 s2 s3 s4 n q' s5 s6
    have h1 : s.keepsGlb s1 := ite (refl s) (joined_keepsGlb ..)
    have h2 : s.keepsGlb s2 := h1.trans (freeCtxOf_keepsGlb ..)
    have h3 : s.keepsGlb s3 := h2.trans (setTile_keepsGlb _ _ _ ht)
    have h4 : s.keepsGlb s4 := by
      unfold s4
      clear_value job
      split
      · exact ite h2 (h2.trans (prodFlag_keepsGlb ..))
      · exact ite (h3.inc (by decide)) h3
    have h6 : s.keepsGlb s6 := (h4.trans (colEnds_keepsGlb ..)).setSeq
    exact h6.trans (freeHead_keepsGlb ..)

theorem interrupt_keepsGlb (s : State) (fz : Bool) (h x : Nat) : s.keepsGlb (s.interrupt fz h x) := by
  unfold State.interrupt
  split
  · exact refl s
  · extract_lets n
    split
    · extract_lets s1
      have h1 : s.keepsGlb s1 := by
        refine .trans (.trans (.trans ?_ (prodFlag_keepsGlb ..)) (freeCtxOf_keepsGlb ..)) (colEnds_keepsGlb ..)
        exact ite (prodFlag_keepsGlb ..) (refl s)
      exact h1.setSeq.trans (freeHead_keepsGlb ..)
    · refine ite ?_ ?_
      · exact (colEnds_keepsGlb ..).setSeq.trans (closeTile_keepsGlb _ _ _ (by decide))
      · exact ((freeCtxOf_keepsGlb ..).saveCtx.tileFld.trans (setTile_keepsGlb _ _ _ (by decide))).setSeq.trans (freeHead_keepsGlb ..)

theorem interruptAll_keepsGlb (s : State) : s.keepsGlb s.interruptAll := .foldl (refl s) fun _ _ => interrupt_keepsGlb ..

/-! ## Triggers and mirror-array ports -/

theorem traceTrigger_keepsGlb (s : State) (k : Nat) : s.keepsGlb (s.traceTrigger k) := by
  unfold State.traceTrigger State.traceHit
  exact ite (ite (refl s) (.trc (.wr (.setFld (refl s) (by decide)) (by decide)))) (refl s)

theorem mapTrigger_keepsGlb (s : State) (k v : Nat) : s.keepsGlb (s.mapTrigger k v) :=
  .foldl (refl s) fun t _ => ite (.setMap (refl t)) (refl t)

theorem camDecide_keepsGlb (s : State) (c src ref x : Nat) : s.keepsGlb (s.camDecide c src ref x) :=
  ite (refl s) (ite (.inc (refl s) (by grind)) (.setCam (refl s)))

theorem camSource_keepsGlb (s : State) (src v x : Nat) : s.keepsGlb (s.camSource src v x) :=
  .foldl (refl s) fun t _ => ite (camDecide_keepsGlb ..) (refl t)

theorem postEvent_keepsGlb (s : State) (e : Nat) : s.keepsGlb (s.postEvent e) := by
  unfold State.postEvent
  extract_lets s1 s2
  have h1 : s.keepsGlb s1 := (refl s).wr (by grind)
  have h2 : s.keepsGlb s2 := (h1.trans (mapTrigger_keepsGlb ..)).trans (camSource_keepsGlb ..)
  exact ite (h2.trans (traceTrigger_keepsGlb ..)) h2

theorem setBuf_keepsGlb (s : State) (p b v : Nat) : s.keepsGlb (s.setBuf p b v) := .setFld (refl s) (by grind)

theorem syncDepth_keepsGlb (s : State) (p : Nat) : s.keepsGlb (s.syncDepth p) := .setFld (refl s) (by grind)

theorem clearRun_keepsGlb (s : State) (p cause : Nat) : s.keepsGlb (s.clearRun p cause) := by
  unfold State.clearRun
  extract_lets m back s1 s2 s3 s4 s5
  have h1 : s.keepsGlb s1 := .foldl (refl s) fun _ _ => setBuf_keepsGlb ..
  have h2 : s.keepsGlb s2 := by
    unfold s2
    split
    · exact ite h1 (h1.trans (setBuf_keepsGlb ..))
    · exact h1
  have h4 : s.keepsGlb s4 := (h2.setMap.trans (syncDepth_keepsGlb ..)).setFld (by grind)
  have h5 : s.keepsGlb s5 := ite (h4.trans (postEvent_keepsGlb ..)) h4
  exact h5.trans (cairn_keepsGlb ..)

/-- A frame's end may append to the quality stream (R307). -/
theorem endFrame_keepsGlb (s : State) (p : Nat) (f : Frame) (cut : Bool) (h : s.dropsOutsideGlb) : s.keepsGlb (s.endFrame p f cut) := by
  unfold State.endFrame
  extract_lets f' unshown m back s1 s2 s3 m' s4
  have h1 : s.keepsGlb s1 := by
    unfold s1
    split
    · exact refl s
    · refine ite (((refl s).setMap.trans (setBuf_keepsGlb ..)).trans (syncDepth_keepsGlb ..)) ?_
      extract_lets s0
      have h0 : s.keepsGlb s0 := by
        unfold s0
        split
        · exact ite (refl s) (setBuf_keepsGlb ..)
        · exact refl s
      exact h0.setMap.trans (setBuf_keepsGlb ..)
  have h2 : s.keepsGlb s2 := .foldl h1 fun t _ => ite (.wr (refl t) (by grind)) (refl t)
  have h3 : s.keepsGlb s3 := ite h2 (h2.inc (by decide))
  have h4 : s.keepsGlb s4 := h3.setMap
  exact ite (h4.trans (quality_keepsGlb _ _ _ (by grind) (h4.drops h))) h4

theorem mapStopNow_keepsGlb (s : State) (p cause : Nat) (h : s.dropsOutsideGlb) : s.keepsGlb (s.mapStopNow p cause) := by
  unfold State.mapStopNow
  extract_lets s1
  have h1 : s.keepsGlb s1 := by
    show s.keepsGlb (match (s.map p).cur with
      | some f => s.endFrame p f true
      | none => s)
    split
    · exact endFrame_keepsGlb _ _ _ _ h
    · exact refl s
  exact ite (refl s) (h1.trans (clearRun_keepsGlb ..))

/-! ## A change of mode -/

/-- The GLB registers that a change of mode writes itself. -/
def modeRegs : List Nat := [R.GLB_MODE, R.GLB_SAFE_CAUSE, R.GLB_SVC_CTRL, R.GLB_IRQ_SRC]

/-- `t` is in mode `m`, and else has what GLB held in `s`. -/
structure State.movesTo (s : State) (m : Mode) (t : State) : Prop where
  mode : t.mode = m
  glb : t.glb = s.glb
  rd : ∀ off < 0x100000, off ∉ modeRegs → t.rd off = s.rd off
  drops : s.dropsOutsideGlb → t.dropsOutsideGlb

theorem State.movesTo.keepsGlb {s t u : State} {m : Mode} (h : s.movesTo m t) (g : t.keepsGlb u) : s.movesTo m u :=
  ⟨g.mode.trans h.mode, g.glb.trans h.glb, fun off ho hn => (g.rd off ho).trans (h.rd off ho hn), fun d => g.drops (h.drops d)⟩

/-- A write of one of those registers that leaves GLB_MODE.MODE alone. -/
theorem State.movesTo.wr {s t : State} {m : Mode} (h : s.movesTo m t) {off : Nat} (w : Word) (ho : off ∈ modeRegs)
    (hm : (t.wr off w).mode = t.mode) : s.movesTo m (t.wr off w) :=
  ⟨hm.trans h.mode, h.glb, fun o h1 h2 => (t.rd_wr_ne o off w (fun e => h2 (e ▸ ho))).trans (h.rd o h1 h2), h.drops⟩

theorem Mode.ofCode_code (m : Mode) : Mode.ofCode m.code = m := by cases m <;> rfl

theorem enterMode_movesTo (s : State) (m : Mode) : s.movesTo m (s.enterMode m) := by
  unfold State.enterMode
  extract_lets old rose s1 s2
  have h1 : s.movesTo m s1 := by
    refine ⟨?_, rfl, fun off _ hn => ?_, id⟩
    · rw [State.mode, State.fld_setFld_same _ _ _ _ (by decide), Nat.mod_eq_of_lt (by cases m <;> decide), Mode.ofCode_code]
    · have hne : off ≠ R.GLB_MODE := fun e => hn (by simp [e, modeRegs])
      rw [State.rd_setFld_ne _ _ _ _ _ hne, State.rd_setFld_ne _ _ _ _ _ hne]
  have h2 : s.movesTo m s2 := h1.wr _ (by decide) (mode_wr _ _ _ (by decide))
  split
  · exact h2.keepsGlb (irqSend_keepsGlb ..)
  · exact h2

/-- A change of mode, with all that follows from it, moves GLB to the mode and leaves the interlock registers alone. -/
theorem setMode_movesTo (s : State) (m : Mode) (h : s.dropsOutsideGlb) : s.movesTo m (s.setMode m) := by
  unfold State.setMode
  extract_lets old s1 s2 tsc s3 s4 s5 diag bld s6 s7 s8
  have h1 : s.movesTo m s1 := enterMode_movesTo s m
  have h2 : s.movesTo m s2 := h1.wr _ (by decide) (mode_wr _ _ _ (by decide))
  have h3 : s.movesTo m s3 := by
    unfold s3
    split
    · exact h2.keepsGlb (.tsc (refl s2))
    · exact h1
  have g4 : s3.keepsGlb s4 := ite (calEnd_keepsGlb ..) (refl s3)
  have g5 : s3.keepsGlb s5 := ite (g4.trans (traceTrigger_keepsGlb ..)) g4
  have g6 : s3.keepsGlb s6 := ite g5.bld g5
  have d6 : s6.dropsOutsideGlb := g6.drops (h3.drops h)
  have i7 := mapStopNow_keepsGlb s6 0 1 d6
  have g7 : s3.keepsGlb s7 := ite ((g6.trans i7).trans (mapStopNow_keepsGlb _ 1 1 (i7.drops d6))) g6
  have g8 : s3.keepsGlb s8 := ite (g7.trans (mapTrigger_keepsGlb ..)) g7
  have h8 : s.movesTo m s8 := h3.keepsGlb g8
  split
  · exact h8
  · have hp : (s8.setFld R.GLB_MODE F.GLB_MODE_PENDING 0).mode = s8.mode := by
      rw [State.mode, State.fld_setFld_ne _ _ _ _ _ (by decide) (by decide), State.mode]
    exact (h8.wr _ (by decide) hp).keepsGlb (endPauseWaits_keepsGlb _)

/-! ## Entry to SAFE -/

/-- From a mode that a rank 2 event leaves, the device enters SAFE with the force-zero latched (R41, R51). -/
theorem enterSafe_from (s : State) (mask : Nat) (hf : safeFrom s.mode = true) (h : s.dropsOutsideGlb) :
    (s.enterSafe mask).mode = .safe ∧ (s.enterSafe mask).glb.latched = true ∧
      ∀ off < 0x100000, off ∉ modeRegs → (s.enterSafe mask).rd off = s.rd off := by
  have hs : s.mode ≠ .safe := fun e => by rw [e] at hf; cases hf
  unfold State.enterSafe State.enterSafeIf
  rw [if_neg hs, hf, if_neg (by decide)]
  extract_lets s1 since s2 glb s3 s4
  have h1 (off : Nat) (hn : off ∉ modeRegs) : s1.rd off = s.rd off :=
    s.rd_wr_ne _ _ _ fun e => hn (by simp [e, modeRegs])
  have g2 : s1.keepsGlb s2 := interruptAll_keepsGlb s1
  have d2 : s2.dropsOutsideGlb := g2.drops h
  clear_value s2
  have d3 : s3.dropsOutsideGlb := d2
  have h4 : s3.movesTo .safe s4 := setMode_movesTo s3 .safe d3
  have h5 := h4.keepsGlb (cairn_keepsGlb s4 1 1 true (leBytes (s4.rd R.GLB_SAFE_CAUSE).toNat 4 ++ leBytes since 12))
  exact ⟨h5.mode, congrArg Glb.latched h5.glb, fun off ho hn => (h5.rd off ho hn).trans ((g2.rd off ho).trans (h1 off hn))⟩

/-- In SAFE only GLB_SAFE_CAUSE is written. -/
theorem enterSafe_safe (s : State) (mask : Nat) (h : s.mode = .safe) :
    s.enterSafe mask = s.wr R.GLB_SAFE_CAUSE (s.rd R.GLB_SAFE_CAUSE ||| BitVec.ofNat 32 mask) := by
  simp [State.enterSafe, State.enterSafeIf, h]

/-- In BOOT and IDLE nothing happens. -/
theorem enterSafe_idle (s : State) (mask : Nat) (h : s.mode = .boot ∨ s.mode = .idle) : s.enterSafe mask = s := by
  rcases h with h | h <;> simp [State.enterSafe, State.enterSafeIf, h, safeFrom]

/-! ## Bits -/

theorem bit_eq_testBit (v n : Nat) : bit v n = v.testBit n := by
  rw [bit, Nat.testBit_eq_decide_div_mod_eq]
  rfl

theorem bit_setBit_same (v n : Nat) (b : Bool) : bit (setBit v n b) n = b := by
  have hp : 0 < 2 ^ n := by positivity
  unfold setBit
  cases hb : bit v n <;> cases b <;> simp only [if_true, if_false, Bool.false_eq_true] <;> try exact hb
  · simp only [bit, beq_eq_false_iff_ne, beq_iff_eq] at hb ⊢
    rw [Nat.add_div_right _ hp]
    omega
  · simp only [bit, beq_eq_false_iff_ne, beq_iff_eq] at hb ⊢
    have hv : 2 ^ n ≤ v := by
      by_contra hlt
      rw [Nat.div_eq_of_lt (by omega)] at hb
      cases hb
    rw [Nat.div_eq_sub_div hp hv] at hb
    omega

theorem bit_mod (v n w : Nat) (h : n < w) : bit (v % 2 ^ w) n = bit v n := by
  simp [bit_eq_testBit, Nat.testBit_mod_two_pow, h]

theorem and_ne_zero_of_bit {a b n : Nat} (ha : bit a n = true) (hb : bit b n = true) : a &&& b ≠ 0 := by
  intro e
  have h : (a &&& b).testBit n = true := by rw [Nat.testBit_and, ← bit_eq_testBit, ← bit_eq_testBit, ha, hb]; rfl
  simp [e] at h

/-! ## The trip -/

/-- The state in which a class S trip of input `i` asks for SAFE: the input's bits and counter are written, and its force-zero
is latched in SAFE and unlatched where emission is impossible (R37, R41). -/
def State.tripTaken (s : State) (i : Nat) : State :=
  let g : Glb := { s.glb with
    tripping := setBit s.glb.tripping i true
    force := if s.mode = Mode.boot ∨ s.mode = Mode.idle then setBit s.glb.force i true else s.glb.force
    latched := s.glb.latched || s.mode = Mode.safe
    forceSince := if s.forceZero then s.glb.forceSince else s.nowTs }
  let s := { s.setFld R.GLB_ILK_STAT F.GLB_ILK_STAT_LEVEL (setBit (s.fld R.GLB_ILK_STAT F.GLB_ILK_STAT_LEVEL) i false) with glb := g }
  (s.setFld R.GLB_ILK_STAT F.GLB_ILK_STAT_TRIPPED (setBit (s.fld R.GLB_ILK_STAT F.GLB_ILK_STAT_TRIPPED) i true)).inc (R.GLB_ILK_TRIPCNT i) 1

theorem exec_classSTrip (s : State) (i ns : Nat) (hi : i < 8) (hp : bit s.glb.pins i = false)
    (hu : bit (fget s.glb.ilkCfg F.GLB_ILK_CFG_USE) i = true)
    (hc : bit (fget s.glb.ilkCfg F.GLB_ILK_CFG_CLASS) i = true) (ht : bit s.glb.tripping i = false) :
    exec (.ilkTripConfirmed i ns) s = done (((s.arrive ns).tripTaken i).enterSafe (1 + 2 ^ (8 + i))) := by
  have h8 : ¬8 ≤ i := by omega
  have hm (f : Fld) (v : Nat) : ((s.arrive ns).setFld R.GLB_ILK_STAT f v).mode = (s.arrive ns).mode := mode_wr _ _ _ (by decide)
  have hz (f : Fld) (v : Nat) : ((s.arrive ns).setFld R.GLB_ILK_STAT f v).forceZero = (s.arrive ns).forceZero := rfl
  have hn (f : Fld) (v : Nat) : ((s.arrive ns).setFld R.GLB_ILK_STAT f v).nowTs = (s.arrive ns).nowTs := rfl
  simp only [exec, execIlkTripConfirmed, State.tripTaken, State.arrive_glb, State.setFld_glb, hp, hu, hc, ht, h8, hm, hz, hn]
  simp

/-- What R37, R39 and R41 say of the state `t` after a class S trip of input `i` in `s`. -/
def State.classSTripped (s : State) (i : Nat) (t : State) : Prop :=
  t.forceZero = true ∧ t.emitEn = false ∧ bit (t.fld R.GLB_ILK_STAT F.GLB_ILK_STAT_LEVEL) i = false ∧
    bit (t.fld R.GLB_ILK_STAT F.GLB_ILK_STAT_TRIPPED) i = true ∧ t.rd (R.GLB_ILK_TRIPCNT i) = satAdd (s.rd (R.GLB_ILK_TRIPCNT i)) 1 ∧
    ((safeFrom s.mode = true ∨ s.mode = .safe) → t.mode = .safe ∧ t.glb.latched = true) ∧
    ((s.mode = .boot ∨ s.mode = .idle) → t.mode = s.mode ∧ t.glb.latched = s.glb.latched)

theorem mode_cases (m : Mode) : safeFrom m = true ∨ m = .safe ∨ m = .boot ∨ m = .idle := by cases m <;> simp [safeFrom]

theorem tripcnt_ne (i : Nat) : R.GLB_ILK_TRIPCNT i ≠ R.GLB_ILK_STAT := by grind

theorem tripcnt_place (i : Nat) (hi : i < 8) :
    R.GLB_ILK_TRIPCNT i < 0x100000 ∧ R.GLB_ILK_TRIPCNT i ∉ modeRegs ∧ R.GLB_ILK_TRIPCNT i ∉ irqRegs := by
  revert i
  decide

theorem tripTaken_mode (s : State) (i : Nat) : (s.tripTaken i).mode = s.mode := by
  have h : R.GLB_ILK_TRIPCNT i ≠ R.GLB_MODE := by grind
  refine (mode_wr _ _ _ h).trans ((mode_wr _ _ _ (by decide)).trans ?_)
  exact mode_wr s R.GLB_ILK_STAT _ (by decide)

theorem tripTaken_level (s : State) (i : Nat) (hi : i < 8) :
    bit ((s.tripTaken i).fld R.GLB_ILK_STAT F.GLB_ILK_STAT_LEVEL) i = false := by
  simp only [State.tripTaken, State.inc]
  rw [State.fld_wr_ne _ _ _ _ _ (tripcnt_ne i).symm, State.fld_setFld_ne _ _ _ _ _ (by decide) (by decide)]
  refine (congrArg (bit · i) (s.fld_setFld_same R.GLB_ILK_STAT F.GLB_ILK_STAT_LEVEL _ (by decide))).trans ?_
  exact (bit_mod _ i 8 hi).trans (bit_setBit_same _ i false)

theorem tripTaken_tripped (s : State) (i : Nat) (hi : i < 8) :
    bit ((s.tripTaken i).fld R.GLB_ILK_STAT F.GLB_ILK_STAT_TRIPPED) i = true := by
  simp only [State.tripTaken, State.inc]
  rw [State.fld_wr_ne _ _ _ _ _ (tripcnt_ne i).symm, State.fld_setFld_same _ _ _ _ (by decide)]
  exact (bit_mod _ i 8 hi).trans (bit_setBit_same _ i true)

theorem tripTaken_tripcnt (s : State) (i : Nat) :
    (s.tripTaken i).rd (R.GLB_ILK_TRIPCNT i) = satAdd (s.rd (R.GLB_ILK_TRIPCNT i)) 1 := by
  simp only [State.tripTaken, State.inc, State.rd_wr_same]
  rw [State.rd_setFld_ne _ _ _ _ _ (tripcnt_ne i)]
  exact congrArg (satAdd · 1) (s.rd_setFld_ne _ R.GLB_ILK_STAT _ _ (tripcnt_ne i))

/-- In BOOT and IDLE the trip's own bit forces zero. -/
theorem tripTaken_forceZero (s : State) (i : Nat) (hu : bit (fget s.glb.ilkCfg F.GLB_ILK_CFG_USE) i = true) (hm : s.mode = .boot ∨ s.mode = .idle) :
    (s.tripTaken i).forceZero = true := by
  have hf : (s.tripTaken i).glb.force = setBit s.glb.force i true := if_pos hm
  have hc : (s.tripTaken i).glb.ilkCfg = s.glb.ilkCfg := rfl
  have h := and_ne_zero_of_bit (bit_setBit_same s.glb.force i true) hu
  simp [State.forceZero, hf, hc, h]

/-- Entry to SAFE leaves the interlock registers alone. -/
theorem enterSafe_rd (s : State) (mask off : Nat) (h : s.dropsOutsideGlb) (ho : off < 0x100000) (hn : off ∉ modeRegs) :
    (s.enterSafe mask).rd off = s.rd off := by
  rcases mode_cases s.mode with hm | hm | hm
  · exact (enterSafe_from s mask hm h).2.2 off ho hn
  · rw [enterSafe_safe s mask hm]
    exact s.rd_wr_ne _ _ _ fun e => hn (by simp [e, modeRegs])
  · rw [enterSafe_idle s mask hm]

theorem forceZero_of_latched {s : State} (h : s.glb.latched = true) : s.forceZero = true := by simp [State.forceZero, h]

/-- The mode and the force-zero after a class S trip, by the mode before it. -/
theorem tripTaken_enterSafe (s x : State) (i mask : Nat) (hu : bit (fget s.glb.ilkCfg F.GLB_ILK_CFG_USE) i = true) (h : s.dropsOutsideGlb)
    (hx : x = (s.tripTaken i).enterSafe mask) :
    x.forceZero = true ∧ ((safeFrom s.mode = true ∨ s.mode = .safe) → x.mode = .safe ∧ x.glb.latched = true) ∧
      ((s.mode = .boot ∨ s.mode = .idle) → x.mode = s.mode ∧ x.glb.latched = s.glb.latched) := by
  have hm := tripTaken_mode s i
  have hl : (s.tripTaken i).glb.latched = (s.glb.latched || decide (s.mode = Mode.safe)) := rfl
  have hd : (s.tripTaken i).dropsOutsideGlb := fun r hr => h r hr
  have hz := tripTaken_forceZero s i hu
  generalize s.tripTaken i = u at hx hm hl hd hz
  rcases mode_cases s.mode with hs | hs | hs
  · obtain ⟨h1, h2, -⟩ := enterSafe_from u mask (by rw [hm, hs]) hd
    rw [← hx] at h1 h2
    exact ⟨forceZero_of_latched h2, fun _ => ⟨h1, h2⟩, fun e => by rcases e with e | e <;> simp [e, safeFrom] at hs⟩
  · rw [enterSafe_safe u mask (hm.trans hs)] at hx
    have h2 : x.glb.latched = true := by rw [hx, State.wr_glb, hl]; simp [hs]
    refine ⟨forceZero_of_latched h2, fun _ => ⟨?_, h2⟩, fun e => by simp [hs] at e⟩
    rw [hx, mode_wr _ _ _ (by decide), hm, hs]
  · rw [enterSafe_idle u mask (hm ▸ hs)] at hx
    have hn : s.mode ≠ .safe := by rcases hs with hs | hs <;> simp [hs]
    have hf : safeFrom s.mode ≠ true := by rcases hs with hs | hs <;> simp [hs, safeFrom]
    subst hx
    exact ⟨hz hs, fun g => (g.elim hf hn).elim, fun _ => ⟨hm, by simp [hl, hn]⟩⟩

/-- The next state of a command whose meaning is `done x` settles `x`. -/
theorem settles_of_exec {c : Instr} {s t x : State} (h : exec c s = done x) (ht : exec c s = .next t) : t.settles x := by
  rw [h, done_next] at ht
  cases ht
  exact irqSync_settles x

/-- A settled state keeps what the interlock view depends on. -/
theorem State.settles.mode {t x : State} (h : t.settles x) : t.mode = x.mode := by
  rw [State.mode, h.fld _ (by decide), State.mode]

theorem State.settles.forceZero {t x : State} (h : t.settles x) : t.forceZero = x.forceZero := by
  rw [State.forceZero, h.glb, State.forceZero]

/-- R37, R39 and R41 hold of every class S trip, once the buffered quality records count outside GLB, as they do where the model itself
fills the buffer. -/
theorem classSTrip_of_dropsOutsideGlb (s : State) (i ns : Nat) (hi : i < 8) (hp : bit s.glb.pins i = false)
    (hu : bit (fget s.glb.ilkCfg F.GLB_ILK_CFG_USE) i = true) (hc : bit (fget s.glb.ilkCfg F.GLB_ILK_CFG_CLASS) i = true)
    (ht : bit s.glb.tripping i = false) (h : s.dropsOutsideGlb) : Runs (.ilkTripConfirmed i ns) s fun t => s.classSTripped i t := by
  obtain ⟨t, he, hs⟩ := gives_of_done (exec_classSTrip s i ns hi hp hu hc ht)
  obtain ⟨hz, hsafe, hidle⟩ := tripTaken_enterSafe (s.arrive ns) _ i (1 + 2 ^ (8 + i)) hu h rfl
  have hrd (off : Nat) (ho : off < 0x100000) (hn : off ∉ modeRegs) (hq : off ∉ irqRegs) : t.rd off = ((s.arrive ns).tripTaken i).rd off :=
    (hs.rd hq).trans (enterSafe_rd _ _ off h ho hn)
  have hstat (f : Fld) : t.fld R.GLB_ILK_STAT f = ((s.arrive ns).tripTaken i).fld R.GLB_ILK_STAT f := by
    rw [State.fld, hrd _ (by decide) (by decide) (by decide), State.fld]
  obtain ⟨hc1, hc2, hc3⟩ := tripcnt_place i hi
  have hzt : t.forceZero = true := hs.forceZero.trans hz
  refine ⟨t, he, hzt, by simp [State.emitEn, hzt], ?_, ?_, ?_, fun g => ?_, fun g => ?_⟩
  · rw [hstat, tripTaken_level _ _ hi]
  · rw [hstat, tripTaken_tripped _ _ hi]
  · rw [hrd _ hc1 hc2 hc3]
    exact tripTaken_tripcnt (s.arrive ns) i
  · rw [hs.mode, hs.glb]
    exact hsafe g
  · rw [hs.mode, hs.glb]
    exact hidle g

/-- The hypotheses hold together: ARMED with input 7 low and the compression buffer empty. -/
theorem classSTripped_armed :
    let s := State.reset.setFld R.GLB_MODE F.GLB_MODE_MODE Mode.armed.code
    Runs (.ilkTripConfirmed 7 0) s fun t => s.classSTripped 7 t :=
  classSTrip_of_dropsOutsideGlb _ 7 0 (by decide) (by decide +kernel) (by decide +kernel) (by decide +kernel) (by decide +kernel)
    fun _ h => by cases h

/-! ## A buffer that counts in GLB -/

/-- ARMED, with a frame in progress on array 0 that ends in a quality record, and a full compression buffer whose records name
GLB_ILK_TRIPCNT0 as the counter of their source. No run of the device fills the buffer so; the statement is about every state. -/
def strayDrops : State :=
  let s := State.reset.setFld R.GLB_MODE F.GLB_MODE_MODE Mode.armed.code
  let s := (s.setFld (R.MAP_STAT 0) F.MAP_STAT_RUN 1).wr R.REC_QS_CFG (fput (fput 0 F.REC_QS_CFG_EN 1) F.REC_QS_CFG_SBC 1)
  let f : Frame := ⟨0, none, false, false, false, 0, s.mapSet 0, [], 0, 0, false, false, false, false, false, [], true⟩
  { s with
    maps := [(0, { MapP.reset with ctl := fput 0 F.MAP_CTL_QREC 1, cur := some f })]
    recd := { Rec.reset with qBuf := List.replicate 127 (R.GLB_ILK_TRIPCNT 0, []) } }

/-- The trip's own count, and 127 stray ones. -/
theorem strayDrops_tripcnt :
    (((strayDrops.arrive 0).tripTaken 0).enterSafe (1 + 2 ^ (8 + 0))).rd (R.GLB_ILK_TRIPCNT 0) = 128 := by decide +kernel

/-- Refutes O12: it speaks of every state, also of one whose compression buffer names a GLB counter for its records. The frame that ends with the
entry to SAFE fills the buffer, the ring has no room, and the dropped records count into GLB_ILK_TRIPCNT0. For all other states
`classSTrip_of_dropsOutsideGlb` proves it. -/
theorem not_classSTrip : ¬ Obligations.ClassSTrip := by
  unfold Obligations.ClassSTrip
  intro h
  have hp : bit strayDrops.glb.pins 0 = false ∧ bit (fget strayDrops.glb.ilkCfg F.GLB_ILK_CFG_USE) 0 = true ∧
      bit (fget strayDrops.glb.ilkCfg F.GLB_ILK_CFG_CLASS) 0 = true ∧ bit strayDrops.glb.tripping 0 = false := by decide +kernel
  obtain ⟨hpin, huse, hclass, htrip⟩ := hp
  obtain ⟨t, ht, -, -, -, -, hcount, -⟩ := h strayDrops 0 0 (by decide) hpin huse hclass htrip
  have hs := settles_of_exec (exec_classSTrip strayDrops 0 0 (by decide) hpin huse hclass htrip) ht
  rw [hs.rd (by decide), strayDrops_tripcnt] at hcount
  exact absurd hcount (by decide +kernel)

end Sys2Proof.Machine
end

section
/-! PROOFS. A step runs the front command (O1), and every step keeps the agreement of GLB_IRQ_SRC with the status bits (O3). -/

namespace Sys2Proof.Machine

theorem step_idle (s : State) (h : s.pending = []) : step s = .next s := by
  simp [step, h]

theorem step_front (s : State) (c : Instr) (rest : List Instr) (h : s.pending = c :: rest) :
    step s = exec c { s with pending := rest } := by
  simp [step, h]

/-- Settles O1: the two cases of `step`. -/
theorem stepRunsTheFrontCommand : Obligations.StepRunsTheFrontCommand := by
  unfold Obligations.StepRunsTheFrontCommand
  exact ⟨fun c rest _ => step_front _ c rest rfl, step_idle⟩

/-- Every command ends by gathering the interrupts, which restores the agreement whatever the state before (R32). -/
theorem exec_irqAgrees {c : Instr} {s t : State} (h : exec c s = .next t) : t.irqAgrees := by
  obtain ⟨x, hx⟩ := exec_gathers c s
  exact done_irqAgrees (hx.symm.trans h)

theorem step_keeps_irqAgrees {s t : State} (hs : s.irqAgrees) (h : step s = .next t) : t.irqAgrees := by
  cases hp : s.pending with
  | nil =>
    rw [step_idle s hp] at h
    cases h
    exact hs
  | cons c rest => exact exec_irqAgrees ((step_front s c rest hp).symm.trans h)

/-- Settles O3: every meaning ends by gathering the interrupts, and an idle step changes nothing. -/
theorem everyStepKeepsIrqAgreement : Obligations.EveryStepKeepsIrqAgreement := by
  unfold Obligations.EveryStepKeepsIrqAgreement
  exact ⟨fun _ _ => step_keeps_irqAgrees, fun _ _ _ => exec_irqAgrees⟩

end Sys2Proof.Machine
end

section
/-! PROOFS. Interrupt enables and MSI-X masks (O5): which vector each write sends, or leaves pending. -/

namespace Sys2Proof.Machine

/-! ## States that agree already -/

/-- GLB and HQ below the status registers, and MSI-X above them, raise no source (Table 1-9). -/
theorem irqBits_of_outside (off : Nat) (w : Word) (h : off < 0x200000 ∨ 0xF00000 ≤ off) : irqBits off w = 0 := by
  unfold irqBits
  split
  · rfl
  · rw [if_neg (by omega), if_neg (by omega), if_neg (by omega), if_neg (by rintro rfl; revert h; decide), if_neg (by omega)]

theorem irqAgrees_wr {s : State} (off : Nat) (w : Word) (h : s.irqAgrees) (ho : off < 0x200000 ∨ 0xF00000 ≤ off) (hn : off ≠ R.GLB_IRQ_SRC) :
    (s.wr off w).irqAgrees := by
  rw [State.irqAgrees, State.fld_wr_ne _ _ _ _ _ hn.symm, irqSources_wr _ _ _ fun w => irqBits_of_outside off w ho]
  exact h

theorem State.sentFrom.irqAgrees {t x : State} (h : t.sentFrom x) (hx : x.irqAgrees) : t.irqAgrees := by
  obtain ⟨-, hrd, hsrc, -⟩ := h
  rw [State.irqAgrees, hsrc, State.fld, hrd _ (by decide) (by decide)]
  exact hx

/-- In agreement, the gathering finds nothing to do. -/
theorem irqSync_of_irqAgrees {x : State} (h : x.irqAgrees) : x.irqSync = x := if_pos (Eq.symm h)

theorem runs_of_done {c : Instr} {s x : State} {P : State → Prop} (h : exec c s = done x) (ha : x.irqAgrees) (hp : P x) : Runs c s P :=
  ⟨x, by rw [h, done_next, irqSync_of_irqAgrees ha], hp⟩

/-! ## One vector (R57) -/

theorem msix_of_masked (s : State) (v : Nat) (h : s.fld (R.MSIX_CTRL v) F.MSIX_CTRL_MASK = 1) :
    s.msix v = s.wr (R.MSIX_PBA (v / 32)) (s.rd (R.MSIX_PBA (v / 32)) ||| BitVec.ofNat 32 (2 ^ (v % 32))) := if_pos h

theorem msix_of_unmasked (s : State) (v : Nat) (h : s.fld (R.MSIX_CTRL v) F.MSIX_CTRL_MASK = 0) :
    s.msix v = s.emit (.msix ((s.rd (R.MSIX_ADDR_LO v)).toNat + (s.rd (R.MSIX_ADDR_HI v)).toNat * 2 ^ 32) (s.rd (R.MSIX_DATA v))) :=
  if_neg (by rw [h]; decide)

theorem rd_msix_ne (s : State) (v off : Nat) (h : off ≠ R.MSIX_PBA (v / 32)) : (s.msix v).rd off = s.rd off := by
  unfold State.msix
  split
  · exact s.rd_wr_ne _ _ _ h
  · rfl

theorem irqVec_lt (s : State) (i : Nat) : s.irqVec i < 64 := Nat.mod_lt _ (by decide)

theorem bit_two_pow_self (k : Nat) : bit (2 ^ k) k = true := by rw [bit_eq_testBit, Nat.testBit_two_pow_self]

theorem bit_or_two_pow (w : Word) (k : Nat) (h : k < 32) : bit (w ||| BitVec.ofNat 32 (2 ^ k)).toNat k = true := by
  rw [bit_eq_testBit, BitVec.testBit_toNat, BitVec.getLsbD_or, BitVec.getLsbD_ofNat, Nat.testBit_two_pow_self]
  simp [h]

theorem bit_clear_two_pow (w : Word) (k : Nat) : bit (w &&& ~~~BitVec.ofNat 32 (2 ^ k)).toNat k = false := by
  rw [bit_eq_testBit, BitVec.testBit_toNat, BitVec.getLsbD_and, BitVec.getLsbD_not, BitVec.getLsbD_ofNat, Nat.testBit_two_pow_self]
  cases decide (k < 32) <;> simp

/-! ## GLB_IRQ_EN (R32) -/

/-- One enabled source alone rises: its vector is sent, and the others of the nine send none. -/
theorem irqSend_two_pow (s : State) (i : Nat) (hi : i < 9) (he : bit (s.fld R.GLB_IRQ_EN F.GLB_IRQ_EN_EN) i = true) :
    s.irqSend (2 ^ i) = s.msix (s.irqVec i) := by
  unfold State.irqSend
  interval_cases i <;> simp [List.range, List.range.loop, bit] at he ⊢ <;> simp [he]

theorem irqEn_setFld_two_pow (s : State) (i : Nat) (hi : i < 9) :
    (s.setFld R.GLB_IRQ_EN F.GLB_IRQ_EN_EN (2 ^ i)).fld R.GLB_IRQ_EN F.GLB_IRQ_EN_EN = 2 ^ i := by
  rw [State.fld_setFld_same _ _ _ _ (by decide), Nat.mod_eq_of_lt (Nat.pow_lt_pow_right (by decide) hi)]

/-- A bit of GLB_IRQ_SRC.SRC, in the register's word. -/
theorem bit_irqSrc (s : State) (i : Nat) (hi : i < 8) (ha : s.irqAgrees) : bit (s.rd R.GLB_IRQ_SRC).toNat i = bit s.irqSources i := by
  rw [← ha, State.fld, fget, pow_zero, Nat.div_one, bit_mod _ _ _ hi]

/-- With no source enabled, enabling one whose bit reads 1 sends its vector. -/
theorem irqEnWrite_two_pow (s : State) (i : Nat) (hi : i < 8) (ha : s.irqAgrees) (hb : bit s.irqSources i = true)
    (he : s.fld R.GLB_IRQ_EN F.GLB_IRQ_EN_EN = 0) :
    s.irqEnWrite (BitVec.ofNat 32 (2 ^ i)) = (s.setFld R.GLB_IRQ_EN F.GLB_IRQ_EN_EN (2 ^ i)).msix (s.irqVec i) := by
  have hv : fget (BitVec.ofNat 32 (2 ^ i)) F.GLB_IRQ_EN_EN = 2 ^ i := by interval_cases i <;> rfl
  have hrose : (2 ^ i - (2 ^ i &&& 0)) &&& (s.rd R.GLB_IRQ_SRC).toNat = 2 ^ i := by
    rw [Nat.and_zero, Nat.sub_zero, Nat.two_pow_and, ← bit_eq_testBit, bit_irqSrc s i hi ha, hb]
    exact Nat.mul_one _
  have hvec : (s.setFld R.GLB_IRQ_EN F.GLB_IRQ_EN_EN (2 ^ i)).irqVec i = s.irqVec i := by
    rw [State.irqVec, State.rd_setFld_ne _ _ _ _ _ (by grind), State.irqVec]
  simp only [State.irqEnWrite]
  rw [hv, he, hrose, irqSend_two_pow _ i (by omega) (by rw [irqEn_setFld_two_pow s i (by omega), bit_two_pow_self]), hvec]

/-! ## MSIX_CTRL (R57) -/

/-- Clearing the mask of a vector left pending takes it from the pending bits and sends it. -/
theorem msixMaskWrite_zero (s : State) (i : Nat) (hi : i < 64) (hp : bit (s.rd (R.MSIX_PBA (i / 32))).toNat (i % 32) = true) :
    s.msixMaskWrite i 0 =
      ((s.setFld (R.MSIX_CTRL i) F.MSIX_CTRL_MASK 0).wr (R.MSIX_PBA (i / 32))
          (s.rd (R.MSIX_PBA (i / 32)) &&& ~~~BitVec.ofNat 32 (2 ^ (i % 32)))).emit
        (.msix ((s.rd (R.MSIX_ADDR_LO i)).toNat + (s.rd (R.MSIX_ADDR_HI i)).toNat * 2 ^ 32) (s.rd (R.MSIX_DATA i))) := by
  have hf : fget (0 : Word) F.MSIX_CTRL_MASK = 0 := rfl
  have hpba : (s.setFld (R.MSIX_CTRL i) F.MSIX_CTRL_MASK 0).rd (R.MSIX_PBA (i / 32)) = s.rd (R.MSIX_PBA (i / 32)) :=
    State.rd_setFld_ne _ _ _ _ _ (by grind)
  have hm (w : Word) : ((s.setFld (R.MSIX_CTRL i) F.MSIX_CTRL_MASK 0).wr (R.MSIX_PBA (i / 32)) w).fld (R.MSIX_CTRL i) F.MSIX_CTRL_MASK = 0 := by
    rw [State.fld_wr_ne _ _ _ _ _ (by grind), State.fld_setFld_same _ _ _ _ (by decide), Nat.zero_mod]
  have hrd (w : Word) (off : Nat) (ho : off = R.MSIX_ADDR_LO i ∨ off = R.MSIX_ADDR_HI i ∨ off = R.MSIX_DATA i) :
      ((s.setFld (R.MSIX_CTRL i) F.MSIX_CTRL_MASK 0).wr (R.MSIX_PBA (i / 32)) w).rd off = s.rd off := by
    rw [State.rd_wr_ne _ _ _ _ (by grind), State.rd_setFld_ne _ _ _ _ _ (by grind)]
  simp only [State.msixMaskWrite, hf]
  rw [hpba, if_pos ⟨trivial, hp⟩, msix_of_unmasked _ _ (hm _), hrd _ _ (.inl rfl), hrd _ _ (.inr (.inl rfl)), hrd _ _ (.inr (.inr rfl))]

/-- A write that masks a vector only stores the bit. -/
theorem msixMaskWrite_one (s : State) (i : Nat) : s.msixMaskWrite i 1 = s.setFld (R.MSIX_CTRL i) F.MSIX_CTRL_MASK 1 := by
  have hf : fget (1 : Word) F.MSIX_CTRL_MASK = 1 := rfl
  simp only [State.msixMaskWrite, hf]
  exact if_neg fun h => absurd h.1 (by decide)

/-! ## The commands -/

theorem exec_irqEnableWrite (s : State) (v : Word) (h : s.mode ≠ .boot) : exec (.irqEnableWrite v) s = done (s.irqEnWrite v) :=
  hostOp_run s (fun s => s.irqEnWrite v) h

theorem exec_msixVectorUnmask (s : State) (i : Nat) (v : Word) (hi : i < 64) (h : s.mode ≠ .boot) :
    exec (.msixVectorUnmask i v) s = done (s.msixMaskWrite i v) := by
  refine (hostOp_run s (fun s => if 64 ≤ i then s else s.msixMaskWrite i v) h).trans ?_
  rw [if_neg (by omega)]

/-- The vector of the source that is enabled: sent when unmasked, else left pending. -/
theorem irqEnableWrite_sends (s : State) (i : Nat) (hi : i < 8) (hm : s.mode ≠ .boot) (ha : s.irqAgrees) (hb : bit s.irqSources i = true)
    (he : s.fld R.GLB_IRQ_EN F.GLB_IRQ_EN_EN = 0) :
    Runs (.irqEnableWrite (BitVec.ofNat 32 (2 ^ i))) s fun t =>
      t = (s.setFld R.GLB_IRQ_EN F.GLB_IRQ_EN_EN (2 ^ i)).msix (s.irqVec i) := by
  refine runs_of_done (exec_irqEnableWrite s _ hm) ?_ (irqEnWrite_two_pow s i hi ha hb he)
  rw [irqEnWrite_two_pow s i hi ha hb he]
  exact (msix_sentFrom _ _ (irqVec_lt s i)).irqAgrees (irqAgrees_wr _ _ ha (by decide) (by decide))

/-- The vector whose mask clears: its pending message is sent. -/
theorem msixVectorUnmask_sends (s : State) (i : Nat) (hi : i < 64) (hm : s.mode ≠ .boot) (ha : s.irqAgrees)
    (hp : bit (s.rd (R.MSIX_PBA (i / 32))).toNat (i % 32) = true) :
    Runs (.msixVectorUnmask i 0) s fun t => t = s.msixMaskWrite i 0 := by
  refine runs_of_done (exec_msixVectorUnmask s i 0 hi hm) ?_ rfl
  rw [msixMaskWrite_zero s i hi hp]
  exact irqAgrees_wr _ _ (irqAgrees_wr _ _ ha (.inr (by grind)) (by grind)) (.inr (by grind)) (by grind)

/-- Settles O5: each write sends one vector by `msix`, and finds GLB_IRQ_SRC in agreement at its end. -/
theorem interruptSending : Obligations.InterruptSending := by
  unfold Obligations.InterruptSending
  refine ⟨fun s i hi hm ha hb he => ?_, fun s i hi hm ha hp => ?_, fun s i hi hm => ?_, fun s v i hm => ⟨?_, ?_⟩⟩
  · obtain ⟨t, ht, rfl⟩ := irqEnableWrite_sends s i hi hm ha hb he
    have hv := irqVec_lt s i
    have hctrl : (s.setFld R.GLB_IRQ_EN F.GLB_IRQ_EN_EN (2 ^ i)).fld (R.MSIX_CTRL (s.irqVec i)) F.MSIX_CTRL_MASK =
        s.fld (R.MSIX_CTRL (s.irqVec i)) F.MSIX_CTRL_MASK := State.fld_setFld_off _ _ _ _ _ _ (by grind)
    have hrd (off : Nat) (ho : off ≠ R.GLB_IRQ_EN) : (s.setFld R.GLB_IRQ_EN F.GLB_IRQ_EN_EN (2 ^ i)).rd off = s.rd off :=
      State.rd_setFld_ne _ _ _ _ _ ho
    obtain ⟨hcore, -⟩ := msix_sentFrom (s.setFld R.GLB_IRQ_EN F.GLB_IRQ_EN_EN (2 ^ i)) _ hv
    refine ⟨_, ht, ?_, hcore, fun off h1 h2 => ?_, fun hk => ?_, fun hk => ?_⟩
    · rw [State.fld, rd_msix_ne _ _ _ (by grind), ← State.fld, irqEn_setFld_two_pow s i (by omega)]
    · rw [rd_msix_ne _ _ _ h2, hrd off h1]
    · rw [msix_of_unmasked _ _ (hctrl.trans hk)]
      refine ⟨hrd _ (by grind), ?_⟩
      rw [hrd _ (by grind), hrd _ (by grind), hrd _ (by grind)]
      rfl
    · rw [msix_of_masked _ _ (hctrl.trans hk), State.rd_wr_same]
      exact ⟨rfl, bit_or_two_pow _ _ (Nat.mod_lt _ (by decide))⟩
  · obtain ⟨t, ht, rfl⟩ := msixVectorUnmask_sends s i hi hm ha hp
    rw [msixMaskWrite_zero s i hi hp] at ht
    refine ⟨_, ht, ?_, ?_, rfl, rfl, fun off h1 h2 => ?_⟩
    · rw [State.fld, State.rd_emit, State.rd_wr_ne _ _ _ _ (by grind), ← State.fld, State.fld_setFld_same _ _ _ _ (by decide), Nat.zero_mod]
    · rw [State.rd_emit, State.rd_wr_same, bit_clear_two_pow]
    · rw [State.rd_emit, State.rd_wr_ne _ _ _ _ h2, State.rd_setFld_ne _ _ _ _ _ h1]
  · rw [← msixMaskWrite_one]
    exact gives_of_done (exec_msixVectorUnmask s i 1 hi hm)
  · exact gives_of_done (hostOp_boot s (fun s => s.irqEnWrite v) hm)
  · exact gives_of_done (hostOp_boot s (fun s => if 64 ≤ i then s else s.msixMaskWrite i v) hm)

end Sys2Proof.Machine
end

section
/-! PROOFS. Writes through the windows of SRAM and DRAM (O9, O10): a request whose bytes the rules judge alike is one run; and every such
write, like the data of a host access, keeps the canonical form of the memories. -/

namespace Sys2Proof.Machine

/-! ## Writes of SRAM -/

/-- A write whose bytes all have the class `c` is one run of that class. -/
theorem bar2Runs_uniform (cls : Nat → Bar2) (c : Bar2) (a : Nat) (bs : List Byte) (hb : bs ≠ [])
    (h : ∀ k, a ≤ k → k < a + bs.length → cls k = c) : bar2Runs cls a bs = [(c, a, bs)] := by
  induction bs generalizing a with
  | nil => exact absurd rfl hb
  | cons b t ih =>
    have hc : cls a = c := h a (le_refl a) (by simp)
    cases t with
    | nil => simp [bar2Runs, hc]
    | cons b' t =>
      have hr := ih (a + 1) (by simp) fun k h1 h2 => h k (by omega) (by simp at h2 ⊢; omega)
      rw [bar2Runs, hr]
      simp [hc]

theorem bar2Write_nil (s : State) (a : Nat) : s.bar2Write a [] = s := by simp [State.bar2Write, bar2Runs]

/-- A request of one class other than the gated ones acts as its one run; nothing is counted. -/
theorem bar2Write_uniform (s : State) (c : Bar2) (a : Nat) (bs : List Byte) (hb : bs ≠ []) (hg : c ≠ .gated) (ht : c ≠ .tiles)
    (h : ∀ k, a ≤ k → k < a + bs.length → s.bar2Class k = c) : s.bar2Write a bs = s.bar2Run (c, a, bs) := by
  simp [State.bar2Write, bar2Runs_uniform s.bar2Class c a bs hb h, hg, ht]

/-! ### The classes of Table 1-5 -/

theorem bar2Class_programs (s : State) (k : Nat) (h : k < 0x2000000) : s.bar2Class k = .gated := if_pos h

theorem bar2Class_host (s : State) (k : Nat) (h1 : 0x3A80000 ≤ k) (h2 : k < 0x4000000) : s.bar2Class k = .plain := by
  unfold State.bar2Class
  repeat rw [if_neg (by omega)]
  exact if_pos h2

/-- The live grids; the trace buffer and the waymark lists; the camera statistics to the core memory. -/
theorem bar2Class_readOnly (s : State) (k : Nat)
    (h : 0x2400000 ≤ k ∧ k < 0x2580000 ∨ 0x2800000 ≤ k ∧ k < 0x2C00000 ∨ 0x3200000 ≤ k ∧ k < 0x3A80000) : s.bar2Class k = .none := by
  unfold State.bar2Class
  rcases h with h | h | h
  all_goals
    repeat rw [if_neg (by omega)]
    exact if_pos h.2

/-! ### Requests in one region -/

theorem sramPut_nil (s : State) (a : Nat) : s.sramPut a [] = s := rfl

/-- The general host region takes every write (R28). -/
theorem bar2Write_host (s : State) (a : Nat) (bs : List Byte) (h1 : 0x3A80000 ≤ a) (h2 : a + bs.length ≤ 0x4000000) :
    s.bar2Write a bs = s.sramPut a bs := by
  by_cases hb : bs = []
  · rw [hb, bar2Write_nil, sramPut_nil]
  · exact bar2Write_uniform s .plain a bs hb (by decide) (by decide) fun k _ _ => bar2Class_host s k (by omega) (by omega)

/-- The program windows take a write in IDLE and SERVICE, and count one otherwise (R28, R481). -/
theorem bar2Write_programs (s : State) (a : Nat) (bs : List Byte) (hb : bs ≠ []) (h : a + bs.length ≤ 0x2000000) :
    s.bar2Write a bs = if s.unlocked then s.sramPut a bs else s.lockviol := by
  have hr := bar2Runs_uniform s.bar2Class .gated a bs hb fun k _ _ => bar2Class_programs s k (by omega)
  have hl := unlocked_lockviol s
  by_cases hu : s.unlocked = true <;> simp [State.bar2Write, hr, State.bar2Run, hl, hu]

/-- The regions that the host only reads take nothing. -/
theorem bar2Write_readOnly (s : State) (a : Nat) (bs : List Byte)
    (h : 0x2400000 ≤ a ∧ a + bs.length ≤ 0x2580000 ∨ 0x2800000 ≤ a ∧ a + bs.length ≤ 0x2C00000 ∨
      0x3200000 ≤ a ∧ a + bs.length ≤ 0x3A80000) : s.bar2Write a bs = s := by
  by_cases hb : bs = []
  · rw [hb, bar2Write_nil]
  · exact bar2Write_uniform s .none a bs hb (by decide) (by decide) fun k _ _ => bar2Class_readOnly s k (by omega)

theorem exec_bar2Write (s : State) (a ns : Nat) (bs : List Byte) (h : a + bs.length ≤ 0x4000000) :
    exec (.bar2Write a bs ns) s = done ((s.arrive ns).bar2Write a bs) :=
  congrArg done (if_neg (by omega))

/-! ## Writes of DRAM -/

@[simp] theorem fld_arrive (s : State) (ns off : Nat) (f : Fld) : (s.arrive ns).fld off f = s.fld off f := rfl

/-- The live regions 3 and 5 take a byte below the capacity (R61). -/
theorem bar4Byte_stored (s : State) (a : Nat) (hc : a < s.fld R.GLB_DRAM_CAP F.GLB_DRAM_CAP_CAP * 2 ^ 20)
    (hr : s.dramRegionOf a = some 3 ∨ s.dramRegionOf a = some 5) : s.bar4Byte a = (none, true) := by
  unfold State.bar4Byte
  rw [if_neg (by omega)]
  rcases hr with h | h <;> simp only [h]

/-- Beyond the capacity, in no live region, and in regions 2 and 4 a byte is not taken. -/
theorem bar4Byte_dropped (s : State) (a : Nat) (h : s.fld R.GLB_DRAM_CAP F.GLB_DRAM_CAP_CAP * 2 ^ 20 ≤ a ∨ s.dramRegionOf a = none ∨
    s.dramRegionOf a = some 2 ∨ s.dramRegionOf a = some 4) : s.bar4Byte a = (none, false) := by
  unfold State.bar4Byte
  split
  · rfl
  · next hc =>
    obtain h | h | h := h.resolve_left hc <;> simp only [h]

/-- A request of one byte that no frame buffer refuses stores the byte or drops it; nothing is counted. Its address stays a variable,
since the kernel does not come to an end unfolding the aperture's product. -/
theorem exec_bar4Write_byte (s : State) (x ns a : Nat) (b : Byte) (w : Bool) (hx : x < 0x10000000)
    (ha : s.fld R.HQ_APER F.HQ_APER_BASE * 2 ^ 28 + x = a) (h : (s.arrive ns).bar4Byte a = (none, w)) :
    exec (.bar4Write x [b] ns) s = done (if w then (s.arrive ns).dramPut a [b] else s.arrive ns) := by
  show execBar4Write x [b] ns s = _
  unfold execBar4Write
  rw [if_neg (by rw [List.length_singleton]; omega)]
  extract_lets u a' hit t t'
  obtain rfl : a' = a := ha
  clear_value a'
  have hb : u.bar4Byte a' = (none, w) := h
  have hit0 (p : Nat) : hit p = false := by
    simp only [hit, List.length_singleton, List.range_one, List.any_cons, List.any_nil, Nat.add_zero, hb]
    rfl
  have ht : t = if w then u.dramPut a' [b] else u := by
    simp only [t, List.length_singleton, List.range_one, List.foldl_cons, List.foldl_nil, Nat.add_zero, hb]
    rfl
  simp only [t', hit0, ht, Bool.false_eq_true, if_false]
  rfl

/-- Settles O9: the class of each region in Table 1-5, and the live region of a byte. -/
theorem windowWrites : Obligations.WindowWrites := by
  unfold Obligations.WindowWrites
  refine ⟨fun s a ns bs h1 h2 hb => ?_, fun s a ns bs h hb => ?_, fun s a ns bs h => ?_, fun s a ns bs h => ?_,
    fun s x ns b hx => ⟨fun hc hr => ?_, fun h => ?_⟩, fun s x ns bs h => ?_⟩
  · rw [← bar2Write_host (s.arrive ns) a bs h1 h2]
    exact gives_of_done (exec_bar2Write s a ns bs h2)
  · have hp := bar2Write_programs (s.arrive ns) a bs hb h
    have he := exec_bar2Write s a ns bs (by omega)
    rw [hp] at he
    exact gives_of_done he
  · have he := exec_bar2Write s a ns bs (by omega)
    rw [bar2Write_readOnly _ a bs h] at he
    exact gives_of_done he
  · exact gives_of_done (congrArg done (if_pos h))
  · exact gives_of_done (exec_bar4Write_byte s x ns _ b true hx rfl (bar4Byte_stored (s.arrive ns) _ (by rwa [fld_arrive]) hr))
  · exact gives_of_done (exec_bar4Write_byte s x ns _ b false hx rfl (bar4Byte_dropped (s.arrive ns) _ (by rwa [fld_arrive])))
  · exact gives_of_done (if_pos h)

/-! ## The canonical form -/

/-- Each run of a BAR2 request writes bytes, holds them, or counts. -/
theorem bar2Run_wf (s : State) (r : Bar2 × Nat × List Byte) (h : s.mem.wf = true) : (s.bar2Run r).mem.wf = true := by
  obtain ⟨c, a, bs⟩ := r
  have hput (a : Nat) : (s.sramPut a bs).mem.wf = true := s.sramPut_wf a bs h
  cases c with
  | none | columnBad => exact h
  | column | plain => exact hput a
  | gated | tiles =>
    simp only [State.bar2Run]
    split
    · exact hput a
    · exact h
  | grid i =>
    simp only [State.bar2Run, State.gridPut]
    split
    · exact h
    · exact hput a
  | control =>
    simp only [State.bar2Run, State.controlPut]
    split
    · exact hput _
    · split <;> exact h
  | curves =>
    simp only [State.bar2Run, State.curvePut]
    split
    · exact hput _
    · split <;> exact h

theorem bar2Write_wf (s : State) (a : Nat) (bs : List Byte) (h : s.mem.wf = true) : (s.bar2Write a bs).mem.wf = true := by
  unfold State.bar2Write
  refine List.foldlRecOn (motive := fun t : State => t.mem.wf = true) _ _ ?_ fun t ht r _ => bar2Run_wf t r ht
  split <;> exact h

theorem exec_bar4Write_wf (s : State) (x ns : Nat) (bs : List Byte) (h : s.mem.wf = true) :
    ∃ u, exec (.bar4Write x bs ns) s = done u ∧ u.mem.wf = true := by
  by_cases hx : 0x10000000 < x + bs.length
  · exact ⟨s, if_pos hx, h⟩
  · refine ⟨_, if_neg hx, ?_⟩
    have hput (l : List Nat) (a : Nat) (f : Nat → Bool) :
        (l.foldl (fun t i => if f i then t.dramPut (a + i) [bs.getD i 0] else t) (s.arrive ns)).mem.wf = true := by
      refine List.foldlRecOn (motive := fun t : State => t.mem.wf = true) l _ h fun t ht i _ => ?_
      split
      · exact t.dramPut_wf _ _ ht
      · exact ht
    split <;> split <;> exact hput _ _ _

/-- A next state has the memories of the state that its command gives. -/
theorem runs_mem_of_done {c : Instr} {s x : State} {P : State → Prop} (h : exec c s = done x) (hp : ∀ t : State, t.mem = x.mem → P t) :
    Runs c s P := by
  obtain ⟨t, ht, hs⟩ := gives_of_done h
  exact ⟨t, ht, hp t hs.mem⟩

/-- Settles O10: every write of a memory goes through `writeBytes`, which keeps the form and the bytes outside its range. -/
theorem memoryKeepsItsForm : Obligations.MemoryKeepsItsForm := by
  unfold Obligations.MemoryKeepsItsForm
  refine ⟨fun s a ns bs hw h1 h2 => ?_, fun s a ns bs hw h => ?_, fun s x ns b hw hx => ?_, fun s n off a ns bs hw => ?_⟩
  · have he := exec_bar2Write s a ns bs h2
    rw [bar2Write_host _ a bs h1 h2] at he
    refine runs_mem_of_done he fun t ht => ?_
    rw [State.sramBytes, ht]
    exact ⟨State.sramPut_wf _ a bs hw, readBytes_writeBytes _ a bs, fun k hk => sget_writeBytes_out _ a k bs hk, rfl, rfl⟩
  · refine runs_mem_of_done (exec_bar2Write s a ns bs (by omega)) fun t ht => ?_
    rw [ht]
    exact bar2Write_wf _ a bs hw
  · obtain ⟨u, he, hu⟩ := exec_bar4Write_wf s x ns [b] hw
    exact runs_mem_of_done he fun t ht => by rw [ht]; exact hu
  · refine runs_mem_of_done (x := (s.arrive ns).hostPut a bs) rfl fun t ht => ?_
    rw [State.hostBytes, ht]
    exact ⟨State.hostPut_wf _ a bs hw, readBytes_writeBytes _ a bs, fun k hk => sget_writeBytes_out _ a k bs hk, rfl⟩

end Sys2Proof.Machine
end

section
/-! PROOFS. The class P trip (O13), and the ends of a run (O16): both leave a running mode for one in which no tile runs. -/

namespace Sys2Proof.Machine

/-! ## The end of a run -/

/-- From EXPOSE or DEGRADED the change to HOLD or ARMED triggers the trace in HOLD and ends the PAUSE in progress; nothing else follows
from it. -/
theorem setMode_of_runMode (s : State) (m : Mode) (hr : s.runMode = true) (hm : m = .hold ∨ m = .armed) :
    s.setMode m = ((if m = .hold then (s.enterMode m).traceTrigger 2 else s.enterMode m).setFld R.GLB_MODE F.GLB_MODE_PENDING 0).endPauseWaits := by
  have ho : s.mode = .expose ∨ s.mode = .degraded := by simpa [State.runMode] using hr
  rcases ho with ho | ho <;> rcases hm with rfl | rfl <;> simp [State.setMode, ho]

/-- The device leaves the run for HOLD or ARMED, with no PAUSE in progress. The ports run on, so no frame ends and the compression buffer
stays out of it. -/
theorem setMode_endsRun (s : State) (m : Mode) (hr : s.runMode = true) (hm : m = .hold ∨ m = .armed) :
    s.movesTo m (s.setMode m) ∧ (s.setMode m).fld R.GLB_MODE F.GLB_MODE_PENDING = 0 := by
  rw [setMode_of_runMode s m hr hm]
  generalize hu : (if m = .hold then (s.enterMode m).traceTrigger 2 else s.enterMode m) = u
  have h1 : s.movesTo m u := by
    rw [← hu]
    exact (enterMode_movesTo s m).keepsGlb (.ite (traceTrigger_keepsGlb ..) (.refl _))
  have hp : (u.setFld R.GLB_MODE F.GLB_MODE_PENDING 0).mode = u.mode := by
    rw [State.mode, State.fld_setFld_ne _ _ _ _ _ (by decide) (by decide), State.mode]
  have hend := endPauseWaits_keepsGlb (u.setFld R.GLB_MODE F.GLB_MODE_PENDING 0)
  refine ⟨(h1.wr _ (by decide) hp).keepsGlb hend, ?_⟩
  rw [hend.fld (by decide), State.fld_setFld_same _ _ _ _ (by decide), Nat.zero_mod]

theorem State.keepsGlb.runMode {s t : State} (h : s.keepsGlb t) : t.runMode = s.runMode := by
  rw [State.runMode, h.mode, State.runMode]

/-! ## The class P trip (R42) -/

/-- The state in which a class P trip of input `i` acts: the input's bits and counter are written, and its force-zero is in effect,
unlatched in every mode (R37, R42). -/
def State.classPTaken (s : State) (i : Nat) : State :=
  { s.tripTaken i with glb := { s.glb with
      tripping := setBit s.glb.tripping i true
      force := setBit s.glb.force i true
      forceSince := if s.forceZero then s.glb.forceSince else s.nowTs } }

/-- What the trip does to the tiles and the mode: a run is interrupted and held, a HOLD counts one more input, and elsewhere every head is
interrupted (R42, R43). -/
def State.classPActs (s : State) (i : Nat) : State :=
  if s.runMode then ({ s.interruptAll with glb := { s.glb with holdTrips := 2 ^ i, holdPaused := false } }).setMode .hold
  else if s.mode = .hold then { s with glb := { s.glb with holdTrips := setBit s.glb.holdTrips i true } }
  else s.interruptAll

theorem exec_classPTrip (s : State) (i ns : Nat) (hi : i < 8) (hp : bit s.glb.pins i = false)
    (hu : bit (fget s.glb.ilkCfg F.GLB_ILK_CFG_USE) i = true)
    (hc : bit (fget s.glb.ilkCfg F.GLB_ILK_CFG_CLASS) i = false) (ht : bit s.glb.tripping i = false) :
    exec (.ilkTripConfirmed i ns) s = done (((s.arrive ns).classPTaken i).classPActs i) := by
  show execIlkTripConfirmed i ns s = _
  unfold execIlkTripConfirmed
  extract_lets u u1 since g safety unlatched inSafe force latched u2 u3
  have hsafety : safety = false := hc
  have hforce : force = setBit s.glb.force i true := if_pos (by simp [unlatched, hsafety])
  have hlatched : latched = s.glb.latched := by simp [latched, hsafety, g, u1, u]
  have hu3 : u3 = (s.arrive ns).classPTaken i := by
    simp only [u3, u2, hforce, hlatched]
    rfl
  rw [if_neg (by simp [u, hp, hi]), if_neg (by simp [u1, u, hu, ht]), if_neg (by simp [hsafety])]
  rw [← hu3, State.classPActs, apply_ite done, apply_ite done]

theorem classPTaken_rd (s : State) (i off : Nat) : (s.classPTaken i).rd off = (s.tripTaken i).rd off := rfl

theorem classPTaken_mode (s : State) (i : Nat) : (s.classPTaken i).mode = s.mode := tripTaken_mode s i

/-- What the trip's action leaves of GLB: the registers outside the mode's, and the force-zero. -/
structure State.keepsForce (s t : State) : Prop where
  rd : ∀ off < 0x100000, off ∉ modeRegs → t.rd off = s.rd off
  latched : t.glb.latched = s.glb.latched
  forceZero : t.forceZero = s.forceZero

theorem State.keepsGlb.keepsForce {s t : State} (h : s.keepsGlb t) : s.keepsForce t :=
  ⟨fun off ho _ => h.rd off ho, by rw [h.glb], by rw [State.forceZero, h.glb, State.forceZero]⟩

/-- In a run the trip enters a HOLD of its own; in any other mode the mode stays. -/
theorem classPActs_run (s : State) (i : Nat) (hr : s.runMode = true) :
    s.keepsForce (s.classPActs i) ∧ (s.classPActs i).mode = .hold ∧ (s.classPActs i).glb.holdTrips = 2 ^ i ∧
      (s.classPActs i).glb.holdPaused = false := by
  have hk := interruptAll_keepsGlb s
  have hm := hk.runMode.trans hr
  rw [State.classPActs, if_pos hr]
  generalize s.interruptAll = u at hk hm
  obtain ⟨h, -⟩ := setMode_endsRun { u with glb := { s.glb with holdTrips := 2 ^ i, holdPaused := false } } .hold hm (.inl rfl)
  refine ⟨⟨fun off ho hn => (h.rd off ho hn).trans (hk.rd off ho), ?_, ?_⟩, h.mode, ?_, ?_⟩
  · rw [h.glb]
  · rw [State.forceZero, h.glb, State.forceZero]
  · rw [h.glb]
  · rw [h.glb]

/-- In any other mode the trip leaves the mode alone. -/
theorem classPActs_noRun (s : State) (i : Nat) (hr : s.runMode = false) : s.keepsForce (s.classPActs i) ∧ (s.classPActs i).mode = s.mode := by
  rw [State.classPActs, if_neg (by simp [hr])]
  split
  · exact ⟨⟨fun _ _ _ => rfl, rfl, rfl⟩, rfl⟩
  · have hk := interruptAll_keepsGlb s
    exact ⟨hk.keepsForce, hk.mode⟩

theorem classPActs_keepsForce (s : State) (i : Nat) : s.keepsForce (s.classPActs i) := by
  cases hr : s.runMode with
  | true => exact (classPActs_run s i hr).1
  | false => exact (classPActs_noRun s i hr).1

/-- The trip's own bit of an in-use input forces zero, in every mode. -/
theorem classPTaken_forceZero (s : State) (i : Nat) (hu : bit (fget s.glb.ilkCfg F.GLB_ILK_CFG_USE) i = true) :
    (s.classPTaken i).forceZero = true := by
  have h := and_ne_zero_of_bit (bit_setBit_same s.glb.force i true) hu
  simp [State.forceZero, State.classPTaken, h]

/-- Settles O13: the trip's bit forces zero in every mode, and what follows from it changes neither the bit nor TRIPPED; only a run goes to
HOLD. -/
theorem classPTrip : Obligations.ClassPTrip := by
  unfold Obligations.ClassPTrip
  intro s i ns hi hp hu hc ht
  obtain ⟨t, he, hs⟩ := gives_of_done (exec_classPTrip s i ns hi hp hu hc ht)
  have hmode : ((s.arrive ns).classPTaken i).mode = s.mode := classPTaken_mode (s.arrive ns) i
  have hrun : ((s.arrive ns).classPTaken i).runMode = s.runMode := by rw [State.runMode, hmode, State.runMode]
  have hstat := tripTaken_tripped (s.arrive ns) i hi
  have hlatch : ((s.arrive ns).classPTaken i).glb.latched = s.glb.latched := rfl
  have hforce := classPTaken_forceZero (s.arrive ns) i hu
  rw [State.fld, ← classPTaken_rd] at hstat
  generalize (s.arrive ns).classPTaken i = u at *
  obtain ⟨hrd, hlatched, hkeeps⟩ := classPActs_keepsForce u i
  have hzero : t.forceZero = true := hs.forceZero.trans (hkeeps.trans hforce)
  refine ⟨t, he, hzero, by simp [State.emitEn, hzero], ?_, ?_, fun hr => ?_, fun hr => ?_⟩
  · rwa [hs.fld _ (by decide), State.fld, hrd _ (by decide) (by decide)]
  · rw [hs.glb, hlatched, hlatch]
  · rw [hs.mode, hs.glb]
    exact (classPActs_run u i (hrun.trans hr)).2
  · rw [hs.mode, (classPActs_noRun u i (hrun.trans hr)).2, hmode]

/-! ## PAUSE_COMPLETE and PAUSE_TIMEOUT (R49) -/

/-- A run that a PAUSE ends is in HOLD, marked as a HOLD of PAUSE, and no PAUSE is in progress. -/
theorem pauseHold_of_runMode (s : State) (hr : s.runMode = true) :
    s.pauseHold.mode = .hold ∧ s.pauseHold.fld R.GLB_MODE F.GLB_MODE_PENDING = 0 ∧ s.pauseHold.glb.holdPaused = true := by
  obtain ⟨h, hp⟩ := setMode_endsRun { s with glb := { s.glb with holdTrips := 0, holdPaused := true } } .hold hr (.inl rfl)
  exact ⟨h.mode, hp, congrArg Glb.holdPaused h.glb⟩

theorem exec_pauseComplete (s : State) (hr : s.runMode = true) (hp : s.fld R.GLB_MODE F.GLB_MODE_PENDING ≠ 0)
    (hv : ∀ h < 24, s.inVector h = false) : exec .pauseComplete s = done s.pauseHold :=
  if_neg (by simpa [hp, hr] using hv)

theorem exec_pauseComplete_early (s : State)
    (h : s.runMode = false ∨ s.fld R.GLB_MODE F.GLB_MODE_PENDING = 0 ∨ ∃ h < 24, s.inVector h = true) : exec .pauseComplete s = done s :=
  if_pos (by simpa [or_left_comm] using h)

/-- The heads that are still inside a vector stop at the first slot of the first tick not yet computed (R49). -/
def State.pauseStops (s : State) : State :=
  (List.range 24).foldl (fun s h => if s.inVector h then s.interrupt false h (1250 * (s.seq (s.seqOf h)).nextTick) else s) s

theorem pauseStops_keepsGlb (s : State) : s.keepsGlb s.pauseStops :=
  .foldl (.refl s) fun t _ => .ite (interrupt_keepsGlb ..) (.refl t)

theorem exec_pauseTimeout (s : State) (ns : Nat) (hr : s.runMode = true) (hp : s.fld R.GLB_MODE F.GLB_MODE_PENDING ≠ 0)
    (ht : s.glb.pauseAt + (s.fld R.GLB_PAUSE_CFG F.GLB_PAUSE_CFG_PAUSE_TMO + 1) * 1000 ≤ (s.arrive ns).now) :
    exec (.pauseTimeout ns) s = done (s.arrive ns).pauseStops.pauseHold := by
  refine if_neg ?_
  rintro (h | h | h)
  · exact hp h
  · have hn : (!s.runMode) = true := h
    simp [hr] at hn
  · exact absurd ht (Nat.not_le.2 h)

theorem exec_pauseTimeout_early (s : State) (ns : Nat)
    (ht : (s.arrive ns).now < s.glb.pauseAt + (s.fld R.GLB_PAUSE_CFG F.GLB_PAUSE_CFG_PAUSE_TMO + 1) * 1000) :
    exec (.pauseTimeout ns) s = done (s.arrive ns) := if_pos (.inr (.inr ht))

/-! ## RUN_COMPLETE (R168) -/

theorem exec_runComplete (s : State) (hr : s.runMode = true) (hf : ∀ i < s.ntiles, finalState (s.tileState i) = true)
    (hh : ∀ h < 24, s.held h = none) : exec .runComplete s = done (s.setMode .armed) :=
  if_pos (by simpa [hr] using ⟨hf, hh⟩)

theorem exec_runComplete_early (s : State)
    (h : s.runMode = false ∨ (∃ i < s.ntiles, finalState (s.tileState i) = false) ∨ ∃ h < 24, s.held h ≠ none) :
    exec .runComplete s = done s := by
  refine if_neg ?_
  rintro ⟨hr, hf, hh⟩
  rw [List.all_eq_true] at hf hh
  rcases h with h | ⟨i, hi, h⟩ | ⟨k, hk, h⟩
  · simp [h] at hr
  · simpa [h] using hf i (List.mem_range.2 hi)
  · exact h (Option.isNone_iff_eq_none.1 (hh k (List.mem_range.2 hk)))

/-- Settles O16: each end of a run is a change of mode from a running one, and every other case leaves the state as it is. -/
theorem pauseAndRunEnd : Obligations.PauseAndRunEnd := by
  unfold Obligations.PauseAndRunEnd
  refine ⟨fun s hr hp hv => ?_, fun s h => gives_of_done (exec_pauseComplete_early s h), fun s ns hr hp ht => ?_,
    fun s ns ht => gives_of_done (exec_pauseTimeout_early s ns ht), fun s hr hf hh => ?_, fun s h => gives_of_done (exec_runComplete_early s h)⟩
  · obtain ⟨t, he, hs⟩ := gives_of_done (exec_pauseComplete s hr hp hv)
    obtain ⟨hmode, hpend, hpaused⟩ := pauseHold_of_runMode s hr
    exact ⟨t, he, hs.mode.trans hmode, (hs.fld _ (by decide)).trans hpend, (congrArg Glb.holdPaused hs.glb).trans hpaused⟩
  · obtain ⟨t, he, hs⟩ := gives_of_done (exec_pauseTimeout s ns hr hp ht)
    obtain ⟨hmode, hpend, -⟩ := pauseHold_of_runMode (s.arrive ns).pauseStops ((pauseStops_keepsGlb _).runMode.trans hr)
    exact ⟨t, he, hs.mode.trans hmode, (hs.fld _ (by decide)).trans hpend⟩
  · obtain ⟨t, he, hs⟩ := gives_of_done (exec_runComplete s hr hf hh)
    exact ⟨t, he, hs.mode.trans (setMode_endsRun s .armed hr (.inr rfl)).1.mode⟩

end Sys2Proof.Machine
end

section
/-! PROOFS. The refusals of the mode operations (O14): the result code of each operation that Table 2-4 does not permit. -/

namespace Sys2Proof.Machine

/-! ## The shape of a refusal (R47) -/

/-- An operation that answers a result code and the state that it was given only writes GLB_MODE_RES. -/
theorem gives_refusal {c : Instr} {s : State} {op code : Nat} (hc : exec c s = hostOp s fun s => s.modeReq op) (hm : s.mode ≠ .boot)
    (h0 : op ≠ 0) (h : s.modeOp op = (code, s)) : Gives c s (s.wr R.GLB_MODE_RES (BitVec.ofNat 32 (op + 256 * code))) := by
  refine gives_of_done (hc.trans ((hostOp_run s _ hm).trans (congrArg done ?_)))
  simp only [State.modeReq, if_neg h0, h]

/-! ## WRONG_MODE -/

section
variable {s : State}

theorem opArm_wrongMode (h : s.mode ≠ .idle ∨ s.lc ≠ 2) : s.opArm = (St.wrongMode, s) := if_pos h
theorem opDisarm_wrongMode (h : s.mode ≠ .armed) : s.opDisarm = (St.wrongMode, s) := if_pos h
theorem opStart_wrongMode (h : s.mode ≠ .armed) : s.opStart = (St.wrongMode, s) := if_pos h
theorem opPause_wrongMode (h : s.runMode = false) : s.opPause = (St.wrongMode, s) := if_pos (by simp [h])
theorem opResume_wrongMode (h : s.mode ≠ .hold) : s.opResume = (St.wrongMode, s) := if_pos h
theorem opEnterService_wrongMode (h : s.mode ≠ .idle) : s.opEnterService = (St.wrongMode, s) := if_pos h
theorem opLeaveService_wrongMode (h : s.mode ≠ .service) : s.opLeaveService = (St.wrongMode, s) := if_pos h
theorem opEnterSafe_wrongMode (h : s.mode = .safe) : s.opEnterSafe = (St.wrongMode, s) := if_pos (.inr h)
theorem opClearSafe_wrongMode (h : s.mode ≠ .safe) : s.opClearSafe = (St.wrongMode, s) := if_pos h

theorem opAbort_wrongMode (h : s.mode = .safe ∨ s.mode = .service) : s.opAbort = (St.wrongMode, s) := by
  rcases h with h | h <;> simp [State.opAbort, State.runMode, h]

/-! ## The conditions of a permitted operation, in their order -/

theorem opStart_ilkActive (hm : s.mode = .armed) (hi : s.ilkHealthy = false) : s.opStart = (St.ilkActive, s) := by
  simp [State.opStart, hm, hi]

theorem opResume_ilkActive (hm : s.mode = .hold) (hf : s.forceZero = true) : s.opResume = (St.ilkActive, s) := by
  simp [State.opResume, hm, hf]

theorem opClearSafe_ilkActive (hm : s.mode = .safe) (hi : s.ilkHealthy = false) : s.opClearSafe = (St.ilkActive, s) := by
  simp [State.opClearSafe, hm, hi]

theorem opClearSafe_faultPending (hm : s.mode = .safe) (hi : s.ilkHealthy = true) (hf : s.rd R.FLT_FATAL ≠ 0) :
    s.opClearSafe = (St.faultPending, s) := by
  rw [State.opClearSafe, if_neg (by simp [hm]), if_neg (by simp [hi]), if_pos hf]

theorem opClearSafe_relay (hm : s.mode = .safe) (hi : s.ilkHealthy = true) (hf : s.rd R.FLT_FATAL = 0) (he : s.fbEnabled = true)
    (hl : s.glb.fbLow = true) : s.opClearSafe = (St.relay, s) := by
  simp [State.opClearSafe, hm, hi, hf, he, hl]

theorem modeOp_badParam {op : Nat} (h : 11 ≤ op) : s.modeOp op = (St.badParam, s) := by
  obtain ⟨k, rfl⟩ := Nat.exists_eq_add_of_le' h
  rfl

theorem exec_modeReqInvalidOp {op : Nat} (h1 : 11 ≤ op) (h2 : op ≤ 15) :
    exec (.modeReqInvalidOp op) s = hostOp s fun s => s.modeReq op := by
  show hostOp s (fun s => if 11 ≤ op ∧ op ≤ 15 then s.modeReq op else s) = _
  simp only [h1, h2, and_self, if_true]

end

/-- Settles O14: each refusal is the operation's own case of Table 2-4. -/
theorem modeOperationRefusals : Obligations.ModeOperationRefusals := by
  unfold Obligations.ModeOperationRefusals
  intro res
  have hb {s : State} {m : Mode} (h : s.mode = m) (hm : m ≠ .boot) : s.mode ≠ .boot := h ▸ hm
  refine ⟨fun s h => ?_, fun s hm h => ?_, fun s hm h => ⟨?_, ?_⟩, fun s hm h => ?_, fun s hm h => ?_, fun s h => ?_, fun s hm h => ?_,
    fun s hm h => ?_, fun s h => ?_, fun s hm h => ?_, fun s h hi => ?_, fun s h hf => ?_, fun s h hi => ?_, fun s h hi hf => ?_,
    fun s h hi hf he hl => ?_, fun s op hm h1 h2 => ?_⟩
  · have hg {c : Instr} (op : Nat) (hc : exec c s = hostOp s fun s => s.modeReq op) : Gives c s s :=
      gives_of_done (hc.trans (hostOp_boot s _ h))
    exact ⟨hg 1 rfl, hg 2 rfl, hg 3 rfl, hg 4 rfl, hg 5 rfl, hg 6 rfl, hg 7 rfl, hg 8 rfl, hg 9 rfl, hg 10 rfl,
      hg 11 (exec_modeReqInvalidOp (by decide) (by decide))⟩
  · exact gives_refusal rfl hm (by decide) (opArm_wrongMode h)
  · exact gives_refusal rfl hm (by decide) (opDisarm_wrongMode h)
  · exact gives_refusal rfl hm (by decide) (opStart_wrongMode h)
  · exact gives_refusal rfl hm (by decide) (opPause_wrongMode h)
  · exact gives_refusal rfl hm (by decide) (opResume_wrongMode h)
  · exact gives_refusal rfl (h.elim (hb · (by decide)) (hb · (by decide))) (by decide) (opAbort_wrongMode h)
  · exact gives_refusal rfl hm (by decide) (opEnterService_wrongMode h)
  · exact gives_refusal rfl hm (by decide) (opLeaveService_wrongMode h)
  · exact gives_refusal rfl (hb h (by decide)) (by decide) (opEnterSafe_wrongMode h)
  · exact gives_refusal rfl hm (by decide) (opClearSafe_wrongMode h)
  · exact gives_refusal rfl (hb h (by decide)) (by decide) (opStart_ilkActive h hi)
  · exact gives_refusal rfl (hb h (by decide)) (by decide) (opResume_ilkActive h hf)
  · exact gives_refusal rfl (hb h (by decide)) (by decide) (opClearSafe_ilkActive h hi)
  · exact gives_refusal rfl (hb h (by decide)) (by decide) (opClearSafe_faultPending h hi hf)
  · exact gives_refusal rfl (hb h (by decide)) (by decide) (opClearSafe_relay h hi hf he hl)
  · exact gives_refusal (exec_modeReqInvalidOp h1 h2) hm (by omega) (modeOp_badParam h1)

end Sys2Proof.Machine
end

section
/-! PROOFS. The configuration of a queue and its doorbells (O17, O18): a write to an enabled queue, to a disabled one, and one that is refused. -/

namespace Sys2Proof.Machine

/-- A host write outside BOOT whose operands name a queue has its effect. -/
theorem hostOp_else {s : State} {p : Prop} [Decidable p] {k : State → State} (hm : s.mode ≠ .boot) (hp : ¬p) :
    hostOp s (fun s => if p then s else k s) = done (k s) := by
  rw [hostOp_run s _ hm, if_neg hp]

/-! ## A write of HQn_CFG (R62, R66) -/

/-- The mask of the implemented bits keeps EN. -/
theorem fget_cfgMask_en (v : Word) : fget (v &&& 0x00FFE0FF#32) F.HQ_CFG_EN = fget v F.HQ_CFG_EN := by
  have h1 : fget 0x00FFE0FF#32 F.HQ_CFG_EN = 1 := rfl
  have h2 : fget v F.HQ_CFG_EN < 2 := Nat.mod_lt _ (by decide)
  rw [fget_and, h1, Nat.and_one_is_mod, Nat.mod_eq_of_lt h2]

section
variable {s : State} {q : Nat} {v : Word}

/-- The check of R62 passes. -/
theorem hqCfgWrite_accepted (hv : fget v F.HQ_CFG_EN = 1) (he : s.fld (R.HQ_CFG q) F.HQ_CFG_EN = 0)
    (h0 : fget (v &&& 0x00FFE0FF#32) F.HQ_CFG_SIZE ≠ 0) (h1 : fget (v &&& 0x00FFE0FF#32) F.HQ_CFG_SIZE ≤ 64)
    (h2 : fget (v &&& 0x00FFE0FF#32) F.HQ_CFG_PATH ≠ 3) :
    s.hqCfgWrite q v =
      ((s.wr (R.HQ_CFG q) (v &&& 0x00FFE0FF#32)).setFld (R.HQ_QSTAT q) F.HQ_QSTAT_EN 1).setFld (R.HQ_QSTAT q) F.HQ_QSTAT_ACTIVE 1 := by
  have hn : ¬(fget (v &&& 0x00FFE0FF#32) F.HQ_CFG_SIZE = 0 ∨ 64 < fget (v &&& 0x00FFE0FF#32) F.HQ_CFG_SIZE ∨
      fget (v &&& 0x00FFE0FF#32) F.HQ_CFG_PATH = 3) := by omega
  simp only [State.hqCfgWrite, he, fget_cfgMask_en, hv]
  rw [if_neg (by decide), if_neg (by decide), if_neg hn]

/-- The check of R62 fails: the configuration is stored disabled. -/
theorem hqCfgWrite_rejected (hv : fget v F.HQ_CFG_EN = 1) (he : s.fld (R.HQ_CFG q) F.HQ_CFG_EN = 0)
    (h : fget (v &&& 0x00FFE0FF#32) F.HQ_CFG_SIZE = 0 ∨ 64 < fget (v &&& 0x00FFE0FF#32) F.HQ_CFG_SIZE ∨
      fget (v &&& 0x00FFE0FF#32) F.HQ_CFG_PATH = 3) :
    s.hqCfgWrite q v =
      (s.wr (R.HQ_CFG q) (fput (v &&& 0x00FFE0FF#32) F.HQ_CFG_EN 0)).setFld (R.HQ_QSTAT q) F.HQ_QSTAT_COMMIT_REJECT 1 := by
  simp only [State.hqCfgWrite, he, fget_cfgMask_en, hv]
  rw [if_neg (by decide), if_neg (by decide), if_pos h]

theorem hqCfgWrite_enabled (hv : fget v F.HQ_CFG_EN = 1) (he : s.fld (R.HQ_CFG q) F.HQ_CFG_EN = 1) :
    s.hqCfgWrite q v = s.setFld (R.HQ_QSTAT q) F.HQ_QSTAT_CFG_VIOL 1 := by
  simp [State.hqCfgWrite, he, fget_cfgMask_en, hv]

theorem hqCfgWrite_disables (hv : fget v F.HQ_CFG_EN = 0) (he : s.fld (R.HQ_CFG q) F.HQ_CFG_EN = 1) :
    s.hqCfgWrite q v = (s.setFld (R.HQ_CFG q) F.HQ_CFG_EN 0).setFld (R.HQ_QSTAT q) F.HQ_QSTAT_EN 0 := by
  simp [State.hqCfgWrite, he, fget_cfgMask_en, hv]

theorem hqCfgWrite_disabled (hv : fget v F.HQ_CFG_EN = 0) (he : s.fld (R.HQ_CFG q) F.HQ_CFG_EN = 0) :
    s.hqCfgWrite q v = s.wr (R.HQ_CFG q) (v &&& 0x00FFE0FF#32) := by
  simp [State.hqCfgWrite, he, fget_cfgMask_en, hv]

theorem exec_queueEnable (hq : q < 16) (hm : s.mode ≠ .boot) (hv : fget v F.HQ_CFG_EN = 1) :
    exec (.queueEnable q v) s = done (s.hqCfgWrite q v) :=
  hostOp_else (k := fun s => s.hqCfgWrite q v) hm (by omega)

theorem exec_queueDisable (hq : q < 16) (hm : s.mode ≠ .boot) (hv : fget v F.HQ_CFG_EN = 0) :
    exec (.queueDisable q v) s = done (s.hqCfgWrite q v) :=
  hostOp_else (k := fun s => s.hqCfgWrite q v) hm (by omega)

/-! ## The end of a drain (R66) -/

theorem exec_queueDrainComplete (hq : q < 16) (he : s.fld (R.HQ_CFG q) F.HQ_CFG_EN = 0) (ha : s.fld (R.HQ_QSTAT q) F.HQ_QSTAT_ACTIVE = 1)
    (hc : (s.hq.cmds.all fun c => c.queue ≠ q) = true) : exec (.queueDrainComplete q) s = done (s.clearQueue q) := by
  refine congrArg done (if_neg ?_)
  rintro (h | h | h | h)
  · omega
  · omega
  · omega
  · obtain ⟨c, hmem, h⟩ := List.any_eq_true.1 h
    have hne := List.all_eq_true.1 hc c hmem
    simp_all

/-- A command in flight keeps the queue from draining. -/
theorem exec_queueDrainComplete_inFlight {c : Cmd} (hc : c ∈ s.hq.cmds) (hq : c.queue = q) (hj : c.journalOnly = false) :
    exec (.queueDrainComplete q) s = done s :=
  congrArg done (if_pos (.inr (.inr (.inr (List.any_eq_true.2 ⟨c, hc, by simp [hq, hj]⟩)))))

end

/-- Settles O17: the cases of `hqCfgWrite`, and the two of the drain. -/
theorem queueConfiguration : Obligations.QueueConfiguration := by
  unfold Obligations.QueueConfiguration
  refine ⟨fun s q v hq hm hv he => ⟨fun h0 h1 h2 => ?_, fun h => ?_⟩, fun s q v hq hm hv he => ?_,
    fun s q v hq hm hv => ⟨fun he => ?_, fun he => ?_⟩, fun s q hq he ha hc => gives_of_done (exec_queueDrainComplete hq he ha hc),
    fun s q c hc hq hj => gives_of_done (exec_queueDrainComplete_inFlight hc hq hj)⟩
  · rw [← hqCfgWrite_accepted hv he h0 h1 h2]
    exact gives_of_done (exec_queueEnable hq hm hv)
  · rw [← hqCfgWrite_rejected hv he h]
    exact gives_of_done (exec_queueEnable hq hm hv)
  · rw [← hqCfgWrite_enabled hv he]
    exact gives_of_done (exec_queueEnable hq hm hv)
  · rw [← hqCfgWrite_disables hv he]
    exact gives_of_done (exec_queueDisable hq hm hv)
  · rw [← hqCfgWrite_disabled hv he]
    exact gives_of_done (exec_queueDisable hq hm hv)

/-! ## Doorbells (R63) -/

section
variable {s : State} {q ns : Nat} {v : Word}

/-- What R63 refuses. -/
theorem doorbellBad_iff (s : State) (q i : Nat) : s.doorbellBad q i = true ↔
    s.fld (R.HQ_CFG q) F.HQ_CFG_EN = 0 ∨ s.fld (R.HQ_CFG q) F.HQ_CFG_PATH ≠ 0 ∨ s.fld (R.HQ_CFG q) F.HQ_CFG_SIZE ≤ i := by
  simp [State.doorbellBad, or_assoc]

theorem doorbellBad_of_valid {i : Nat} (he : s.fld (R.HQ_CFG q) F.HQ_CFG_EN = 1) (hp : s.fld (R.HQ_CFG q) F.HQ_CFG_PATH = 0)
    (hi : i < s.fld (R.HQ_CFG q) F.HQ_CFG_SIZE) : s.doorbellBad q i = false := by
  rw [← Bool.not_eq_true, doorbellBad_iff]
  omega

theorem exec_sqTailDoorbell (hq : q < 16) (hm : s.mode ≠ .boot) :
    exec (.sqTailDoorbell q v ns) s = done ((s.arrive ns).sqTailWrite q v) :=
  hostOp_else (k := fun s => (s.arrive ns).sqTailWrite q v) hm (by omega)

theorem exec_cqHeadDoorbell (hq : q < 16) (hm : s.mode ≠ .boot) :
    exec (.cqHeadDoorbell q v ns) s = done ((s.arrive ns).cqHeadWrite q v) :=
  hostOp_else (k := fun s => (s.arrive ns).cqHeadWrite q v) hm (by omega)

end

/-- Settles O18: `doorbellBad` decides each doorbell write, and the time and the host activity are noted before it. -/
theorem doorbells : Obligations.Doorbells := by
  unfold Obligations.Doorbells
  refine ⟨fun s q ns v hq hm => ⟨?_, fun h => ?_⟩, fun s q ns v hq hm => ⟨?_, fun h => ?_⟩,
    fun s ns hm => gives_of_done (hostOp_run s (fun s => (s.arrive ns).hostSeen) hm)⟩
  · rintro ⟨he, hp, hi⟩
    exact gives_of_done ((exec_sqTailDoorbell hq hm).trans
      (congrArg done (if_neg (Bool.eq_false_iff.1 (doorbellBad_of_valid (s := (s.arrive ns).hostSeen) he hp hi)))))
  · exact gives_of_done ((exec_sqTailDoorbell hq hm).trans (congrArg done (if_pos ((doorbellBad_iff (s.arrive ns).hostSeen _ _).2 h))))
  · rintro ⟨he, hp, hi⟩
    exact gives_of_done ((exec_cqHeadDoorbell hq hm).trans
      (congrArg done (if_neg (Bool.eq_false_iff.1 (doorbellBad_of_valid (s := (s.arrive ns).hostSeen) he hp hi)))))
  · exact gives_of_done ((exec_cqHeadDoorbell hq hm).trans (congrArg done (if_pos ((doorbellBad_iff (s.arrive ns).hostSeen _ _).2 h))))

end Sys2Proof.Machine
end

section
/-! PROOFS. When a command starts (O21), and the checks that every opcode shares (O22). -/

namespace Sys2Proof.Machine

/-! ## Starting (R74, R75) -/

/-- The ring order, FENCE and BARRIER, as R74 gives them. -/
theorem mayStart_iff (s : State) (c : Cmd) : s.mayStart c = true ↔ c.started = false ∧
    (∀ d ∈ s.hq.cmds, d.queue = c.queue → d.seq < c.seq → d.started = true ∧ c.fence = false) ∧
    (c.barrier = true → ∀ d ∈ s.hq.cmds, c.seq ≤ d.seq) := by
  simp only [State.mayStart, Bool.and_eq_true, Bool.or_eq_true, List.all_eq_true, Bool.not_eq_true', Bool.and_eq_false_imp,
    decide_eq_true_eq, decide_eq_false_iff_not, and_assoc]
  refine and_congr Iff.rfl (and_congr (forall₂_congr fun d _ => ?_) ?_)
  · by_cases hq : d.queue = c.queue <;> by_cases hs : d.seq < c.seq <;> simp [hq, hs]
  · cases c.barrier <;> simp

section
variable {s : State} {n ns : Nat} {c : Cmd}

theorem exec_commandStart (hc : s.cmd n = some c) (hd : s.handoverDue = []) (ho : c.timed = false ∨ c.op = 0x02) :
    exec (.commandStart n ns) s = done (if s.mayStart c = true then (s.arrive ns).start c false else s.arrive ns) := by
  have hc' : (s.arrive ns).cmd n = some c := hc
  have hd' : (s.arrive ns).handoverDue = [] := hd
  have hm : (s.arrive ns).mayStart c = s.mayStart c := rfl
  have hn : ¬(c.timed = true ∧ c.op ≠ 0x02) := by rcases ho with h | h <;> simp [h]
  simp only [exec, execCommandStart, hc', hd', hm]
  cases s.mayStart c <;> simp [hn]

theorem exec_timedCommandStart (hc : s.cmd n = some c) (hd : s.handoverDue = []) (ht : c.timed = true) (ho : c.op ≠ 0x02) :
    exec (.timedCommandStart n ns) s =
      done (if s.mayStart c = true ∧ c.startAt ≤ ((s.arrive ns).now : Int) * 65536 then
        (s.arrive ns).start c (decide (c.startAt + 65536 ≤ ((s.arrive ns).now : Int) * 65536)) else s.arrive ns) := by
  have hc' : (s.arrive ns).cmd n = some c := hc
  have hd' : (s.arrive ns).handoverDue = [] := hd
  have hm : (s.arrive ns).mayStart c = s.mayStart c := rfl
  simp only [exec, execTimedCommandStart, hc', hd', hm, ht]
  by_cases hle : c.startAt ≤ ((s.arrive ns).now : Int) * 65536
  · cases s.mayStart c <;> simp [ho, hle, not_lt.2 hle]
  · simp [hle, not_le.1 hle]

end

/-- Settles O21: the order and the time together decide the start. -/
theorem commandsStart : Obligations.CommandsStart := by
  unfold Obligations.CommandsStart
  intro free begun
  have hfree (s : State) (c : Cmd) : s.mayStart c = true ↔ free s c := mayStart_iff s c
  refine ⟨fun s n ns c hc hd ho => ?_, fun s n ns c hc hd ht ho => ?_⟩
  · have he := exec_commandStart (ns := ns) hc hd ho
    refine ⟨fun h => ?_, fun h => ?_⟩
    · rw [if_pos ((hfree s c).2 h)] at he
      exact gives_of_done he
    · rw [if_neg fun hm => h ((hfree s c).1 hm)] at he
      exact gives_of_done he
  · have he := exec_timedCommandStart (ns := ns) hc hd ht ho
    refine ⟨fun h hle => ?_, fun h => ?_⟩
    · rw [if_pos ⟨(hfree s c).2 h, hle⟩] at he
      exact gives_of_done he
    · rw [if_neg fun hm => h.elim (fun hf => hf ((hfree s c).1 hm.1)) (fun hl => absurd hm.2 (not_le.2 hl))] at he
      exact gives_of_done he

/-! ## The checks of every opcode (R68, R417, R418, R423) -/

section
variable {s : State} {op n : Nat} {c : Cmd} {k : Cmd → State → State}

/-- A started command that waits to run, and no other, is judged. -/
theorem runCmd_of_waiting (hc : s.cmd n = some c) (hs : c.started = true) (hw : c.wait = .run) (ho : c.op = op) :
    s.runCmd op n k =
      if s.flt.mcpHealthy = 0 && !(op = 0x30 && (c.target = 1 || c.target = 2)) then s.endCmd c St.notReady 0 0
      else if !opMode c s.mode then s.endCmd c St.wrongMode 0 0
      else if c.epochChk && (epochPlace (epochTarget c)).isNone then s.endCmd c St.badParam 0 0
      else if c.epochChk && s.unitEpoch (epochTarget c) ≠ some c.expEpoch then s.endCmd c St.staleEpoch 0 0
      else k c s := by
  simp only [State.runCmd, hc]
  exact if_neg (by simp [hs, hw, ho])

/-- A unit of Table 16-2 has the epoch that its register shows; HQ, target 0, is none of them. -/
theorem unitEpoch_of_place {t r : Nat} {f : Fld} (h : epochPlace t = some (r, f)) : s.unitEpoch t = some (s.fld r f) := by
  have ht : t ≠ 0 := by
    rintro rfl
    cases h
  simp [State.unitEpoch, ht, h]

variable (hc : s.cmd n = some c) (hs : c.started = true) (hw : c.wait = .run) (ho : c.op = op)
include hc hs hw ho

theorem runCmd_unhealthy (hh : s.flt.mcpHealthy = 0) (hx : ¬(c.op = 0x30 ∧ (c.target = 1 ∨ c.target = 2))) :
    s.runCmd op n k = s.endCmd c St.notReady 0 0 := by
  rw [runCmd_of_waiting hc hs hw ho, if_pos (by rw [ho] at hx; simpa [hh, imp_iff_not_or] using hx)]

variable (hh : s.flt.mcpHealthy ≠ 0)
include hh

theorem runCmd_wrongMode (hm : opMode c s.mode = false) : s.runCmd op n k = s.endCmd c St.wrongMode 0 0 := by
  rw [runCmd_of_waiting hc hs hw ho, if_neg (by simp [hh]), if_pos (by simp [hm])]

variable (hm : opMode c s.mode = true) (he : c.epochChk = true)
include hm he

theorem runCmd_noUnit (hp : epochPlace (epochTarget c) = none) : s.runCmd op n k = s.endCmd c St.badParam 0 0 := by
  rw [runCmd_of_waiting hc hs hw ho, if_neg (by simp [hh]), if_neg (by simp [hm]), if_pos (by simp [he, hp])]

theorem runCmd_staleEpoch {r : Nat} {f : Fld} (hp : epochPlace (epochTarget c) = some (r, f)) (hx : s.fld r f ≠ c.expEpoch) :
    s.runCmd op n k = s.endCmd c St.staleEpoch 0 0 := by
  rw [runCmd_of_waiting hc hs hw ho, if_neg (by simp [hh]), if_neg (by simp [hm]), if_neg (by simp [hp]),
    if_pos (by simp [he, unitEpoch_of_place hp, hx])]

end

/-- The opcodes of Table 3-6, each with the command of the model that acts by it. -/
def opcodeCommands (n : Nat) : List (Nat × Instr) :=
  [(0x00, .nop 0 n), (0x01, .mode n), (0x02, .commit n), (0x03, .writeRegs n), (0x04, .readRegs n), (0x08, .loadProgram n),
    (0x09, .loadTiles n), (0x0A, .loadTable n), (0x0B, .commitLayer n), (0x10, .waymarkLoad n), (0x11, .productPush n), (0x12, .medium n),
    (0x18, .timeStep n), (0x19, .timeAsym n), (0x20, .recordRead n), (0x21, .traceRead n), (0x22, .journalMark n), (0x28, .calibrate n),
    (0x30, .unitReset n), (0x31, .headAuth n), (0x32, .fwUpdate n), (0x38, .cancel n)]

/-- Each of them runs its own action behind the shared checks. -/
theorem exec_opcodeCommand (s : State) (n : Nat) (p : Nat × Instr) (hp : p ∈ opcodeCommands n) :
    ∃ k, exec p.2 s = done (s.runCmd p.1 n k) := by
  have hnop : exec (.nop 0 n) s = done (s.runCmd 0x00 n fun c s => s.endCmd c St.done 0 0) := congrArg done (if_neg (by decide))
  unfold opcodeCommands at hp
  fin_cases hp
  · exact ⟨_, hnop⟩
  all_goals exact ⟨_, rfl⟩

/-- Settles O22: the checks of `runCmd` in their order. -/
theorem sharedChecks : Obligations.SharedChecks := by
  unfold Obligations.SharedChecks
  intro s n p hp c hc hs hw ho
  obtain ⟨k, hk⟩ := exec_opcodeCommand s n p hp
  refine ⟨fun hh hx => ?_, fun hh hm => ?_, fun hh hm he => ⟨fun hu => ?_, fun r f hu hx => ?_⟩⟩
  · exact gives_of_done (hk.trans (congrArg done (runCmd_unhealthy hc hs hw ho hh hx)))
  · exact gives_of_done (hk.trans (congrArg done (runCmd_wrongMode hc hs hw ho hh hm)))
  · exact gives_of_done (hk.trans (congrArg done (runCmd_noUnit hc hs hw ho hh hm he hu)))
  · exact gives_of_done (hk.trans (congrArg done (runCmd_staleEpoch hc hs hw ho hh hm he hu hx)))

end Sys2Proof.Machine
end

section
/-! PROOFS. What the end of a command writes, and what it leaves: the rules of `journal`, `complete` and `endCmd`. -/

namespace Sys2Proof.Machine

/-! ## The journal entry (Table 3-9) -/

theorem leBytes_length (v n : Nat) : (leBytes v n).length = n := by
  induction n generalizing v with
  | zero => rfl
  | succ n ih => rw [leBytes, List.length_cons, ih]

theorem journalEntry_length (c : Cmd) (state status tEnd result detail : Nat) : (journalEntry c state status tEnd result detail).length = 64 := by
  simp [journalEntry, leBytes_length]

/-- Byte 13 of an entry is the command's status. -/
theorem journalEntry_status (c : Cmd) (state status tEnd result detail : Nat) :
    (journalEntry c state status tEnd result detail).getD 13 0 = BitVec.ofNat 8 status := by
  simp [journalEntry, leBytes]

/-- The SRAM address of a sequence number's journal entry (Table 1-5). -/
def journalAddr (seq : Nat) : Nat := 0x3400000 + 64 * (seq % 4096)

section
variable (s : State) (c : Cmd) (state status tEnd result detail : Nat)

theorem journal_sram : (s.journal c state status tEnd result detail).mem.sram =
    writeBytes s.mem.sram (journalAddr c.seq) (journalEntry c state status tEnd result detail) := by
  unfold State.journal journalAddr
  generalize journalEntry c state status tEnd result detail = e
  dsimp only
  split <;> rfl

theorem journal_hq : (s.journal c state status tEnd result detail).hq = s.hq := by
  unfold State.journal
  dsimp only
  split <;> simp

theorem journal_rd (off : Nat) : (s.journal c state status tEnd result detail).rd off = s.rd off := by
  unfold State.journal
  dsimp only
  split <;> simp

/-- The entry stands in the journal. -/
theorem journal_entry : (s.journal c state status tEnd result detail).sramBytes (journalAddr c.seq) 64 =
    journalEntry c state status tEnd result detail := by
  have h := readBytes_writeBytes s.mem.sram (journalAddr c.seq) (journalEntry c state status tEnd result detail)
  rwa [journalEntry_length, ← journal_sram] at h

end

/-! ## The in-flight list -/

theorem setCmds_rd (s : State) (cs : List Cmd) (off : Nat) (h : off ≠ R.HQ_STAT) : (s.setCmds cs).rd off = s.rd off :=
  State.rd_setFld_ne _ _ _ _ _ h

/-! ## The completion entry (R65) -/

/-- What a completion of queue `q` leaves: the commands in flight, SRAM, the registers of GLB and of HQ's common part, and the fetch index. -/
structure State.keepsFetch (q : Nat) (s t : State) : Prop where
  cmds : t.hq.cmds = s.hq.cmds
  sram : t.mem.sram = s.mem.sram
  rd : ∀ off < 0x101000, t.rd off = s.rd off
  head : t.fld (R.HQ_PTR q) F.HQ_PTR_SQ_HEAD = s.fld (R.HQ_PTR q) F.HQ_PTR_SQ_HEAD

namespace State.keepsFetch

variable {q : Nat} {s t u : State}

theorem refl (q : Nat) (s : State) : s.keepsFetch q s := ⟨rfl, rfl, fun _ _ => rfl, rfl⟩

theorem trans (h : s.keepsFetch q t) (g : t.keepsFetch q u) : s.keepsFetch q u :=
  ⟨g.cmds.trans h.cmds, g.sram.trans h.sram, fun off ho => (g.rd off ho).trans (h.rd off ho), g.head.trans h.head⟩

/-- A change outside the in-flight list, SRAM and the register file. -/
theorem of_eq (hc : t.hq.cmds = s.hq.cmds) (hm : t.mem.sram = s.mem.sram) (hr : t.regs = s.regs) : s.keepsFetch q t :=
  ⟨hc, hm, fun off _ => State.rd_congr hr off, congrArg (fget · F.HQ_PTR_SQ_HEAD) (State.rd_congr hr _)⟩

theorem wr (s : State) {off : Nat} (w : Word) (h : 0x101000 ≤ off) (hq : off ≠ R.HQ_PTR q) : s.keepsFetch q (s.wr off w) :=
  ⟨rfl, rfl, fun o ho => s.rd_wr_ne o off w (by omega), s.fld_wr_ne _ _ _ _ hq.symm⟩

/-- A field of HQn_PTR above SQ_HEAD. -/
theorem setPtr (s : State) {f : Fld} (v : Nat) (h : f.lo + f.wd ≤ 32) (hf : 7 ≤ f.lo) :
    s.keepsFetch q (s.setFld (R.HQ_PTR q) f v) :=
  ⟨rfl, rfl, fun o ho => State.rd_setFld_ne _ _ _ _ _ (by unfold R.HQ_PTR; omega), s.fld_setFld_ne _ _ _ _ h (.inr hf)⟩

theorem of_ite {p : Prop} [Decidable p] (ht : s.keepsFetch q t) (hu : s.keepsFetch q u) : s.keepsFetch q (if p then t else u) := by
  split <;> assumption

end State.keepsFetch

open State.keepsFetch in
theorem msix_keepsFetch (q : Nat) (hq : q < 16) (s : State) (v : Nat) : s.keepsFetch q (s.msix v) :=
  of_ite (wr s _ (by grind) (by grind)) (of_eq rfl rfl rfl)

theorem hostPut_keepsFetch (q : Nat) (s : State) (a : Nat) (bs : List Byte) : s.keepsFetch q (s.hostPut a bs) := .of_eq rfl rfl rfl

theorem setQueue_keepsFetch (q : Nat) (s : State) (n : Nat) (x : Queue) : s.keepsFetch q (s.setQueue n x) := .of_eq rfl rfl rfl

/-- A frame sent on an Ethernet port. -/
theorem ethSend_keepsFetch (q : Nat) (s : State) (p : Nat) (o : Out) : s.keepsFetch q (s.ethSend p o) :=
  .trans (.of_eq rfl rfl rfl : s.keepsFetch q (s.emit o)) (.wr _ _ (by grind) (by grind))

open State.keepsFetch in
theorem complete_keepsFetch (s : State) (c : Cmd) (status result : Nat) (hq : c.queue < 16) :
    s.keepsFetch c.queue (s.complete c status result) := by
  unfold State.complete
  extract_lets q size tail p e s1 s2 Q s3 Q' d keep s4
  have h1 : s.keepsFetch q s1 := setPtr s _ (by decide) (by decide)
  have h2 : s.keepsFetch q s2 := of_ite (h1.trans (setPtr s1 _ (by decide) (by decide))) h1
  have h3 : s.keepsFetch q s3 := h2.trans (setQueue_keepsFetch ..)
  have h4 : s.keepsFetch q s4 :=
    of_ite (h3.trans (hostPut_keepsFetch ..)) ((h3.trans (setQueue_keepsFetch ..)).trans (ethSend_keepsFetch q _ _ _))
  exact of_ite (h4.trans (msix_keepsFetch q hq _ _)) h4

/-! ## The end of a command (R81) -/

section
variable (s : State) (c : Cmd) (status result detail : Nat)

/-- The state in which the outcome is journaled and the command is no longer in flight. -/
def State.retire : State :=
  let ok := status = St.done || status = St.empty
  let d := if ok then (if c.op = 0x22 && status = St.done then c.arg 1 else c.arg 0) else detail
  let s := s.journal c (if ok then 2 else 3) status s.nowTs result d
  s.setCmds (s.hq.cmds.filter fun x => x.seq ≠ c.seq)

theorem endCmd_eq : s.endCmd c status result detail =
    if c.journalOnly || (c.noCq && (status = St.done || status = St.empty)) then s.retire c status result detail
    else (s.retire c status result detail).complete c status result := rfl

theorem endCmd_keepsFetch (hq : c.queue < 16) : (s.retire c status result detail).keepsFetch c.queue (s.endCmd c status result detail) := by
  rw [endCmd_eq]
  exact .of_ite (.refl _ _) (complete_keepsFetch _ _ _ _ hq)

theorem retire_cmds : (s.retire c status result detail).hq.cmds = s.hq.cmds.filter fun x => x.seq ≠ c.seq := by
  unfold State.retire
  extract_lets ok d s1
  exact congrArg (fun h : Hq => h.cmds.filter fun x => decide (x.seq ≠ c.seq)) (journal_hq ..)

theorem retire_rd (off : Nat) (h : off ≠ R.HQ_STAT) : (s.retire c status result detail).rd off = s.rd off := by
  unfold State.retire
  extract_lets ok d s1
  exact (setCmds_rd _ _ _ h).trans (journal_rd ..)

/-- The status stands in the journal entry. -/
theorem retire_status : sget zeroByte (journalAddr c.seq + 13) (s.retire c status result detail).mem.sram = BitVec.ofNat 8 status := by
  unfold State.retire
  extract_lets ok d s1
  have hs : (s1.setCmds (s1.hq.cmds.filter fun x => decide (x.seq ≠ c.seq))).mem.sram = s1.mem.sram := rfl
  rw [hs, journal_sram, sget_writeBytes, journalEntry_length, if_pos (by omega), Nat.add_sub_cancel_left, journalEntry_status]

end

/-- One command cannot end with two statuses. -/
theorem not_gives_endCmd {i : Instr} {s : State} {c : Cmd} {st st' r r' d d' : Nat} (hq : c.queue < 16)
    (h : exec i s = done (s.endCmd c st r d)) (hne : BitVec.ofNat 8 st ≠ BitVec.ofNat 8 st') : ¬ Gives i s (s.endCmd c st' r' d') := by
  rintro ⟨t, ht, hs⟩
  have hmem : (s.endCmd c st r d).mem = (s.endCmd c st' r' d').mem := (settles_of_exec h ht).mem.symm.trans hs.mem
  have hsram := congrArg (fun m : Memory => sget zeroByte (journalAddr c.seq + 13) m.sram) hmem
  simp only [(endCmd_keepsFetch _ _ _ _ _ hq).sram, retire_status] at hsram
  exact hne hsram

end Sys2Proof.Machine
end

section
/-! PROOFS. The fetch of a descriptor (O20): whose turn it is, what acceptance writes, and what the end of a refused command leaves of it. -/

namespace Sys2Proof.Machine

/-! ## Whose turn it is (R73) -/

theorem nextQueue_some {p : Nat → Bool} {q r : Nat} (h : nextQueue p q = some r) : p r = true := List.find?_some h

/-- The sixteen queues after `q` are all there are. -/
theorem nextQueue_none {p : Nat → Bool} {q : Nat} (h : nextQueue p q = none) (r : Nat) (hr : r < 16) : p r = false := by
  have hall := List.find?_eq_none.1 h
  refine Bool.eq_false_iff.2 (hall r (List.mem_map.2 ⟨(r + 15 - q % 16) % 16, List.mem_range.2 (Nat.mod_lt _ (by decide)), ?_⟩))
  omega

/-- The queue that has the turn has a descriptor to fetch; it is of PRIO 3 where any queue of PRIO 3 has one. -/
theorem pickQueue_some {s : State} {q : Nat} {h : Hq} (hp : s.pickQueue = some (q, h)) :
    s.fetchable q = true ∧ h.cmds = s.hq.cmds ∧ (s.prio q = 3 ∨ ∀ p < 16, s.prio p = 3 → s.fetchable p = false) := by
  unfold State.pickQueue at hp
  extract_lets hq low at hp
  split at hp
  · next r hr =>
    cases hp
    have hq := nextQueue_some hr
    simp only [Bool.and_eq_true, decide_eq_true_eq] at hq
    exact ⟨hq.2, rfl, .inl hq.1⟩
  · next hr =>
    have hnone : ∀ p < 16, s.prio p = 3 → s.fetchable p = false := fun p h16 h3 => by simpa [h3] using nextQueue_none hr p h16
    split at hp
    · next hlow =>
      cases hp
      simp only [low, Bool.and_eq_true] at hlow
      exact ⟨hlow.2.2, rfl, .inr hnone⟩
    · split at hp
      · next r hr =>
        cases hp
        have hq := nextQueue_some hr
        simp only [low, Bool.and_eq_true] at hq
        exact ⟨hq.2, rfl, .inr hnone⟩
      · cases hp

/-- A ring with a free completion slot has a size. -/
theorem size_pos_of_fetchable {s : State} {q : Nat} (h : s.fetchable q = true) : 0 < s.fld (R.HQ_CFG q) F.HQ_CFG_SIZE := by
  simp only [State.fetchable, State.slotFree, Bool.and_eq_true, decide_eq_true_eq] at h
  omega

/-! ## Acceptance (R64, R67, R80) -/

/-- Refusal looks at the commands in flight alone. -/
theorem refusal_congr {s t : State} (h : t.hq.cmds = s.hq.cmds) (c : Cmd) : refusal t c = refusal s c := by
  unfold refusal
  rw [h]

/-- The command that a descriptor of queue `q` becomes. -/
def State.commandOf (s : State) (q : Nat) (ws : List Word) : Cmd :=
  { seq := s.lastSeq + 1, queue := q, path := s.fld (R.HQ_CFG q) F.HQ_CFG_PATH, slot := s.fld (R.HQ_PTR q) F.HQ_PTR_SQ_HEAD,
    epochAt := s.fld R.HQ_STAT F.HQ_STAT_EPOCH, words := ws, started := false, late := false, tAccept := s.nowTs, tStart := 0,
    wait := .run, journalOnly := false }

/-- The state in which command `c` of queue `q` is numbered and in flight, before the journal tells of it. -/
def State.numbered (s : State) (q : Nat) (c : Cmd) : State :=
  let t := (s.setLastSeq c.seq).setFld (R.HQ_PTR q) F.HQ_PTR_SQ_HEAD ((c.slot + 1) % max 1 (s.fld (R.HQ_CFG q) F.HQ_CFG_SIZE))
  t.setCmds (t.hq.cmds ++ [c])

section
variable {s : State} {q : Nat} {ws : List Word}

theorem accept_of_accepted (h : refusal s (s.commandOf q ws) = none) :
    s.accept q ws = (s.numbered q (s.commandOf q ws)).journal (s.commandOf q ws) 0 0 0 0 ((s.commandOf q ws).arg 0) := by
  unfold State.accept
  extract_lets size slot n c r s1 s2
  have hr : r = none := h
  rw [hr]
  rfl

theorem accept_of_refused {code : Nat} (h : refusal s (s.commandOf q ws) = some code) :
    s.accept q ws = (s.numbered q (s.commandOf q ws)).endCmd (s.commandOf q ws) code 0 0 := by
  unfold State.accept
  extract_lets size slot n c r s1 s2
  have hr : r = some code := h
  rw [hr]
  rfl

end

/-! ### The number and the fetch index -/

theorem lastSeq_setLastSeq (s : State) (n : Nat) (h : n < 2 ^ 64) : (s.setLastSeq n).lastSeq = n := by
  unfold State.setLastSeq State.lastSeq
  rw [State.rd_wr_ne _ _ _ _ (by decide), State.rd_wr_same, State.rd_wr_same, BitVec.toNat_ofNat, BitVec.toNat_ofNat]
  omega

/-- The last sequence number is held in two registers of HQ. -/
theorem lastSeq_congr {s t : State} (h : ∀ off < 0x101000, off ≠ R.HQ_STAT → t.rd off = s.rd off) : t.lastSeq = s.lastSeq := by
  unfold State.lastSeq
  rw [h _ (by decide) (by decide), h _ (by decide) (by decide)]

/-- The last sequence number is `n`, and the fetch index of queue `q` is `head`: what acceptance writes beside the list and the journal. -/
def State.numbers (q n head : Nat) (t : State) : Prop :=
  t.lastSeq = n ∧ t.fld (R.HQ_PTR q) F.HQ_PTR_SQ_HEAD = head

theorem numbered_numbers (s : State) (q : Nat) (c : Cmd) (hn : c.seq < 2 ^ 64) (hz : 0 < s.fld (R.HQ_CFG q) F.HQ_CFG_SIZE) :
    (s.numbered q c).numbers q c.seq ((c.slot + 1) % s.fld (R.HQ_CFG q) F.HQ_CFG_SIZE) := by
  have hlt : s.fld (R.HQ_CFG q) F.HQ_CFG_SIZE < 2 ^ 7 := Nat.mod_lt _ (by decide)
  unfold State.numbered
  extract_lets t
  constructor
  · have ht : (t.setCmds (t.hq.cmds ++ [c])).lastSeq = (s.setLastSeq c.seq).lastSeq := lastSeq_congr fun off h1 h2 => by
      rw [setCmds_rd _ _ _ h2, State.rd_setFld_ne _ _ _ _ _ (by unfold R.HQ_PTR; omega)]
    rw [ht, lastSeq_setLastSeq _ _ hn]
  · rw [State.fld, setCmds_rd _ _ _ (by grind), ← State.fld, State.fld_setFld_same _ _ _ _ (by decide), Nat.max_eq_right hz]
    exact Nat.mod_eq_of_lt ((Nat.mod_lt _ hz).trans hlt)

/-- Both registers stay as they are while the outcome is written. -/
theorem State.numbers.of_rd {q n head : Nat} {s t : State} (h : s.numbers q n head)
    (hr : ∀ off < 0x101000, off ≠ R.HQ_STAT → t.rd off = s.rd off)
    (hh : t.fld (R.HQ_PTR q) F.HQ_PTR_SQ_HEAD = s.fld (R.HQ_PTR q) F.HQ_PTR_SQ_HEAD) : t.numbers q n head :=
  ⟨(lastSeq_congr hr).trans h.1, hh.trans h.2⟩

theorem numbers_journal {q n head : Nat} {s : State} (h : s.numbers q n head) (c : Cmd) (state status tEnd result detail : Nat) :
    (s.journal c state status tEnd result detail).numbers q n head :=
  h.of_rd (fun _ _ _ => journal_rd ..) (congrArg (fget · F.HQ_PTR_SQ_HEAD) (journal_rd ..))

theorem numbers_endCmd {n head : Nat} {s : State} {c : Cmd} (h : s.numbers c.queue n head) (hq : c.queue < 16) (status result detail : Nat) :
    (s.endCmd c status result detail).numbers c.queue n head := by
  have hk := endCmd_keepsFetch s c status result detail hq
  refine h.of_rd (fun off h1 h2 => (hk.rd off h1).trans (retire_rd _ _ _ _ _ _ h2)) (hk.head.trans ?_)
  exact congrArg (fget · F.HQ_PTR_SQ_HEAD) (retire_rd _ _ _ _ _ _ (by grind))

theorem endCmd_cmds (s : State) (c : Cmd) (status result detail : Nat) (hq : c.queue < 16) :
    (s.endCmd c status result detail).hq.cmds = s.hq.cmds.filter fun x => x.seq ≠ c.seq :=
  (endCmd_keepsFetch s c status result detail hq).cmds.trans (retire_cmds ..)

theorem State.settles.numbers {t x : State} {q n head : Nat} (hs : t.settles x) (h : x.numbers q n head) : t.numbers q n head :=
  ⟨by rw [State.lastSeq, hs.rd (by decide), hs.rd (by decide)]; exact h.1, (hs.fld _ (by simp only [irqRegs]; grind)).trans h.2⟩

/-- Acceptance: the command is numbered and the fetch index moves on; an accepted command is in flight and journaled so, a refused one has
ended. -/
theorem accept_spec (s : State) (q : Nat) (ws : List Word) (c : Cmd) (hc : s.commandOf q ws = c) (hq : q < 16) (hn : s.lastSeq + 1 < 2 ^ 64)
    (hz : 0 < s.fld (R.HQ_CFG q) F.HQ_CFG_SIZE) :
    (s.accept q ws).numbers q (s.lastSeq + 1) ((s.fld (R.HQ_PTR q) F.HQ_PTR_SQ_HEAD + 1) % s.fld (R.HQ_CFG q) F.HQ_CFG_SIZE) ∧
    (refusal s c = none → (s.accept q ws).hq.cmds = s.hq.cmds ++ [c] ∧
      (s.accept q ws).sramBytes (journalAddr c.seq) 64 = journalEntry c 0 0 0 0 (c.arg 0)) ∧
    ∀ code, refusal s c = some code → ∀ d ∈ (s.accept q ws).hq.cmds, d.seq ≠ c.seq := by
  have hseq : c.seq = s.lastSeq + 1 := by rw [← hc]; rfl
  have hslot : c.slot = s.fld (R.HQ_PTR q) F.HQ_PTR_SQ_HEAD := by rw [← hc]; rfl
  have hqueue : c.queue = q := by rw [← hc]; rfl
  have hcmds : (s.numbered q c).hq.cmds = s.hq.cmds ++ [c] := rfl
  have hnum := numbered_numbers s q c (hseq ▸ hn) hz
  rw [hseq, hslot] at hnum
  cases hr : refusal s c with
  | none =>
    have ha := accept_of_accepted (hc.symm ▸ hr)
    rw [hc] at ha
    rw [ha]
    exact ⟨numbers_journal hnum .., fun _ => ⟨by rw [journal_hq, hcmds], journal_entry _ _ _ _ _ _ _⟩, fun _ hx => by cases hx⟩
  | some code =>
    have ha := accept_of_refused (hc.symm ▸ hr)
    rw [hc] at ha
    rw [ha]
    subst hqueue
    refine ⟨numbers_endCmd hnum hq .., fun hx => (by cases hx), fun _ _ d hd => ?_⟩
    rw [endCmd_cmds _ _ _ _ _ hq] at hd
    simpa using (List.mem_filter.1 hd).2

/-! ## The command (R64, R72, R73) -/

section
variable {s : State} {ns q : Nat} {h : Hq}

/-- Neither a power fail (R82) nor a handover (R422) holds the fetch back. -/
theorem fetch_open (hf : s.pwr.pfailAt = none) (hd : s.handoverDue = []) :
    ¬((s.arrive ns).pwr.pfailAt.isSome = true ∨ (s.arrive ns).handoverDue ≠ []) := by
  have hd' : (s.arrive ns).handoverDue = [] := hd
  simp [hf, hd']

theorem exec_descriptorFetch (hf : s.pwr.pfailAt = none) (hd : s.handoverDue = []) (hp : s.pickQueue = some (q, h))
    (hj : s.journalBusy = false) (hpath : s.fld (R.HQ_CFG q) F.HQ_CFG_PATH = 0) :
    exec (.descriptorFetch ns) s = done (({ s.arrive ns with hq := h } : State).accept q (wordsOf (s.hostBytes
      ((s.rd (R.HQ_SQ_BASE_LO q)).toNat + (s.rd (R.HQ_SQ_BASE_HI q)).toNat * 2 ^ 32 + 64 * s.fld (R.HQ_PTR q) F.HQ_PTR_SQ_HEAD) 64))) := by
  have hp' : (s.arrive ns).pickQueue = some (q, h) := hp
  have hj' : (s.arrive ns).journalBusy = false := hj
  have ht : ({ s.arrive ns with hq := h } : State).takeDescriptor q = (wordsOf (s.hostBytes
      ((s.rd (R.HQ_SQ_BASE_LO q)).toNat + (s.rd (R.HQ_SQ_BASE_HI q)).toNat * 2 ^ 32 + 64 * s.fld (R.HQ_PTR q) F.HQ_PTR_SQ_HEAD) 64),
      ({ s.arrive ns with hq := h } : State)) := if_pos hpath
  simp only [exec, execDescriptorFetch]
  rw [if_neg (fetch_open hf hd), hp']
  simp only [hj', ht]
  rfl

theorem exec_descriptorFetch_stalled (hf : s.pwr.pfailAt = none) (hd : s.handoverDue = []) (hp : s.pickQueue = some (q, h))
    (hj : s.journalBusy = true) : exec (.descriptorFetch ns) s = done ((s.arrive ns).inc R.HQ_JRN_STALL 1) := by
  have hp' : (s.arrive ns).pickQueue = some (q, h) := hp
  simp only [exec, execDescriptorFetch]
  rw [if_neg (fetch_open hf hd), hp']
  exact if_pos hj

theorem exec_descriptorFetch_none (hn : s.pwr.pfailAt ≠ none ∨ s.handoverDue ≠ [] ∨ s.pickQueue = none) :
    exec (.descriptorFetch ns) s = done (s.arrive ns) := by
  simp only [exec, execDescriptorFetch]
  split
  · rfl
  · next hx =>
    have hp : (s.arrive ns).pickQueue = none := by
      rcases hn with hn | hn | hn
      · exact absurd (.inl (Option.isSome_iff_ne_none.2 hn)) hx
      · exact absurd (.inr hn) hx
      · exact hn
    rw [hp]

end

/-- Settles O20: acceptance numbers the command, and neither the journal nor the end of a refused command touches the number or the fetch
index. -/
theorem descriptorFetch : Obligations.DescriptorFetch := by
  unfold Obligations.DescriptorFetch
  refine ⟨fun s ns q h hq hf hd hp hj hn hpath => ?_, fun s ns q h hf hd hp hj => gives_of_done (exec_descriptorFetch_stalled hf hd hp hj),
    fun s ns hn => gives_of_done (exec_descriptorFetch_none hn), fun s q p h hp hlt hfetch hprio => ?_⟩
  · intro base slot c
    obtain ⟨hfetch, hcmds, -⟩ := pickQueue_some hp
    obtain ⟨t, ht, hs⟩ := gives_of_done (exec_descriptorFetch (ns := ns) hf hd hp hj hpath)
    have hc : ({ s.arrive ns with hq := h } : State).commandOf q (wordsOf (s.hostBytes (base + 64 * slot) 64)) = c :=
      congrArg (fun p => ({ c with path := p } : Cmd)) hpath
    obtain ⟨⟨hseq, hhead⟩, hacc, href⟩ := accept_spec { s.arrive ns with hq := h } q _ c hc hq hn (size_pos_of_fetchable (s := s) hfetch)
    rw [refusal_congr (s := s) hcmds] at hacc href
    generalize State.accept _ _ _ = u at *
    obtain ⟨h1, h2⟩ := hs.numbers ⟨hseq, hhead⟩
    rw [hcmds] at hacc
    refine ⟨t, ht, h1, h2, fun hr => ?_, fun code hr => ?_⟩
    · rw [hs.hq, State.sramBytes, hs.mem]
      exact hacc hr
    · rw [hs.hq]
      exact href code hr
  · obtain ⟨-, -, h3 | hnone⟩ := pickQueue_some hp
    · exact h3
    · rw [hnone p hlt hprio] at hfetch
      cases hfetch

end Sys2Proof.Machine
end

section
/-! PROOFS. The refutations of O24, O41 and O26. A command with EPOCH_CHK and TARGET 0 meets `State.ready`, which asks for the epoch of HQ alone,
but HQ is no unit of Table 16-2, so the command ends with BAD_PARAM (R417). A SUBMIT that arrives while an interrupt source is raised and
GLB_IRQ_SRC does not show it yet sends its ACK before the vector, so the ACK is not what was sent last. -/

namespace Sys2Proof.Machine

/-! ## EPOCH_CHK on TARGET 0 (R417) -/

/-- A started command 0 of opcode `op` with EPOCH_CHK, whose TARGET, EXP_EPOCH and arguments are 0. -/
def epochChkOnHq (op : Nat) : Cmd :=
  { seq := 0, queue := 0, path := 0, slot := 0, epochAt := 0, words := [BitVec.ofNat 32 (0x2000 + op)], started := true, late := false,
    tAccept := 0, tStart := 0, wait := .run, journalOnly := false }

/-- The machine after reset, with that command in flight. -/
def withEpochChkOnHq (op : Nat) : State := { State.reset with hq := { Hq.reset with cmds := [epochChkOnHq op] } }

/-- It passes what `State.ready` asks. -/
theorem epochChkOnHq_ready {op : Nat} (hop : op = 0x38 ∨ op = 0x01) : (withEpochChkOnHq op).ready 0 op (epochChkOnHq op) := by
  rcases hop with rfl | rfl <;> exact ⟨rfl, rfl, rfl, rfl, by decide, rfl, fun _ => rfl⟩

/-- Yet it ends with BAD_PARAM, whatever its opcode would do. -/
theorem exec_epochChkOnHq (p : Nat × Instr) (hp : p ∈ opcodeCommands 0) (hop : p.1 = 0x38 ∨ p.1 = 0x01) :
    exec p.2 (withEpochChkOnHq p.1) = done ((withEpochChkOnHq p.1).endCmd (epochChkOnHq p.1) St.badParam 0 0) := by
  obtain ⟨k, hk⟩ := exec_opcodeCommand (withEpochChkOnHq p.1) 0 p hp
  obtain ⟨hc, hs, hw, ho, hh, hm, -⟩ := epochChkOnHq_ready hop
  refine hk.trans (congrArg done (runCmd_noUnit hc hs hw ho hh hm ?_ ?_)) <;> rcases hop with h | h <;> rw [h] <;> rfl

/-- Refutes O24: a CANCEL with EPOCH_CHK and TARGET 0 ends with BAD_PARAM, not with DONE. -/
theorem not_cancelOfACommand : ¬ Obligations.CancelOfACommand := by
  unfold Obligations.CancelOfACommand
  rintro ⟨-, h⟩
  have hbad := exec_epochChkOnHq (0x38, .cancel 0) (by simp [opcodeCommands]) (.inl rfl)
  refine not_gives_endCmd (by decide) hbad (by decide) (h _ 0 _ (epochChkOnHq_ready (.inl rfl)) fun x hx _ _ => ?_)
  rw [List.mem_singleton.1 hx]
  rfl

/-- Refutes O41: a MODE of OP 0 with EPOCH_CHK and TARGET 0 ends with BAD_PARAM, not with EMPTY. -/
theorem not_dataCommands : ¬ Obligations.DataCommands := by
  unfold Obligations.DataCommands
  rintro ⟨h, -⟩
  have hbad := exec_epochChkOnHq (0x01, .mode 0) (by simp [opcodeCommands]) (.inr rfl)
  exact not_gives_endCmd (by decide) hbad (by decide) (h _ 0 _ (epochChkOnHq_ready (.inr rfl)) rfl)

/-! ## A SUBMIT before the gathering of interrupts (R32, R84) -/

/-- IDLE with port 0 up, queue 2 enabled on it and the session key `[1]`; source 7 of Table 1-9 is raised and enabled, and GLB_IRQ_SRC
does not show it. -/
def submitBeforeIrq : State :=
  let s := State.reset.setFld R.GLB_MODE F.GLB_MODE_MODE Mode.idle.code
  let s := ((s.setFld (R.HQ_CFG 2) F.HQ_CFG_EN 1).setFld (R.HQ_CFG 2) F.HQ_CFG_SIZE 8).setFld (R.HQ_CFG 2) F.HQ_CFG_PATH 1
  let s := ((s.setFld (R.TIM_P_CFG 0) F.TIM_P_CFG_EN 1).setFld (R.TIM_P_CFG 0) F.TIM_P_CFG_SPEED 0).setFld (R.TIM_P_STAT 0) F.TIM_P_STAT_LINK 1
  let s := (s.setFld (R.LCS_UC_STAT 0) F.LCS_UC_STAT_EMPTY 1).setFld R.GLB_IRQ_EN F.GLB_IRQ_EN_EN 0x80
  { (s.setFld (R.MSIX_CTRL 0) F.MSIX_CTRL_MASK 0) with lcs := { s.lcs with session := some [1] } }

/-- The head of a SUBMIT of DSEQ 1 for queue 2, without descriptors. -/
def emptySubmitHead : List Byte := [1, 1, 2, 0, 1, 0, 0, 0, 0, 0, 0, 0, 0, 0, 0, 0]

/-- The datagram, with its MAC. -/
def emptySubmit : List Byte := emptySubmitHead ++ (Config.hmacSha256 [1] emptySubmitHead).take 16

theorem emptySubmit_ok : ((submitBeforeIrq.arrive 0).rxOk 0).datagramOk 0 emptySubmit = true := by
  have he : ((submitBeforeIrq.arrive 0).rxOk 0).fld (R.HQ_CFG 2) F.HQ_CFG_EN = 1 := by decide +kernel
  have hp : ((submitBeforeIrq.arrive 0).rxOk 0).fld (R.HQ_CFG 2) F.HQ_CFG_PATH = 1 := by decide +kernel
  have hk : ((submitBeforeIrq.arrive 0).rxOk 0).lcs.session = some [1] := rfl
  simp [State.datagramOk, emptySubmit, emptySubmitHead, hdr, leNat, hk, he, hp, Config.hmacSha256]

/-- A SUBMIT that R83 lets in, with the next DSEQ and a length that fits COUNT (R84). -/
theorem exec_submitDatagram {s : State} {p ns : Nat} {bs : List Byte} (hu : s.portUp p = true) (hm : s.mode ≠ .boot) (ht : hdr bs 1 1 = 1)
    (hok : ((s.arrive ns).rxOk p).datagramOk p bs = true) :
    let q := hdr bs 2 1 % 16
    let b := ((s.arrive ns).rxOk p).ackTo q (hdr bs 8 4)
    let body := (bs.drop 16).take (bs.length - 32)
    seqDiff (hdr bs 4 4) (b.queue q).rxSeq = 1 → ¬(16 < hdr bs 3 1 ∨ body.length ≠ 64 * hdr bs 3 1) →
    exec (.submitDatagram p bs ns) s = done ((b.setQueue q { b.queue q with
      rxSeq := hdr bs 4 4
      posted := (b.queue q).posted ++ (List.range (hdr bs 3 1)).map fun i => wordsOf ((body.drop (64 * i)).take 64) }).hostSeen.sendAck p q) := by
  intro q b body hahead hlen
  have hopen : ¬((!s.portUp p) = true ∨ s.mode = .boot ∨ hdr bs 1 1 ≠ 1) := by simp [hu, hm, ht]
  simp only [exec, execSubmitDatagram, State.datagram]
  rw [if_neg hopen, if_pos hok, if_pos hahead, if_neg hlen]

/-- The last message sent is the vector's, not the ACK. -/
theorem submitBeforeIrq_last {t : State} (h : exec (.submitDatagram 0 emptySubmit 0) submitBeforeIrq = .next t) :
    t.out.head?.map Out.isMsix = some true := by
  rw [exec_submitDatagram (by decide +kernel) (by decide +kernel) (by decide +kernel) emptySubmit_ok (by decide +kernel) (by decide +kernel)] at h
  cases h
  decide +kernel

/-- Refutes O26: the interrupt vector of the raised source follows the ACK. -/
theorem not_submitInOrder : ¬ Obligations.SubmitInOrder := by
  unfold Obligations.SubmitInOrder
  intro h
  obtain ⟨hnext, -⟩ := h submitBeforeIrq 0 0 emptySubmit (by decide +kernel) (by decide +kernel) (by decide +kernel) emptySubmit_ok
  obtain ⟨t, ht, -, -, hout, -⟩ := hnext 0 (by decide +kernel) (by decide) (by decide +kernel) (by decide +kernel)
  have hlast := submitBeforeIrq_last ht
  rw [hout] at hlast
  cases hlast

end Sys2Proof.Machine
end

section
/-! PROOFS. Copies in SRAM: what every byte reads after `sramFill` and `sramCopy`. -/

namespace Sys2Proof.Machine

/-! ## Entries of a sparse table -/

section
variable {α : Type} (d : Nat → α)

/-- In canonical form, a listed entry is what its key reads. -/
theorem sget_of_mem [DecidableEq α] {k : Nat} {v : α} {m : Sparse α} (hw : swf d m = true) (h : (k, v) ∈ m) : sget d k m = v := by
  induction m with
  | nil => cases h
  | cons p t ih =>
    obtain ⟨j, w⟩ := p
    simp only [swf, Bool.and_eq_true] at hw
    obtain ⟨⟨-, ha⟩, ht⟩ := hw
    rcases List.mem_cons.1 h with h | h
    · cases h
      simp [sget]
    · have hlt : j < k := (sabove_iff d j t ht).1 ha _ h
      rw [sget, if_neg (by omega), ih ht h]

/-- An unlisted key reads the default. -/
theorem sget_of_not_mem {k : Nat} {m : Sparse α} (h : ∀ p ∈ m, p.1 ≠ k) : sget d k m = d k := by
  induction m with
  | nil => rfl
  | cons p t ih =>
    rw [List.forall_mem_cons] at h
    obtain ⟨j, w⟩ := p
    rw [sget, if_neg fun e => h.1 e.symm, ih h.2]

/-- Entries dropped by their keys. -/
theorem sget_filter (f : Nat → Bool) (k : Nat) (m : Sparse α) : sget d k (m.filter fun p => f p.1) = if f k then sget d k m else d k := by
  induction m with
  | nil => simp [sget]
  | cons p t ih =>
    obtain ⟨j, w⟩ := p
    by_cases hk : k = j
    · subst hk
      cases hf : f k <;> simp [hf, sget, ih]
    · cases hf : f j <;> simp [hf, sget, ih, hk]

end

/-- Bytes put one after another: where all that are put at a place agree, the place reads that byte. -/
theorem sget_foldl_sput (dst o : Nat) (v : Byte) (bs : List (Nat × Byte)) (m : Sparse Byte) (h : ∀ p ∈ bs, p.1 = o → p.2 = v) :
    sget zeroByte (dst + o) (bs.foldl (fun m p => sput zeroByte (dst + p.1) p.2 m) m) =
      if ∃ p ∈ bs, p.1 = o then v else sget zeroByte (dst + o) m := by
  induction bs generalizing m with
  | nil => simp
  | cons p t ih =>
    rw [List.forall_mem_cons] at h
    rw [List.foldl_cons, ih _ h.2]
    by_cases hp : p.1 = o
    · rw [hp, h.1 hp, sget_sput_same]
      simp [hp]
    · rw [sget_sput_ne _ _ _ _ _ (by omega)]
      simp [hp]

/-- A place below all that are put keeps what it read. -/
theorem sget_foldl_sput_below (dst k : Nat) (hk : k < dst) (bs : List (Nat × Byte)) (m : Sparse Byte) :
    sget zeroByte k (bs.foldl (fun m p => sput zeroByte (dst + p.1) p.2 m) m) = sget zeroByte k m := by
  induction bs generalizing m with
  | nil => rfl
  | cons p t ih => rw [List.foldl_cons, ih, sget_sput_ne _ _ _ _ _ (by omega)]

/-! ## One range copied -/

/-- What `srange` lists: the bytes of the range, by offset. -/
theorem mem_srange {m : Sparse Byte} {a n : Nat} {p : Nat × Byte} : p ∈ srange m a n ↔ p.1 < n ∧ (a + p.1, p.2) ∈ m := by
  obtain ⟨o, v⟩ := p
  simp only [srange, List.mem_map, List.mem_filter, Bool.and_eq_true, decide_eq_true_eq, Prod.mk.injEq]
  constructor
  · rintro ⟨⟨k, w⟩, ⟨hm, hle, hlt⟩, rfl, rfl⟩
    have e : a + (k - a) = k := by omega
    exact ⟨by simp only at *; omega, by rw [e]; exact hm⟩
  · rintro ⟨hlt, hm⟩
    exact ⟨(a + o, v), ⟨hm, by simp only; omega, by simp only; omega⟩, by simp only; omega, rfl⟩

/-- A range cleared: its places read zero, every other place as before. -/
theorem sget_cleared (m : Sparse Byte) (dst n k : Nat) :
    sget zeroByte k (m.filter fun p => !(decide (dst ≤ p.1) && decide (p.1 < dst + n))) =
      if dst ≤ k ∧ k < dst + n then 0 else sget zeroByte k m := by
  rw [sget_filter zeroByte fun j => !(decide (dst ≤ j) && decide (j < dst + n))]
  by_cases h : dst ≤ k ∧ k < dst + n
  · rw [if_pos h, if_neg (by simpa using h)]
    rfl
  · rw [if_neg h, if_pos (by simpa [imp_iff_not_or] using h)]

/-- After a copy the destination reads as the source did, and every other byte as before. -/
theorem sget_sramCopy (s : State) (src dst n k : Nat) (hw : s.mem.wf = true) :
    sget zeroByte k (s.sramCopy src dst n).mem.sram =
      if dst ≤ k ∧ k < dst + n then sget zeroByte (src + (k - dst)) s.mem.sram else sget zeroByte k s.mem.sram := by
  obtain ⟨hwf, -⟩ := (Memory.wf_iff s.mem).1 hw
  have hm : (s.sramCopy src dst n).mem.sram = (srange s.mem.sram src n).foldl (fun m p => sput zeroByte (dst + p.1) p.2 m)
      (s.mem.sram.filter fun p => !(decide (dst ≤ p.1) && decide (p.1 < dst + n))) := rfl
  rw [hm]
  by_cases hlo : k < dst
  · rw [sget_foldl_sput_below _ _ hlo, sget_cleared, if_neg (by omega), if_neg (by omega)]
  obtain ⟨o, rfl⟩ := Nat.exists_eq_add_of_le (Nat.le_of_not_lt hlo)
  have hv : ∀ p ∈ srange s.mem.sram src n, p.1 = o → p.2 = sget zeroByte (src + o) s.mem.sram := by
    rintro p hp rfl
    exact (sget_of_mem zeroByte hwf (mem_srange.1 hp).2).symm
  rw [sget_foldl_sput dst o _ _ _ hv, sget_cleared, Nat.add_sub_cancel_left]
  by_cases ho : o < n
  · have hin : dst ≤ dst + o ∧ dst + o < dst + n := by omega
    rw [if_pos hin, if_pos hin]
    split
    · rfl
    · next hno =>
      refine (sget_of_not_mem zeroByte fun p hp he => hno ⟨(o, p.2), mem_srange.2 ⟨ho, ?_⟩, rfl⟩).symm
      rw [← he]
      exact hp
  · have hno : ¬∃ p ∈ srange s.mem.sram src n, p.1 = o := by
      rintro ⟨p, hp, rfl⟩
      exact ho (mem_srange.1 hp).1
    rw [if_neg hno, if_neg (by omega), if_neg (by omega)]

end Sys2Proof.Machine
end

section
/-! PROOFS. What a set's go-live leaves of the other snapshots and of the live copies (R77). -/

namespace Sys2Proof.Machine

/-! ## The list of snapshots and the live copies -/

/-- Neither the list of snapshots nor a live copy changes. -/
structure State.keepsShadow (s t : State) : Prop where
  pend : t.pend = s.pend
  live : t.live = s.live

namespace State.keepsShadow

variable {s t u : State}

theorem refl (s : State) : s.keepsShadow s := ⟨rfl, rfl⟩

theorem trans (h : s.keepsShadow t) (g : t.keepsShadow u) : s.keepsShadow u := ⟨g.pend.trans h.pend, g.live.trans h.live⟩

theorem wr {off : Nat} {w : Word} (h : s.keepsShadow t) : s.keepsShadow (t.wr off w) := ⟨h.pend, h.live⟩
theorem setFld {off v : Nat} {f : Fld} (h : s.keepsShadow t) : s.keepsShadow (t.setFld off f v) := h.wr
theorem inc {off n : Nat} (h : s.keepsShadow t) : s.keepsShadow (t.inc off n) := h.wr
theorem setMap {p : Nat} {m : MapP} (h : s.keepsShadow t) : s.keepsShadow (t.setMap p m) := ⟨h.pend, h.live⟩
theorem setCam {c : Nat} {m : Cam} (h : s.keepsShadow t) : s.keepsShadow (t.setCam c m) := ⟨h.pend, h.live⟩
theorem setAxis {a : Nat} {x : Axis} (h : s.keepsShadow t) : s.keepsShadow (t.setAxis a x) := ⟨h.pend, h.live⟩
theorem setPos {a : Nat} {p : Int} (h : s.keepsShadow t) : s.keepsShadow (t.setPos a p) := h.wr.wr
theorem setPtp {p : Ptp} (h : s.keepsShadow t) : s.keepsShadow (t.setPtp p) := ⟨h.pend, h.live⟩
theorem setLoop {l : Nat} {v : Loop} (h : s.keepsShadow t) : s.keepsShadow (t.setLoop l v) := ⟨h.pend, h.live⟩
theorem sramPut {a : Nat} {bs : List Byte} (h : s.keepsShadow t) : s.keepsShadow (t.sramPut a bs) := ⟨h.pend, h.live⟩
theorem sramFill {a n : Nat} {bs : List (Nat × Byte)} (h : s.keepsShadow t) : s.keepsShadow (t.sramFill a n bs) := ⟨h.pend, h.live⟩
theorem tsc {x : Tsc} (h : s.keepsShadow t) : s.keepsShadow { t with tsc := x } := ⟨h.pend, h.live⟩
theorem cal {x : Cal} (h : s.keepsShadow t) : s.keepsShadow { t with cal := x } := ⟨h.pend, h.live⟩
theorem glb {x : Glb} (h : s.keepsShadow t) : s.keepsShadow { t with glb := x } := ⟨h.pend, h.live⟩

theorem of_ite {p : Prop} [Decidable p] (ht : s.keepsShadow t) (hu : s.keepsShadow u) : s.keepsShadow (if p then t else u) := by
  split <;> assumption

theorem foldl {α : Type} {f : State → α → State} {l : List α} (h : s.keepsShadow t) (hf : ∀ (t : State) (a : α), t.keepsShadow (f t a)) :
    s.keepsShadow (l.foldl f t) :=
  List.foldlRecOn (motive := fun u => s.keepsShadow u) l f h fun u hu a _ => hu.trans (hf u a)

theorem setCommitted {id : Nat} (h : s.keepsShadow t) : s.keepsShadow (t.setCommitted id) := by
  unfold State.setCommitted
  exact of_ite h.setFld <| of_ite h.setFld <| of_ite h.setFld <| of_ite h.setFld <| of_ite h.setFld <| of_ite h.setFld <| of_ite h.setFld <|
    of_ite h.setFld <| of_ite h.setFld h.setFld

end State.keepsShadow

open State.keepsShadow

theorem poolLive_keepsShadow (s : State) (layer n : Nat) : s.keepsShadow (s.poolLive layer n) := by
  unfold State.poolLive
  extract_lets s1 x s2 s3 s4
  have h1 : s.keepsShadow s1 := .foldl (refl s) fun t _ => .wr (refl t)
  have h3 : s.keepsShadow s3 := .setFld (.wr (.wr (.tsc h1)))
  have h4 : s.keepsShadow s4 := .sramFill h3
  exact .foldl h4 fun t _ => .sramPut (refl t)

theorem mapDecide_keepsShadow (s : State) (p : Nat) : s.keepsShadow (s.mapDecide p) :=
  of_ite (.inc (.setFld (.setMap (refl s)))) (.setMap (refl s))

theorem axfLive_keepsShadow (s : State) (old : Nat → Word) : s.keepsShadow (s.axfLive old) :=
  .foldl (refl s) fun t _ => .setAxis (of_ite (.setFld (.setPos (.setAxis (refl t)))) (refl t))

theorem timLive_keepsShadow (s : State) (was : Word) : s.keepsShadow (s.timLive was) :=
  of_ite (refl s) (.foldl (.setFld (.setFld (.wr (.setPtp (refl s))))) fun t _ => .setFld (refl t))

/-! ## One set goes live (R77) -/

/-- The state in which the snapshot's words are the live copies of its set. -/
def State.wordsLive (s : State) (p : Pending) (id : Nat) : State := (setRegs id).foldl (fun s r => s.setLive r (p.word r)) s

theorem lv_setLive (s : State) (r o : Nat) (w : Word) : (s.setLive r w).lv o = if o = r then w else s.lv o := sget_sput regReset r o w s.live

theorem lv_foldl_setLive (f : Nat → Word) (l : List Nat) (s : State) (r : Nat) :
    (l.foldl (fun s r => s.setLive r (f r)) s).lv r = if r ∈ l then f r else s.lv r := by
  induction l generalizing s with
  | nil => simp
  | cons a l ih =>
    rw [List.foldl_cons, ih, lv_setLive]
    by_cases h : r = a <;> simp [h]

theorem wordsLive_lv (s : State) (p : Pending) (id r : Nat) (h : r ∈ setRegs id) : (s.wordsLive p id).lv r = p.word r := by
  rw [State.wordsLive, lv_foldl_setLive, if_pos h]

theorem wordsLive_pend (s : State) (p : Pending) (id : Nat) : (s.wordsLive p id).pend = s.pend :=
  List.foldlRecOn (motive := fun t : State => t.pend = s.pend) _ _ rfl fun _ h _ _ => h

/-- Beyond its words, no set's go-live changes a live copy or the list of snapshots. -/
theorem goLiveSet_keepsShadow (s : State) (p : Pending) (id : Nat) : (s.wordsLive p id).keepsShadow (s.goLiveSet p id) := by
  unfold State.goLiveSet
  extract_lets old entry entry' s1 r g changed s2 s3 m
  have hs1 : s.wordsLive p id = s1 := rfl
  rw [hs1]
  clear_value s1
  refine of_ite ?_ (of_ite ?_ (of_ite ?_ (of_ite ?_ (of_ite ?_ (of_ite ?_ (of_ite ?_ (of_ite ?_ (of_ite ?_ ?_))))))))
  · exact .setCommitted (.glb (refl s1))
  · exact poolLive_keepsShadow ..
  · exact of_ite (refl s1) (.setCommitted (.setFld (.setFld (refl s1))))
  · have h2 : s1.keepsShadow s2 := .foldl (refl s1) fun t _ => .setLoop (refl t)
    exact of_ite (refl s1) (.setCommitted (.setFld (.setFld h2)))
  · exact .setCommitted (.sramFill (refl s1))
  · have h3 : s1.keepsShadow s3 := of_ite (mapDecide_keepsShadow ..) (refl s1)
    exact .setCommitted (.setMap h3)
  · exact .setCommitted (.setCam (refl s1))
  · exact .setCommitted (axfLive_keepsShadow ..)
  · exact .setCommitted (timLive_keepsShadow ..)
  · exact .setCommitted (refl s1)

end Sys2Proof.Machine
end

section
/-! PROOFS. COMMIT_GO_LIVE and the copies (O40). -/

namespace Sys2Proof.Machine

/-! ## The sets that O40 names -/

section
variable (s : State) (p : Pending)

/-- Set 0 makes the snapshot's regions live (R29, R30). -/
theorem goLiveSet_dram (n : Nat) (hn : n < 6) : (s.goLiveSet p 0).dramRegion n =
    (fget (p.word (R.GLB_DRAM_BASE n)) F.GLB_DRAM_BASE_BASE * 2 ^ 20, fget (p.word (R.GLB_DRAM_SIZE n)) F.GLB_DRAM_SIZE_SIZE * 2 ^ 20) := by
  have hlive : (s.goLiveSet p 0).glb.dramLive = (List.range 6).map fun n =>
    (fget (p.word (R.GLB_DRAM_BASE n)) F.GLB_DRAM_BASE_BASE, fget (p.word (R.GLB_DRAM_SIZE n)) F.GLB_DRAM_SIZE_SIZE) := rfl
  rw [State.dramRegion, hlive, List.getElem?_map, List.getElem?_range hn]
  rfl

/-- Set 2 flips the live half and starts the copy (R213). -/
theorem goLiveSet_curves (h : s.fld R.BLD_STAT F.BLD_STAT_COPYING = 0) : s.goLiveSet p 2 =
    ((s.setFld R.BLD_STAT F.BLD_STAT_SHADOW (1 - s.fld R.BLD_STAT F.BLD_STAT_SHADOW)).setFld R.BLD_STAT F.BLD_STAT_COPYING 1).setFld
      R.BLD_STAT F.BLD_STAT_COMMITTED 1 := by
  simp [State.goLiveSet, setRegs, State.setCommitted, h]

theorem goLiveSet_pool : s.goLiveSet p 1 = s.poolLive (s.tsc.copying.getD 0) p.tiles := rfl

end

/-- The half that SHADOW names is the shadow half. -/
theorem curveHalves_of_flip {s t : State} (h : t.fld R.BLD_STAT F.BLD_STAT_SHADOW = 1 - s.fld R.BLD_STAT F.BLD_STAT_SHADOW) :
    t.curveLive = s.curveShadow ∧ t.curveShadow = s.curveLive := by
  have hlt : s.fld R.BLD_STAT F.BLD_STAT_SHADOW < 2 := Nat.mod_lt _ (by decide)
  simp only [State.curveLive, State.curveShadow, h]
  by_cases h1 : s.fld R.BLD_STAT F.BLD_STAT_SHADOW = 1
  · simp [h1]
  · have h0 : s.fld R.BLD_STAT F.BLD_STAT_SHADOW = 0 := by omega
    simp [h0]

theorem goLiveSet_curves_flips (s : State) (p : Pending) (h : s.fld R.BLD_STAT F.BLD_STAT_COPYING = 0) :
    (s.goLiveSet p 2).fld R.BLD_STAT F.BLD_STAT_SHADOW = 1 - s.fld R.BLD_STAT F.BLD_STAT_SHADOW ∧
      (s.goLiveSet p 2).fld R.BLD_STAT F.BLD_STAT_COPYING = 1 ∧ (s.goLiveSet p 2).mem = s.mem := by
  rw [goLiveSet_curves s p h]
  refine ⟨?_, ?_, rfl⟩
  · rw [State.fld_setFld_ne _ _ _ _ _ (by decide) (by decide), State.fld_setFld_ne _ _ _ _ _ (by decide) (by decide),
      State.fld_setFld_same _ _ _ _ (by decide), Nat.mod_eq_of_lt (Nat.lt_of_le_of_lt (Nat.sub_le _ _) (by decide))]
  · rw [State.fld_setFld_ne _ _ _ _ _ (by decide) (by decide), State.fld_setFld_same _ _ _ _ (by decide)]
    rfl

/-! ### The tile pool (R164) -/

/-- Registers cleared one after another. -/
theorem rd_foldl_clear (g : Nat → Nat) (l : List Nat) (s : State) (off : Nat) :
    (l.foldl (fun s i => s.wr (g i) 0) s).rd off = if off ∈ l.map g then 0 else s.rd off := by
  induction l generalizing s with
  | nil => simp
  | cons a l ih =>
    rw [List.foldl_cons, ih, State.rd_wr]
    by_cases h : off = g a <;> simp [h]

/-- Status words are SRAM: registers and TSC's state stay. -/
theorem foldl_setStatus_regs (l : List Nat) (f : State → Nat → Word) (s : State) :
    (l.foldl (fun s i => s.setStatus i (f s i)) s).regs = s.regs ∧ (l.foldl (fun s i => s.setStatus i (f s i)) s).tsc = s.tsc :=
  List.foldlRecOn (motive := fun t : State => t.regs = s.regs ∧ t.tsc = s.tsc) l _ ⟨rfl, rfl⟩ fun _ h _ _ => h

theorem rd_sramFill (s : State) (dst n : Nat) (bs : List (Nat × Byte)) (o : Nat) : (s.sramFill dst n bs).rd o = s.rd o := rfl

/-- Set 1 leaves no context and no posted event, and makes the image's tile count live. -/
theorem poolLive_spec (s : State) (layer n : Nat) (hn : n < 2 ^ 17) :
    (s.poolLive layer n).ntiles = n ∧ (s.poolLive layer n).tsc.ctxs = [] ∧ ∀ e < 256, (s.poolLive layer n).posted e = false := by
  unfold State.poolLive
  extract_lets s1 x s2 s3 s4
  obtain ⟨hregs, htsc⟩ := foldl_setStatus_regs (List.range n) (fun s i => BitVec.ofNat 32
    (if (s.tileD i).twin then Ts.template else if (s.tileD i).dt || (s.tileD i).de then Ts.waiting else Ts.ready)) s4
  refine ⟨?_, congrArg Tsc.ctxs htsc, fun e he => ?_⟩
  · have h4 : s4.rd R.TSC_NTILES = BitVec.ofNat 32 n := by
      rw [rd_sramFill, State.rd_setFld_ne _ _ _ _ _ (by decide), State.rd_wr_ne _ _ _ _ (by decide), State.rd_wr_same]
    rw [State.ntiles, State.fld, State.rd_congr hregs, h4, fget, BitVec.toNat_ofNat, pow_zero, Nat.div_one,
      Nat.mod_eq_of_lt (hn.trans (by decide)), Nat.mod_eq_of_lt hn]
  · have h2 : s2.rd (R.TSC_EVT (e / 32)) = 0 := by
      have hr : s2.regs = s1.regs := rfl
      rw [State.rd_congr hr, rd_foldl_clear, if_pos (List.mem_map_of_mem (List.mem_range.2 (by omega)))]
    have h4 : s4.rd (R.TSC_EVT (e / 32)) = 0 := by
      rw [rd_sramFill, State.rd_setFld_ne _ _ _ _ _ (by grind), State.rd_wr_ne _ _ _ _ (by grind), State.rd_wr_ne _ _ _ _ (by grind), h2]
    rw [State.posted, State.rd_congr hregs, h4]
    simp [bit]

/-! ## COMMIT_GO_LIVE (R77) -/

/-- The state in which the snapshot `p` goes live: at the boundary, and off the list. -/
def State.atGoLive (s : State) (p : Pending) : State :=
  { s with now := max s.now ((s.tick + 1) * 500), pend := s.pend.filter fun x => x.id ≠ p.id }

theorem exec_commitGoLive {s : State} {i id : Nat} {p : Pending} (hf : (s.pend.find? fun x => x.id = i && x.ready ((s.tick + 1) * 500)) = some p)
    (hq : p.seq = none) (hs : p.sets = [id]) : exec (.commitGoLive i) s = done ((s.atGoLive p).goLiveSet p id) := by
  simp only [exec, execCommitGoLive]
  rw [hf]
  simp only [State.goLive, hq, hs]
  rfl

theorem exec_commitGoLive_none {s : State} {i : Nat} (h : ∀ p ∈ s.pend, p.id = i → p.ready ((s.tick + 1) * 500) = false) :
    exec (.commitGoLive i) s = done s := by
  have hf : (s.pend.find? fun x => x.id = i && x.ready ((s.tick + 1) * 500)) = none := by
    refine List.find?_eq_none.2 fun p hp => ?_
    by_cases hi : p.id = i <;> simp [hi, h p hp]
  simp only [exec, execCommitGoLive]
  rw [hf]

end Sys2Proof.Machine
end

section
/-! PROOFS. The copies that follow a commit or precede it (R165, R213, R270, R384), and the settlement of O40. -/

namespace Sys2Proof.Machine

open State.keepsShadow

/-! ## The copies of the curves and of the control area -/

/-- What a copy of one half over the other leaves. -/
theorem sramCopy_halves (s : State) (src dst n : Nat) (hw : s.mem.wf = true) :
    (∀ k < n, sget zeroByte (dst + k) (s.sramCopy src dst n).mem.sram = sget zeroByte (src + k) s.mem.sram) ∧
    ∀ k, (k < dst ∨ dst + n ≤ k) → sget zeroByte k (s.sramCopy src dst n).mem.sram = sget zeroByte k s.mem.sram := by
  refine ⟨fun k hk => ?_, fun k hk => ?_⟩
  · rw [sget_sramCopy s src dst n _ hw, if_pos (by omega), Nat.add_sub_cancel_left]
  · rw [sget_sramCopy s src dst n _ hw, if_neg (by omega)]

/-- With no write held, the end of the copy only lifts the hold (R213). -/
theorem bldFlush_of_empty {s : State} (h : s.bld.held = []) : s.bldFlush = { s with bld := { s.bld with held := [], holding := false } } := by
  simp [State.bldFlush, h]

theorem cenFlush_of_empty {s : State} (h : s.cen.held = []) : s.cenFlush = { s with cen := { s.cen with held := [], holding := false } } := by
  simp [State.cenFlush, h]

/-- A register of a block other than HQ, written before the in-flight list is. -/
theorem fld_setCmds (s : State) (cs : List Cmd) (off : Nat) (f : Fld) (h : off ≠ R.HQ_STAT) : (s.setCmds cs).fld off f = s.fld off f :=
  congrArg (fget · f) (setCmds_rd s cs off h)

theorem exec_curveCopyComplete {s : State} (hh : s.bld.held = []) (hc : s.fld R.BLD_STAT F.BLD_STAT_COPYING = 1) :
    ∃ x, exec .curveCopyComplete s = done x ∧ x.mem = (s.sramCopy s.curveLive s.curveShadow 0x100000).mem ∧
      x.fld R.BLD_STAT F.BLD_STAT_COPYING = 0 ∧ x.bld.holding = false := by
  refine ⟨_, if_neg (by rw [hc]; decide), ?_⟩
  rw [bldFlush_of_empty (s := (s.sramCopy s.curveLive s.curveShadow 0x100000).setFld R.BLD_STAT F.BLD_STAT_COPYING 0) hh]
  generalize s.sramCopy s.curveLive s.curveShadow 0x100000 = u
  refine ⟨rfl, ?_, rfl⟩
  rw [fld_setCmds _ _ _ _ (by decide)]
  exact State.fld_setFld_same u _ _ 0 (by decide)

theorem exec_controlCopyComplete {s : State} (hh : s.cen.held = []) (hc : s.fld R.CEN_STAT F.CEN_STAT_COPYING = 1) :
    ∃ x, exec .controlCopyComplete s = done x ∧ x.mem = (s.sramCopy s.ctlLive s.ctlShadow 0x80000).mem ∧
      x.fld R.CEN_STAT F.CEN_STAT_COPYING = 0 ∧ x.cen.holding = false := by
  refine ⟨_, if_neg (by rw [hc]; decide), ?_⟩
  rw [cenFlush_of_empty (s := (s.sramCopy s.ctlLive s.ctlShadow 0x80000).setFld R.CEN_STAT F.CEN_STAT_COPYING 0) hh]
  generalize s.sramCopy s.ctlLive s.ctlShadow 0x80000 = u
  refine ⟨rfl, ?_, rfl⟩
  rw [fld_setCmds _ _ _ _ (by decide)]
  exact State.fld_setFld_same u _ _ 0 (by decide)

/-! ## The copy of a staged layer (R165) -/

theorem stagingCopy_keepsShadow (s : State) (k : Nat) : s.keepsShadow (s.stagingCopy k) :=
  .tsc (.sramFill (.foldl (refl s) fun t _ => of_ite (.sramFill (refl t)) (refl t)))

theorem exec_stagingCopyComplete {s : State} {k : Nat} {p : Pending} (hk : s.tsc.copying = some k) (hp : p ∈ s.pend) (h1 : 1 ∈ p.notReady) :
    exec .stagingCopyComplete s = done ((s.stagingCopy k).nowReady 1) := by
  have hany : (s.pend.any fun p => p.notReady.contains 1) = true := List.any_eq_true.2 ⟨p, hp, by simpa using h1⟩
  simp only [exec, execStagingCopyComplete]
  rw [hk]
  exact if_pos hany

theorem exec_stagingCopyComplete_none {s : State} (h : s.tsc.copying = none) : exec .stagingCopyComplete s = done s := by
  simp only [exec, execStagingCopyComplete]
  rw [h]

/-! ## The copy of a correction bank (R384) -/

/-- A content failure of set 4 + h shows in the head's status register. -/
theorem setReject_geo (s : State) (h cause index : Nat) (hh : h < 24) : s.setReject (4 + h) cause index =
    (s.setFld (R.GEO_H_STAT h) F.GEO_H_STAT_COMMIT_REJECT 1).setFld (R.GEO_H_STAT h) F.GEO_H_STAT_REJ_CAUSE cause := by
  have e : 4 + h - 4 = h := by omega
  simp only [State.setReject]
  rw [if_neg (by omega), if_neg (by omega), if_neg (by omega), if_neg (by omega), if_pos (by omega), e]

theorem geoFlush_keepsShadow (s : State) (h : Nat) : s.keepsShadow (s.geoFlush h) :=
  .cal (.foldl (refl s) fun t _ => of_ite (.wr (refl t)) (.sramPut (refl t)))

/-- The held writes of a head reach its field registers alone. -/
theorem rd_geoFlush (s : State) (h off : Nat) (ho : off ∉ fieldRegs h) : (s.geoFlush h).rd off = s.rd off := by
  unfold State.geoFlush
  extract_lets mine u c
  have hu : u.rd off = s.rd off := by
    refine List.foldlRecOn (motive := fun t : State => t.rd off = s.rd off) _ _ rfl fun t ht x hx => ?_
    have hm := (List.mem_filter.1 hx).2
    cases hb : x.1 with
    | true =>
      simp only [mine, hb, if_true, List.contains_iff_mem] at hm
      rw [if_pos rfl, State.rd_wr_ne _ _ _ _ fun e => ho (by rw [e]; exact hm), ht]
    | false => rwa [if_neg (by decide), State.rd_sramPut]
  exact hu

theorem geoFlush_copying (s : State) (h : Nat) : h ∉ (s.geoFlush h).cal.copying := by simp [State.geoFlush]

/-- Where no snapshot has failed, none ends. -/
theorem endFailed_of_none {s : State} (h : ∀ p ∈ s.pend, p.failed = none) : s.endFailed = s := by
  have hf : (s.pend.filter fun p => p.failed.isSome && p.notReady.isEmpty) = [] := List.filter_eq_nil_iff.2 fun p hp => by simp [h p hp]
  rw [State.endFailed, hf]
  rfl

/-- The only snapshot, of a correction set alone and of no command, ends once its checks have. -/
theorem endFailed_geo {s : State} {p : Pending} {h : Nat} (hp : s.pend = [p]) (hf : p.failed.isSome = true) (hn : p.notReady = [])
    (hq : p.seq = none) (hs : p.sets = [4 + h]) (hh : h < 24) : s.endFailed = { s with pend := [] } := by
  have hl : (s.pend.filter fun p => p.failed.isSome && p.notReady.isEmpty) = [p] := by simp [hp, hf, hn]
  have hu (t : State) : t.unsnap [4 + h] = t := by
    simp only [State.unsnap, List.foldl_cons, List.foldl_nil]
    rw [if_neg (by omega), if_neg (by omega), if_neg (by omega)]
  rw [State.endFailed, hl]
  simp [hp, hq, hs, hu]

section
variable {s : State} {h : Nat} {p : Pending}

/-- The field bounds that a snapshot holds for head `h`. -/
def Pending.field (p : Pending) (h : Nat) : Bounds :=
  ⟨intOf (p.word (R.TSC_H_FXMIN h)), intOf (p.word (R.TSC_H_FYMIN h)), intOf (p.word (R.TSC_H_FXMAX h)), intOf (p.word (R.TSC_H_FYMAX h))⟩

theorem exec_geoCopyComplete_none (hc : h ∉ s.cal.copying) : exec (.geoCopyComplete h) s = done s := if_pos (by simpa using hc)

/-- What the judgement of set `id` writes before the held writes are applied. -/
def State.judged (s : State) (id : Nat) : Judge → State
  | .bad c _ => { s.setReject id c 0 with pend := (s.setReject id c 0).pend.map fun (p : Pending) => p.fail id }
  | _ => s

/-- The one snapshot waits for the bank: its own field bounds are judged. -/
theorem exec_geoCopyComplete (hp : s.pend = [p]) (hc : h ∈ s.cal.copying) (hn : p.notReady = [4 + h]) :
    exec (.geoCopyComplete h) s = done ((((s.judged (4 + h) (s.geoCheck h (sget (fun _ => []) h s.cal.banks) (p.field h))).geoFlush h).nowReady
      (4 + h)).endFailed) := by
  have hfind : (s.pend.find? fun p => p.notReady.contains (4 + h)) = some p := by simp [hp, hn]
  have hcopy : ¬(!s.cal.copying.contains h) = true := by simpa using hc
  simp only [exec, execGeoCopyComplete]
  rw [if_neg hcopy]
  simp only [hfind]
  rfl

/-- The bank passes: the snapshot waits for it no more. -/
theorem geoCopy_pass (hp : s.pend = [p]) (hc : h ∈ s.cal.copying) (hn : p.notReady = [4 + h]) (hf : p.failed = none)
    (hj : s.geoCheck h (sget (fun _ => []) h s.cal.banks) (p.field h) = .pass) :
    ∃ x, exec (.geoCopyComplete h) s = done x ∧ x.pend = [{ p with notReady := [] }] ∧ h ∉ x.cal.copying := by
  have he := exec_geoCopyComplete hp hc hn
  rw [hj, show s.judged (4 + h) .pass = s from rfl] at he
  have hpend : ((s.geoFlush h).nowReady (4 + h)).pend = [{ p with notReady := [] }] := by
    simp [State.nowReady, (geoFlush_keepsShadow s h).pend, hp, hn]
  rw [endFailed_of_none (by simp [hpend, hf])] at he
  exact ⟨_, he, hpend, geoFlush_copying s h⟩

/-- The bank fails: the snapshot is dropped and the head's register shows why. -/
theorem geoCopy_bad {cause index : Nat} (hh : h < 24) (hp : s.pend = [p]) (hc : h ∈ s.cal.copying) (hn : p.notReady = [4 + h])
    (hf : p.failed = none) (hq : p.seq = none) (hs : p.sets = [4 + h])
    (hj : s.geoCheck h (sget (fun _ => []) h s.cal.banks) (p.field h) = .bad cause index) :
    ∃ x, exec (.geoCopyComplete h) s = done x ∧ x.pend = [] ∧ h ∉ x.cal.copying ∧
      x.fld (R.GEO_H_STAT h) F.GEO_H_STAT_COMMIT_REJECT = 1 ∧ x.fld (R.GEO_H_STAT h) F.GEO_H_STAT_REJ_CAUSE = cause % 16 := by
  have he := exec_geoCopyComplete hp hc hn
  rw [hj, State.judged, setReject_geo s h cause 0 hh] at he
  generalize hr : (s.setFld (R.GEO_H_STAT h) F.GEO_H_STAT_COMMIT_REJECT 1).setFld (R.GEO_H_STAT h) F.GEO_H_STAT_REJ_CAUSE cause = r at he
  have hrp : r.pend = [p] := by rw [← hr, State.setFld_pend, State.setFld_pend, hp]
  generalize hu : ({ r with pend := r.pend.map fun (p : Pending) => p.fail (4 + h) } : State) = u at he
  have hup : u.pend = [{ p with failed := some (4 + h, St.commitReject) }] := by simp [← hu, hrp, Pending.fail, hn, hf, lowerFail]
  have hoff : R.GEO_H_STAT h ∉ fieldRegs h := by simp only [fieldRegs]; grind
  have hregs : u.regs = r.regs := by rw [← hu]
  have hrd (f : Fld) : (u.geoFlush h).fld (R.GEO_H_STAT h) f = r.fld (R.GEO_H_STAT h) f := by
    rw [State.fld, rd_geoFlush _ _ _ hoff, State.rd_congr hregs, State.fld]
  have hgp := (geoFlush_keepsShadow u h).pend
  have hcopy := geoFlush_copying u h
  generalize u.geoFlush h = g at *
  have hpend : (g.nowReady (4 + h)).pend = [{ p with failed := some (4 + h, St.commitReject), notReady := [] }] := by
    simp [State.nowReady, hgp, hup, hn]
  rw [endFailed_geo hpend rfl rfl hq hs hh] at he
  refine ⟨_, he, rfl, hcopy, (hrd _).trans ?_, (hrd _).trans ?_⟩
  · rw [← hr, State.fld_setFld_ne _ _ _ _ _ (by decide) (by decide), State.fld_setFld_same _ _ _ _ (by decide)]
    rfl
  · rw [← hr, State.fld_setFld_same _ _ _ _ (by decide)]
    rfl

end

/-- Settles O40: the snapshot leaves the list and its words are the live copies; each copy writes its half alone. -/
theorem commitGoLive : Obligations.CommitGoLive := by
  unfold Obligations.CommitGoLive
  refine ⟨fun s i p hf hq id hs => ?_, fun s i h => gives_of_done (exec_commitGoLive_none h), fun s hw hh hc => ?_, fun s hw hh hc => ?_,
    fun s => ⟨fun h => gives_of_done (if_pos h), fun h => gives_of_done (if_pos h), fun h => gives_of_done (exec_stagingCopyComplete_none h),
      fun h hc => gives_of_done (exec_geoCopyComplete_none hc)⟩, fun s k p hk hp h1 => ?_, fun s h p hp hh hc hn hf => ?_⟩
  · obtain ⟨t, ht, hset⟩ := gives_of_done (exec_commitGoLive hf hq hs)
    have hid : p.id = i := by
      have hm := List.find?_some hf
      simp only [Bool.and_eq_true, decide_eq_true_eq] at hm
      exact hm.1
    obtain ⟨hpend, hlive⟩ := goLiveSet_keepsShadow (s.atGoLive p) p id
    refine ⟨t, ht, fun x hx => ?_, fun _ r hr => ?_, fun h0 n hn => ?_, fun h2 hc => ?_, fun h1 htiles => ?_⟩
    · rw [hset.pend, hpend, wordsLive_pend] at hx
      simpa [hid] using (List.mem_filter.1 hx).2
    · have hlv : t.live = ((s.atGoLive p).wordsLive p id).live := hset.live.trans hlive
      rw [State.lv, hlv]
      exact wordsLive_lv _ p id r hr
    · subst h0
      rw [← goLiveSet_dram (s.atGoLive p) p n hn, State.dramRegion, State.dramRegion, hset.glb]
    · subst h2
      obtain ⟨hflip, hcopy, hmem⟩ := goLiveSet_curves_flips (s.atGoLive p) p hc
      obtain ⟨h1, h2⟩ := curveHalves_of_flip (s := s) (t := t) ((hset.fld _ (by decide)).trans hflip)
      exact ⟨h1, h2, (hset.fld _ (by decide)).trans hcopy, hset.mem.trans hmem⟩
    · subst h1
      rw [goLiveSet_pool] at hset
      obtain ⟨hnt, hctx, hpost⟩ := poolLive_spec (s.atGoLive p) ((s.atGoLive p).tsc.copying.getD 0) p.tiles htiles
      refine ⟨(hset.fld _ (by decide)).trans hnt, (congrArg Tsc.ctxs hset.tsc).trans hctx, fun e he => ?_⟩
      rw [← hpost e he, State.posted, State.posted, hset.rd (by simp only [irqRegs]; grind)]
  · obtain ⟨x, he, hmem, hcopy, hold⟩ := exec_curveCopyComplete hh hc
    obtain ⟨t, ht, hset⟩ := gives_of_done he
    refine ⟨t, ht, (hset.fld _ (by decide)).trans hcopy, (congrArg Bld.holding hset.bld).trans hold, ?_⟩
    rw [hset.mem, hmem]
    exact sramCopy_halves s _ _ _ hw
  · obtain ⟨x, he, hmem, hcopy, hold⟩ := exec_controlCopyComplete hh hc
    obtain ⟨t, ht, hset⟩ := gives_of_done he
    refine ⟨t, ht, (hset.fld _ (by decide)).trans hcopy, (congrArg Cen.holding hset.cen).trans hold, ?_⟩
    rw [hset.mem, hmem]
    exact sramCopy_halves s _ _ _ hw
  · obtain ⟨t, ht, hset⟩ := gives_of_done (exec_stagingCopyComplete hk hp h1)
    refine ⟨t, ht, hset.pend.trans ?_⟩
    rw [State.nowReady, (stagingCopy_keepsShadow s k).pend]
  · refine ⟨fun hj => ?_, fun cause index hq hs hj => ?_⟩
    · obtain ⟨x, he, hpend, hcopy⟩ := geoCopy_pass hp hc hn hf hj
      obtain ⟨t, ht, hset⟩ := gives_of_done he
      exact ⟨t, ht, hset.pend.trans hpend, by rwa [hset.cal]⟩
    · obtain ⟨x, he, hpend, hcopy, hrej, hcause⟩ := geoCopy_bad hh hp hc hn hf hq hs hj
      obtain ⟨t, ht, hset⟩ := gives_of_done he
      have hoff : R.GEO_H_STAT h ∉ irqRegs := by simp only [irqRegs]; grind
      exact ⟨t, ht, hset.pend.trans hpend, by rwa [hset.cal], (hset.fld _ hoff).trans hrej, (hset.fld _ hoff).trans hcause⟩

end Sys2Proof.Machine
end

section
/-! PROOFS. The results and flags of the ALU as integer arithmetic (O28): shifts as products and quotients by powers of two. -/

namespace Sys2Proof.Machine

/-! ## Shifts by any count -/

/-- SHL by `k` is the product with 2^k, reduced to the word, also beyond the word (R101). -/
theorem toNat_shl_any (a : Word) (k : Nat) : (if k < 32 then a <<< k else 0 : Word).toNat = a.toNat * 2 ^ k % 2 ^ 32 := by
  split
  · rw [BitVec.toNat_shiftLeft, Nat.shiftLeft_eq]
  · next h =>
    have hd : 2 ^ 32 ∣ a.toNat * 2 ^ k := Dvd.dvd.mul_left (pow_dvd_pow 2 (by omega)) _
    rw [Nat.mod_eq_zero_of_dvd hd]
    rfl

/-- A word shifted right by its width or more is 0. -/
theorem toNat_div_two_pow_of_le (a : Word) {k : Nat} (h : 32 ≤ k) : a.toNat / 2 ^ k = 0 :=
  Nat.div_eq_of_lt (a.isLt.trans_le (Nat.pow_le_pow_right (by decide) h))

/-- SHR by `k` is the quotient by 2^k, also beyond the word (R101). -/
theorem toNat_shr_any (a : Word) (k : Nat) : (if k < 32 then a >>> k else 0 : Word).toNat = a.toNat / 2 ^ k := by
  split
  · rw [BitVec.toNat_ushiftRight, Nat.shiftRight_eq_div_pow]
  · next h =>
    rw [toNat_div_two_pow_of_le a (by omega)]
    rfl

/-- The last bit that SHL by `k` moves out of the word: bit 32 of the product. -/
theorem shl_carry (a k : Nat) : a * 2 ^ k / 2 ^ 32 % 2 = 1 ↔ k ≤ 32 ∧ bit a (32 - k) = true := by
  by_cases h : k ≤ 32
  · have hp : (2 : Nat) ^ 32 = 2 ^ (32 - k) * 2 ^ k := by rw [← pow_add, Nat.sub_add_cancel h]
    rw [hp, Nat.mul_div_mul_right _ _ (by positivity)]
    simp [bit, h]
  · have hp : (2 : Nat) ^ k = 2 ^ 32 * (2 * 2 ^ (k - 33)) := by rw [← pow_succ', ← pow_add]; congr 1; omega
    have he : a * 2 ^ k / 2 ^ 32 = 2 * (a * 2 ^ (k - 33)) := by
      rw [hp, Nat.mul_left_comm, Nat.mul_div_cancel_left _ (by positivity), Nat.mul_left_comm]
    rw [he]
    simp [h]

/-- The last bit that SHR by `k + 1` moves out of the word. -/
theorem shr_carry (a : Word) (k : Nat) : a.toNat / 2 ^ k % 2 = 1 ↔ k < 32 ∧ bit a.toNat k = true := by
  by_cases h : k < 32
  · simp [bit, h]
  · rw [toNat_div_two_pow_of_le a (by omega)]
    simp [h]

theorem toInt_sar (a : Word) (k : Nat) : (a.sshiftRight k).toInt = a.toInt / 2 ^ k := by
  rw [BitVec.toInt_sshiftRight, Int.shiftRight_eq_div_pow]
  norm_cast

/-- A word is odd as a signed integer where its bit 0 is 1. -/
theorem toInt_odd (a : Word) : a.toInt % 2 = 1 ↔ a.getLsbD 0 = true := by
  have h0 : a.getLsbD 0 = true ↔ a.toNat % 2 = 1 := by simp [BitVec.getLsbD, Nat.testBit_zero]
  rw [h0, BitVec.toInt_eq_toNat_cond]
  split <;> omega

/-- The last bit that SHR.A by `k + 1` moves out of the word; beyond the word it is the sign. -/
theorem sar_carry (a : Word) (k : Nat) : a.toInt / 2 ^ k % 2 = 1 ↔ (if k < 32 then bit a.toNat k else a.msb) = true := by
  rw [← toInt_sar, toInt_odd, BitVec.getLsbD_sshiftRight]
  by_cases h : k < 32 <;> simp [h, bit, BitVec.getLsbD, Nat.testBit_eq_decide_div_mod_eq]

/-! ## Sum and difference -/

theorem aluAdd_val_c (a b : Word) : (aluAdd a b).val.toNat + (if (aluAdd a b).c then 2 ^ 32 else 0) = a.toNat + b.toNat := by
  have := a.isLt
  have := b.isLt
  simp only [aluAdd, zn, BitVec.toNat_add, decide_eq_true_eq]
  split <;> omega

theorem aluSub_val_c (a b : Word) : (aluSub a b).val.toNat + b.toNat = a.toNat + (if (aluSub a b).c then 2 ^ 32 else 0) := by
  have := a.isLt
  have := b.isLt
  simp only [aluSub, zn, BitVec.toNat_sub, decide_eq_true_eq]
  split <;> omega

/-! ## Flags -/

theorem zn_z (r : Word) (c : Bool) : (zn r c).z = true ↔ (zn r c).val.toNat = 0 := by
  simp [zn, BitVec.toNat_eq]

theorem zn_n (r : Word) (c : Bool) : (zn r c).n = true ↔ 2 ^ 31 ≤ (zn r c).val.toNat := by
  simp [zn, BitVec.msb_eq_decide]

/-- ADD to SHR give Z and N from their result. -/
theorem alu_eq_zn {op : Nat} (h : op ∈ [0x10, 0x11, 0x12, 0x13, 0x14, 0x15, 0x16]) (ar c : Bool) (a b : Word) :
    alu op ar c a b = zn (alu op ar c a b).val (alu op ar c a b).c := by
  simp only [List.mem_cons, List.not_mem_nil, or_false] at h
  rcases h with rfl | rfl | rfl | rfl | rfl | rfl | rfl
  case inr.inr.inr.inr.inr.inr => cases ar <;> rfl
  all_goals rfl

/-- Settles O28: each result and its C as integer arithmetic; Z and N by the shape that ADD to SHR share. -/
theorem aluResults : Obligations.AluResults := by
  unfold Obligations.AluResults
  intro ar c a b add sub shl shr sar cmp k
  have hk : k ≠ 0 → (k - 1 < 32 ↔ k ≤ 32) := by omega
  refine ⟨aluAdd_val_c a b, aluSub_val_c a b, ⟨rfl, rfl, rfl⟩, by simp [alu, zn], ⟨toNat_shl_any a k, ?_⟩, ⟨toNat_shr_any a k, ?_⟩,
    ⟨toInt_sar a k, ?_⟩, fun op h => ?_, ?_⟩
  · rw [shl_carry]
    simp [shl, alu, aluShl, zn, k, and_assoc]
  · rw [shr_carry, and_congr_right fun h => and_congr_left' (hk h)]
    simp [shr, alu, aluShr, zn, k, and_assoc]
  · rw [sar_carry, and_congr_right fun h => by rw [if_congr (hk h) rfl rfl]]
    simp [sar, alu, aluSar, zn, k]
  · rw [alu_eq_zn h]
    exact ⟨zn_z _ _, zn_n _ _⟩
  · simp [cmp, alu, aluCmp, BitVec.toNat_eq]

end Sys2Proof.Machine
end

section
/-! PROOFS. The row of a Tanoran instruction on the unit that issues it: which sequencer or engine it is, and what its cost-0 instructions do. -/

namespace Sys2Proof.Machine

/-! ## The unit of a row (Table 16-2) -/

theorem bsqUnit_bsq {n : Nat} (h : n < 26) : bsqUnit (0x100 + n) = some n := by
  rw [bsqUnit, if_pos (by omega), Nat.add_sub_cancel_left]

theorem bsqUnit_ce (e : Nat) : bsqUnit (0x400 + e) = none := if_neg (by omega)

theorem ceUnit_ce {e : Nat} (h : e < 12) : ceUnit (0x400 + e) = some e := by
  rw [ceUnit, if_pos (by omega), Nat.add_sub_cancel_left]

theorem tanoran_bsq (s : State) (op : Nat) {n : Nat} (h : n < 26) : s.tanoran op (0x100 + n) = s.beamRow op n := by
  simp only [State.tanoran, bsqUnit_bsq h]

theorem tanoran_ce (s : State) (op : Nat) {e : Nat} (h : e < 12) : s.tanoran op (0x400 + e) = s.ctlRow op e := by
  simp only [State.tanoran, bsqUnit_ce, ceUnit_ce h]

/-- NOP on a sequencer or an engine is its row there, whatever its command number. -/
theorem exec_nop_bsq (s : State) {n : Nat} (m : Nat) (h : n < 26) : exec (.nop (0x100 + n) m) s = done (s.tanoran 0x00 (0x100 + n)) :=
  congrArg done (if_pos (.inl (by rw [bsqUnit_bsq h]; rfl)))

theorem exec_nop_ce (s : State) {e : Nat} (m : Nat) (h : e < 12) : exec (.nop (0x400 + e) m) s = done (s.tanoran 0x00 (0x400 + e)) :=
  congrArg done (if_pos (.inr (by rw [ceUnit_ce h]; rfl)))

/-! ## Issue -/

section
variable {s : State} {n : Nat} {i : Iw} {c : Instr} {op : Nat}

/-- The row of the opcode at the PC issues the instruction. -/
theorem exec_of_issues (h : s.issues n i) (hop : i.op = op) (hc : exec c s = done (s.tanoran op (0x100 + n))) : exec c s = done (s.issue n i) := by
  obtain ⟨hn, hi⟩ := h
  rw [hc, tanoran_bsq s op hn, State.beamRow, hi]
  simp only [hop, if_true]

theorem gives_issue (h : s.issues n i) (hop : i.op = op) (hc : exec c s = done (s.tanoran op (0x100 + n))) : Gives c s (s.issue n i) :=
  gives_of_done (exec_of_issues h hop hc)

theorem issue_of_exec0 {r : Except Nat Seq}
    (he : ((s.seq n).spend i.len).exec0 s.mem.sram (s.env ((s.seq n).spend i.len)).has i = some r) : s.issue n i = s.issued n r := by
  unfold State.issue
  simp only [show (s.env ((s.seq n).spend i.len)).mem = s.mem.sram from rfl, he]

/-- An instruction of cost 0 gives what `exec0` makes of the sequencer, or its fault. -/
theorem gives_cost0 {r : Except Nat Seq} (h : s.issues n i) (hop : i.op = op) (hc : exec c s = done (s.tanoran op (0x100 + n)))
    (he : ((s.seq n).spend i.len).exec0 s.mem.sram (s.env ((s.seq n).spend i.len)).has i = some r) : Gives c s (s.issued n r) :=
  issue_of_exec0 he ▸ gives_issue h hop hc

theorem gives_issued_ok {r : Except Nat Seq} {x : Seq} (hr : r = .ok x) (g : Gives c s (s.issued n r)) : Gives c s (s.setSeq n x) := by
  rwa [hr] at g

theorem gives_issued_error {r : Except Nat Seq} {code : Nat} (hr : r = .error code) (g : Gives c s (s.issued n r)) :
    Gives c s (s.progFault n code) := by
  rwa [hr] at g

theorem gives_issued_ite {p : Prop} [Decidable p] {x : Seq} {code : Nat} (g : Gives c s (s.issued n (if p then .ok x else .error code))) :
    if p then Gives c s (s.setSeq n x) else Gives c s (s.progFault n code) := by
  split at g <;> simp only [*, if_true, if_false] <;> exact g

end

/-! ## The instructions of cost 0, by opcode -/

section
variable (q : Seq) (m : Sparse Byte) (has : Nat → Bool) {i : Iw}

theorem exec0_nop (h : i.op = 0x00) : q.exec0 m has i = some (.ok (q.pcAdd i.len)) := by simp [Seq.exec0, h]

theorem exec0_ldi (h : i.op = 0x08) : q.exec0 m has i = some ((q.setReg i.gd (BitVec.ofNat 32 i.hi)).map fun x => x.pcAdd 1) := by
  simp [Seq.exec0, h]

theorem exec0_ld (h : i.op = 0x09) : q.exec0 m has i = some (q.ldOp m i) := by simp [Seq.exec0, h]

theorem exec0_st (h : i.op = 0x0A) : q.exec0 m has i = some (q.stOp i) := by simp [Seq.exec0, h]

theorem exec0_br (h : i.op = 0x20) : q.exec0 m has i = some (q.branch (sgn 32 i.hi)) := by simp [Seq.exec0, h]

theorem exec0_brc (h : i.op = 0x21) : q.exec0 m has i = some (q.brcOp i) := by simp [Seq.exec0, h]

theorem exec0_cal (h : i.op = 0x22) : q.exec0 m has i = some (q.calOp i) := by simp [Seq.exec0, h]

theorem exec0_ret (h : i.op = 0x23) : q.exec0 m has i = some q.retOp := by simp [Seq.exec0, h]

theorem exec0_lop (h : i.op = 0x24) : q.exec0 m has i = some (q.lopOp i) := by simp [Seq.exec0, h]

end

/-! ## The instructions of a control program -/

section
variable {s : State} {e : Nat} {x : Eval} {i : Iw} {c : Instr} {op : Nat}

/-- The row of the opcode at the evaluation's PC issues it there (R258). -/
theorem gives_ctlIssue {t : State} {y : Eval} (h : s.evaluates e x i) (hop : i.op = op) (hc : exec c s = done (s.tanoran op (0x400 + e)))
    (hi : s.ctlIssue e x i = (t, y)) : Gives c s (t.setEval e (some y)) := by
  obtain ⟨he, hx, hf⟩ := h
  refine gives_of_done ?_
  rw [hc, tanoran_ce s op he]
  simp [State.ctlRow, hx, hf, hop, hi]

end

end Sys2Proof.Machine
end

section
/-! PROOFS. LDI, LD, ST and NOP (O30). -/

namespace Sys2Proof.Machine

/-! ## A register code written (R88, R89) -/

section
variable (q : Seq) (v : Word)

theorem setReg_general {d : Nat} (h : d < 16) : q.setReg d v = .ok { q with arch := { q.arch with g := q.arch.g.set d v } } := if_pos h

theorem setReg_level : q.setReg 21 v = if v.toNat ≤ 65535 then .ok (q.setLevel v.toNat) else .error Pf.badOperand := by
  simp only [← not_lt, ite_not]
  rfl

theorem setReg_mask :
    q.setReg 22 v = if v.toNat ≤ 255 then .ok { q with arch := { q.arch with mask := v.toNat } }.mark else .error Pf.badOperand := by
  simp only [← not_lt, ite_not]
  rfl

theorem setReg_region :
    q.setReg 23 v = if v.toNat ≤ 15 then .ok { q with arch := { q.arch with region := v.toNat } }.mark else .error Pf.badOperand := by
  simp only [← not_lt, ite_not]
  rfl

/-- Read-only and reserved codes. -/
theorem setReg_illegal {d : Nat} (h : d ∈ [16, 17, 18, 24, 25, 26, 27, 28, 29, 30, 31]) : q.setReg d v = .error Pf.illegalReg := by
  simp only [List.mem_cons, List.not_mem_nil, or_false] at h
  rcases h with rfl | rfl | rfl | rfl | rfl | rfl | rfl | rfl | rfl | rfl | rfl <;> rfl

end

/-! ## Loads and stores (R102) -/

section
variable (q : Seq) (i : Iw)

theorem memAddr_general (h : i.ga < 16) : q.memAddr i = .ok (q.arch.g.getD i.ga 0 + BitVec.ofNat 32 i.hi).toNat := if_neg (by omega)

theorem memAddr_illegal (h : 16 ≤ i.ga) : q.memAddr i = .error Pf.illegalReg := if_pos h

theorem ldOp_general (m : Sparse Byte) (hd : i.gd < 16) (ha : i.ga < 16) :
    let a := (q.arch.g.getD i.ga 0 + BitVec.ofNat 32 i.hi).toNat
    let v : Word := if i.md 10 then BitVec.ofNat 32 (leNat (readBytes m (4 * a) 4)) else sget (fun _ => 0) a q.arch.scratch
    q.ldOp m i = if a ≤ (if i.md 10 then 8388607 else 255)
      then .ok (({ q with arch := { q.arch with g := q.arch.g.set i.gd v } } : Seq).pcAdd 1) else .error Pf.memRange := by
  simp only [Seq.ldOp, memAddr_general q i ha, setReg_general q _ hd, ← not_lt, ite_not]
  rfl

theorem ldOp_illegal (m : Sparse Byte) (h : 16 ≤ i.ga) : q.ldOp m i = .error Pf.illegalReg := by
  simp only [Seq.ldOp, memAddr_illegal q i h]
  rfl

theorem stOp_general {v : Word} (ha : i.ga < 16) (hv : q.reg i.gd = .ok v) :
    let a := (q.arch.g.getD i.ga 0 + BitVec.ofNat 32 i.hi).toNat
    q.stOp i = if i.md 10 = false ∧ a ≤ 255
      then .ok (({ q with arch := { q.arch with scratch := sput (fun _ => 0) a v q.arch.scratch } } : Seq).pcAdd 1) else .error Pf.memRange := by
  intro a
  have hn : (i.md 10 || decide (255 < a)) = true ↔ ¬ (i.md 10 = false ∧ a ≤ 255) := by simp [imp_iff_or_not, or_comm]
  simp only [Seq.stOp, memAddr_general q i ha, hv]
  exact (if_congr hn rfl rfl).trans (ite_not _ _ _)

theorem stOp_illegal (h : 16 ≤ i.ga) : q.stOp i = .error Pf.illegalReg := by
  simp only [Seq.stOp, memAddr_illegal q i h]
  rfl

end

/-- Settles O30: each instruction is one register or scratch write, or the fault of its operands. -/
theorem loadsAndStores : Obligations.LoadsAndStores := by
  unfold Obligations.LoadsAndStores
  refine ⟨fun s n i h => ?_, fun s e x i h => ⟨fun hop hd => ?_, fun hop m => ?_⟩⟩
  · intro q fault lands a
    refine ⟨fun hop => ?_, fun hop hd => ?_, fun hop => ?_, fun hop m => ?_⟩
    · intro v
      have g : Gives (.ldi (0x100 + n)) s (s.issued n ((q.setReg i.gd v).map fun x => x.pcAdd 1)) := gives_cost0 h hop rfl (exec0_ldi _ _ _ hop)
      refine ⟨fun hd => ?_, fun hd => ?_, fun hd => ?_, fun hd => ?_, fun hd => ?_, fun hd => ?_, fun hd => ?_⟩
      · exact gives_issued_ok (congrArg (Except.map _) (setReg_general q v hd)) g
      · rwa [hd] at g
      · rwa [hd] at g
      · rw [hd, setReg_level, apply_ite (Except.map _)] at g
        exact gives_issued_ite g
      · rw [hd, setReg_mask, apply_ite (Except.map _)] at g
        exact gives_issued_ite g
      · rw [hd, setReg_region, apply_ite (Except.map _)] at g
        exact gives_issued_ite g
      · exact gives_issued_error (congrArg (Except.map _) (setReg_illegal q v hd)) g
    · have g : Gives (.ld (0x100 + n)) s (s.issued n (q.ldOp s.mem.sram i)) := gives_cost0 h hop rfl (exec0_ld _ _ _ hop)
      refine ⟨fun ha hs => ?_, fun ha hs => ?_, fun ha => ?_⟩
      · rw [ldOp_general q i _ hd ha, hs] at g
        exact gives_issued_ite g
      · rw [ldOp_general q i _ hd ha, hs] at g
        exact gives_issued_ite g
      · exact gives_issued_error (ldOp_illegal q i _ ha) g
    · have g : Gives (.st (0x100 + n)) s (s.issued n (q.stOp i)) := gives_cost0 h hop rfl (exec0_st _ _ _ hop)
      refine ⟨fun v ha hv => ?_, fun ha => ?_⟩
      · rw [stOp_general q i ha hv] at g
        exact gives_issued_ite g
      · exact gives_issued_error (stOp_illegal q i ha) g
    · exact gives_cost0 h hop (exec_nop_bsq s m h.1) (exec0_nop _ _ _ hop)
  · exact gives_ctlIssue h hop rfl (by simp [State.ctlIssue, hop, Eval.put, hd])
  · exact gives_ctlIssue h hop (exec_nop_ce s m h.1) (by simp [State.ctlIssue, hop])

end Sys2Proof.Machine
end

section
/-! PROOFS. Branches, the return stack and the counter (O31). -/

namespace Sys2Proof.Machine

/-- A branch stays in the program windows, or raises PC_RANGE (R98, R103). -/
theorem branch_eq (q : Seq) (off : Int) :
    let t := (q.arch.pc : Int) + off
    q.branch off = if 0 ≤ t ∧ t < 4194304 then .ok { q with arch := { q.arch with pc := t.toNat } } else .error Pf.pcRange := by
  intro t
  have hn : (t < 0 ∨ (progEnd : Int) ≤ t) ↔ ¬ (0 ≤ t ∧ t < 4194304) := by simp only [progEnd]; omega
  exact (if_congr hn rfl rfl).trans (ite_not _ _ _)

/-- An instruction that branches from `x` lands at PC + OFFSET, or faults. -/
theorem gives_branch {c : Instr} {s : State} {n : Nat} {x : Seq} {off : Int} (g : Gives c s (s.issued n (x.branch off))) :
    let t := (x.arch.pc : Int) + off
    if 0 ≤ t ∧ t < 4194304 then Gives c s (s.setSeq n { x with arch := { x.arch with pc := t.toNat } }) else Gives c s (s.progFault n Pf.pcRange) :=
  gives_issued_ite (branch_eq x off ▸ g)

section
variable (q : Seq) (i : Iw)

/-! ## BRC (Table 4-9) -/

theorem brcOp_taken (hc : bits i.base 19 16 ≤ 12)
    (h : condHolds (bits i.base 19 16) q.arch.fz q.arch.fn q.arch.fc q.arch.fw q.arch.ft = true) : q.brcOp i = q.branch (sgn 32 i.hi) := by
  rw [Seq.brcOp, if_neg (by omega), if_pos h]

theorem brcOp_not_taken (hc : bits i.base 19 16 ≤ 12)
    (h : condHolds (bits i.base 19 16) q.arch.fz q.arch.fn q.arch.fc q.arch.fw q.arch.ft ≠ true) : q.brcOp i = .ok (q.pcAdd 1) := by
  rw [Seq.brcOp, if_neg (by omega), if_neg h]

theorem brcOp_illegal (hc : 13 ≤ bits i.base 19 16) : q.brcOp i = .error Pf.illegalInstr := if_pos hc

/-! ## CAL, RET and LOP -/

/-- The push and the branch of CAL do not meet. -/
theorem calOp_push (h : q.arch.stack.length < 8) :
    q.calOp i = ({ q with arch := { q.arch with stack := (q.arch.pc + 1) :: q.arch.stack } } : Seq).branch (sgn 32 i.hi) := by
  rw [Seq.calOp, if_neg (by omega), branch_eq, branch_eq]
  dsimp only
  split <;> rfl

theorem calOp_full (h : 8 ≤ q.arch.stack.length) : q.calOp i = .error Pf.stack := if_pos h

theorem retOp_pop {r : Nat} {l : List Nat} (h : q.arch.stack = r :: l) :
    q.retOp = .ok { q with arch := { q.arch with pc := r, stack := l } } := by
  rw [Seq.retOp, h]

theorem retOp_empty (h : q.arch.stack = []) : q.retOp = .error Pf.stack := by
  rw [Seq.retOp, h]

theorem lopOp_zero (hg : bits i.base 24 20 < 16) (hv : q.arch.g.getD (bits i.base 24 20) 0 = 0) : q.lopOp i = .ok (q.pcAdd 1) := by
  rw [Seq.lopOp, if_neg (by omega), if_pos hv]

theorem lopOp_last (hg : bits i.base 24 20 < 16) (hv : q.arch.g.getD (bits i.base 24 20) 0 = 1) :
    q.lopOp i = .ok (({ q with arch := { q.arch with g := q.arch.g.set (bits i.base 24 20) 0 } } : Seq).pcAdd 1) := by
  rw [Seq.lopOp, if_neg (by omega), if_neg (by rw [hv]; decide), if_pos hv, setReg_general q 0 hg]
  rfl

theorem lopOp_loops (hg : bits i.base 24 20 < 16) (h0 : q.arch.g.getD (bits i.base 24 20) 0 ≠ 0) (h1 : q.arch.g.getD (bits i.base 24 20) 0 ≠ 1) :
    q.lopOp i = ({ q with arch := { q.arch with
      g := q.arch.g.set (bits i.base 24 20) (q.arch.g.getD (bits i.base 24 20) 0 - 1) } } : Seq).branch (sgn 32 i.hi) := by
  rw [Seq.lopOp, if_neg (by omega), if_neg h0, if_neg h1, setReg_general q _ hg]
  rfl

end

/-- Settles O31: each is a branch, a step to the next word or a fault; a control engine takes the same conditions. -/
theorem branches : Obligations.Branches := by
  unfold Obligations.Branches
  intro holds
  have hcond : ∀ cond z n c w t, holds cond z n c w t ↔ cond ≤ 12 ∧ condHolds cond z n c w t = true := by
    intro cond z n c w t
    by_cases h : cond ≤ 12
    · interval_cases cond <;> simp [holds, condHolds]
    · obtain ⟨k, rfl⟩ := Nat.exists_eq_add_of_le' (Nat.lt_of_not_le h)
      simp [holds]
  refine ⟨fun s n i h => ?_, fun s e x i h => ?_⟩
  · intro q at_ go lands cond gc v
    refine ⟨fun hop => ?_, fun hop => ?_, fun hop => ?_, fun hop => ?_, fun hop hg => ?_⟩
    · exact gives_branch (gives_cost0 h hop rfl (exec0_br q _ _ hop))
    · have g : Gives (.brc (0x100 + n)) s (s.issued n (q.brcOp i)) := gives_cost0 h hop rfl (exec0_brc q _ _ hop)
      refine ⟨fun hc => ?_, fun hle hc => ?_, fun hc => ?_⟩
      · obtain ⟨hle, hc⟩ := (hcond _ _ _ _ _ _).1 hc
        exact gives_branch (brcOp_taken q i hle hc ▸ g)
      · exact gives_issued_ok (brcOp_not_taken q i hle fun e => hc ((hcond _ _ _ _ _ _).2 ⟨hle, e⟩)) g
      · exact gives_issued_error (brcOp_illegal q i hc) g
    · have g : Gives (.cal (0x100 + n)) s (s.issued n (q.calOp i)) := gives_cost0 h hop rfl (exec0_cal q _ _ hop)
      exact ⟨fun hs => gives_branch (calOp_push q i hs ▸ g), fun hs => gives_issued_error (calOp_full q i hs) g⟩
    · have g : Gives (.ret (0x100 + n)) s (s.issued n q.retOp) := gives_cost0 h hop rfl (exec0_ret q _ _ hop)
      exact ⟨fun r l hs => gives_issued_ok (retOp_pop q hs) g, fun hs => gives_issued_error (retOp_empty q hs) g⟩
    · have g : Gives (.lop (0x100 + n)) s (s.issued n (q.lopOp i)) := gives_cost0 h hop rfl (exec0_lop q _ _ hop)
      exact ⟨fun hv => gives_issued_ok (lopOp_zero q i hg hv) g, fun hv => gives_issued_ok (lopOp_last q i hg hv) g, fun h0 h1 =>
         gives_branch (lopOp_loops q i hg h0 h1 ▸ g)⟩
  · intro lands there cond
    refine ⟨fun hop => ?_, fun hop => ⟨fun hc => ?_, fun hle hc => ?_⟩⟩
    · exact gives_ctlIssue h hop rfl (by simp only [State.ctlIssue, hop]; rfl)
    · exact gives_ctlIssue h hop rfl (by simp [State.ctlIssue, hop, ((hcond _ _ _ _ _ _).1 hc).2, there, cond])
    · have hn : condHolds (bits i.base 19 16) x.fz x.fn x.fc x.fw x.ft ≠ true := fun e => hc ((hcond _ _ _ _ _ _).2 ⟨hle, e⟩)
      exact gives_ctlIssue h hop rfl (by simp [State.ctlIssue, hop, hn])

end Sys2Proof.Machine
end

section
/-! PROOFS. What the state keeps where one sequencer's plan is made, and which meaning the issue of a timed instruction has. -/

namespace Sys2Proof.Machine

/-! ## One sequencer replaced -/

@[simp] theorem State.seq_setSeq_same (s : State) (n : Nat) (q : Seq) : (s.setSeq n q).seq n = q := sget_sput_same Seq.reset n q s.seqs

theorem State.seq_setSeq_ne (s : State) {m n : Nat} (q : Seq) (h : m ≠ n) : (s.setSeq n q).seq m = s.seq m :=
  sget_sput_ne Seq.reset n m q s.seqs h

theorem State.settles.seq {t x : State} (h : t.settles x) (n : Nat) : t.seq n = x.seq n := by rw [State.seq, h.seqs, State.seq]

/-- `t` is `s` with sequencer `n` being `q`, as far as the sequencers, the memory and the registers outside `offs` tell. -/
structure State.replans (offs : List Nat) (n : Nat) (q : Seq) (s t : State) : Prop where
  seq : t.seq n = q
  others : ∀ m, m ≠ n → t.seq m = s.seq m
  mem : t.mem = s.mem
  mode : t.mode = s.mode
  regs : s.sameBut offs t

section
variable {s : State} {n : Nat} {q : Seq} {c : Instr} {P : State → Prop}

/-- A command that gives the state with one sequencer replaced. -/
theorem runs_setSeq (g : Gives c s (s.setSeq n q)) (hP : ∀ t, s.replans [] n q t → P t) : Runs c s P := by
  obtain ⟨t, ht, hset⟩ := g
  refine ⟨t, ht, hP t ⟨?_, fun m hm => ?_, hset.mem, ?_, fun off _ ho => hset.rd ho⟩⟩
  · rw [hset.seq, State.seq_setSeq_same]
  · rw [hset.seq, State.seq_setSeq_ne s q hm]
  · rw [State.mode, hset.fld _ (by decide)]
    rfl

/-- A motion or hold that is planned replaces the sequencer, and may count clamped delays. -/
theorem runs_planned {r : Except Nat (Seq × Nat)} {k : Nat} (g : Gives c s (s.planned n r)) (hr : r = .ok (q, k))
    (hP : ∀ t, s.replans [R.BSQ_DLYCLAMP n] n q t → P t) : Runs c s P := by
  subst hr
  obtain ⟨t, ht, hset⟩ := g
  refine ⟨t, ht, hP t ?_⟩
  by_cases hk : k = 0
  · simp only [State.planned, hk, if_true] at hset
    refine ⟨?_, fun m hm => ?_, hset.mem, ?_, fun off _ ho => hset.rd ho⟩
    · rw [hset.seq, State.seq_setSeq_same]
    · rw [hset.seq, State.seq_setSeq_ne s q hm]
    · rw [State.mode, hset.fld _ (by decide)]
      rfl
  · simp only [State.planned, hk, if_false] at hset
    refine ⟨?_, fun m hm => ?_, hset.mem, ?_, fun off h ho => ?_⟩
    · exact (hset.seq n).trans (State.seq_setSeq_same s n q)
    · exact (hset.seq m).trans (State.seq_setSeq_ne s q hm)
    · rw [State.mode, hset.fld _ (by decide), ← State.mode]
      exact mode_wr _ _ _ (by simp only [R.BSQ_DLYCLAMP, R.GLB_MODE]; omega)
    · rw [hset.rd ho, State.rd_inc_ne _ _ _ _ (by simpa using h), State.rd_setSeq]

theorem gives_planned_error {r : Except Nat (Seq × Nat)} {code : Nat} (g : Gives c s (s.planned n r)) (hr : r = .error code) :
    Gives c s (s.progFault n code) := by
  rwa [hr] at g

end

/-! ## The issue of a timed instruction -/

section
variable (q : Seq) (m : Sparse Byte) (has : Nat → Bool) {i : Iw}

theorem exec0_timed (h : i.op ∈ [0x30, 0x31, 0x32, 0x33, 0x34, 0x40, 0x48, 0x49, 0x4A]) : q.exec0 m has i = none := by
  simp only [List.mem_cons, List.not_mem_nil, or_false] at h
  rcases h with h | h | h | h | h | h | h | h | h <;> simp [Seq.exec0, h]

theorem exec0_rmpWait (h : i.op = 0x39) (hw : i.md 10 = true) : q.exec0 m has i = none := by simp [Seq.exec0, h, hw]

end

section
variable {s : State} {n : Nat} {i : Iw}

/-- A timed instruction that takes no slot only advances the PC. -/
theorem gives_void {c : Instr} {op : Nat} (h : s.issues n i) (hop : i.op = op) (hc : exec c s = done (s.tanoran op (0x100 + n)))
    (ht : op ∈ [0x30, 0x31, 0x32, 0x33, 0x34, 0x40, 0x48, 0x49, 0x4A]) (hv : i.void = true) :
    Gives c s (s.setSeq n (((s.seq n).spend i.len).pcAdd i.len)) := by
  have hi : s.issue n i = s.setSeq n (((s.seq n).spend i.len).pcAdd i.len) := by simp [State.issue, exec0_timed _ _ _ (hop ▸ ht), hv]
  exact hi ▸ gives_issue h hop hc

variable (hs : (s.seq n).inSwitch = false)
include hs

theorem issue_dwl (hop : i.op = 0x34) (hc : bits i.base 47 16 ≠ 0) :
    s.issue n i = s.planned n (((s.seq n).spend i.len).dwlOp (s.env (s.seq n)) i) := by
  have hs' : ((s.seq n).spend i.len).inSwitch = false := hs
  simp [State.issue, exec0_timed, State.zeroMotion, Iw.void, hop, hc, hs']
  rfl

theorem issue_rmpWait (hop : i.op = 0x39) (hw : i.md 10 = true) (ht : bits i.base 55 32 ≠ 0) :
    s.issue n i = s.planned n (((s.seq n).spend i.len).rmpWaitOp (s.env (s.seq n)) i) := by
  have hs' : ((s.seq n).spend i.len).inSwitch = false := hs
  simp [State.issue, exec0_rmpWait, State.zeroMotion, Iw.void, hop, hw, ht, hs']
  rfl

theorem issue_wtm (hop : i.op = 0x49) (hc : i.md 10 = true ∨ bits i.base 47 16 ≠ 0) : s.issue n i = s.wtmOp n i ((s.seq n).spend i.len) := by
  have hs' : ((s.seq n).spend i.len).inSwitch = false := hs
  have hv : i.void = false := by rcases hc with hc | hc <;> simp [Iw.void, hop, hc]
  simp [State.issue, exec0_timed, State.zeroMotion, hop, hv, hs']

theorem issue_wpm (hop : i.op = 0x48) : s.issue n i = s.wpmOp n i ((s.seq n).spend i.len) := by
  have hs' : ((s.seq n).spend i.len).inSwitch = false := hs
  simp [State.issue, exec0_timed, State.zeroMotion, Iw.void, hop, hs']

theorem issue_bar (hop : i.op = 0x4A) (hc : 2 ≤ bits i.base 36 32) : s.issue n i = s.barOp n i ((s.seq n).spend i.len) := by
  have hs' : ((s.seq n).spend i.len).inSwitch = false := hs
  have hv : i.void = false := by simp [Iw.void, hop]; omega
  simp [State.issue, exec0_timed, State.zeroMotion, hop, hv, hs']

theorem issue_jmp (hop : i.op = 0x30) : s.issue n i = s.planned n (((s.seq n).spend i.len).jmpOp (s.env (s.seq n)) i) := by
  have hs' : ((s.seq n).spend i.len).inSwitch = false := hs
  simp [State.issue, exec0_timed, State.zeroMotion, Iw.void, hop, hs']
  rfl

theorem issue_brs (hop : i.op = 0x40) (hc : bits i.base 19 16 ≠ 0) :
    s.issue n i = s.planned n (((s.seq n).spend i.len).brsOp (s.env (s.seq n)) i) := by
  have hs' : ((s.seq n).spend i.len).inSwitch = false := hs
  simp [State.issue, exec0_timed, State.zeroMotion, Iw.void, hop, hc, hs']
  rfl

end

end Sys2Proof.Machine
end

section
/-! PROOFS. The plan of one sequencer: what the operations that lengthen it keep, with skywriting off (R125, R133 to R135). -/

namespace Sys2Proof.Machine

/-! ## One span -/

section
variable (q : Seq) (len : Nat) (path : Path) (kind : SpanKind) (fire : Bool) (vlen vticks : Nat)

theorem span_cursor : (q.span len path kind fire vlen vticks).cursor = q.cursor + len := by
  unfold Seq.span
  split
  · next h => rw [h, Nat.add_zero]
  · rfl

theorem span_spans (h : len ≠ 0) : (q.span len path kind fire vlen vticks).spans =
    q.spans ++ [⟨q.cursor, len, path, 0, kind, fire, q.openAt, 2 ^ 80, q.arch.vidx, vlen, vticks, q.arch.pc, q.tv⟩] := by
  rw [Seq.span, if_neg h]

/-- A span changes the sequencer in its list of spans and its cursor alone. -/
theorem span_eq : q.span len path kind fire vlen vticks =
    { q with spans := (q.span len path kind fire vlen vticks).spans, cursor := q.cursor + len } := by
  unfold Seq.span
  split
  · next h => rw [h, Nat.add_zero]
  · rfl

end

theorem le_boundary (x : Nat) : x ≤ boundary x := by
  unfold boundary cdiv
  omega

theorem boundary_mod (x : Nat) : boundary x % 1250 = 0 := Nat.mul_mod_left _ _

theorem fill_cursor (q : Seq) (fire : Bool) : (q.fill fire).cursor = boundary q.cursor := by
  rw [Seq.fill, Seq.holdFor, span_cursor, Nat.add_sub_cancel' (le_boundary _)]

/-! ## Spans added at the end -/

/-- `x` is `q` with spans added, each of which has `p`. -/
structure Seq.adds (p : Span → Prop) (q x : Seq) : Prop where
  arch : x.arch = q.arch
  shape : x.shape = q.shape
  inRun : x.inRun = q.inRun
  runInDone : x.runInDone = q.runInDone
  cursor : q.cursor ≤ x.cursor
  spans : ∃ l, x.spans = q.spans ++ l ∧ ∀ sp ∈ l, p sp

namespace Seq.adds

variable {p : Span → Prop} {q x y : Seq}

theorem refl (q : Seq) : q.adds p q := ⟨rfl, rfl, rfl, rfl, le_rfl, [], by simp, by simp⟩

theorem trans (h : q.adds p x) (g : x.adds p y) : q.adds p y := by
  obtain ⟨l, hl, hp⟩ := h.spans
  obtain ⟨m, hm, hp'⟩ := g.spans
  exact ⟨g.arch.trans h.arch, g.shape.trans h.shape, g.inRun.trans h.inRun, g.runInDone.trans h.runInDone, h.cursor.trans g.cursor,
    l ++ m, by rw [hm, hl, List.append_assoc], by simpa [or_imp, forall_and] using ⟨hp, hp'⟩⟩

/-- Fields other than these do not matter. -/
theorem congr (h : q.adds p x) (ha : y.arch = x.arch) (hs : y.shape = x.shape) (hi : y.inRun = x.inRun) (hr : y.runInDone = x.runInDone)
    (hc : y.cursor = x.cursor) (hl : y.spans = x.spans) : q.adds p y :=
  ⟨ha.trans h.arch, hs.trans h.shape, hi.trans h.inRun, hr.trans h.runInDone, hc ▸ h.cursor, hl ▸ h.spans⟩

section
variable (h : q.adds p x) {kind : SpanKind} {fire : Bool} (hp : ∀ sp : Span, sp.kind = kind → sp.fire = fire → p sp)
include h hp

theorem span (len : Nat) (path : Path) (vlen vticks : Nat) : q.adds p (x.span len path kind fire vlen vticks) := by
  refine h.trans ?_
  unfold Seq.span
  split
  · exact refl x
  · exact ⟨rfl, rfl, rfl, rfl, Nat.le_add_right _ _, _, rfl, by simpa using hp _ rfl rfl⟩

theorem holdFor (len : Nat) : q.adds p (x.holdFor len kind fire) := h.span hp len _ 0 0

theorem drive (n : Nat) (path : Path) (vlen : Nat) (e : Pt) : q.adds p (x.drive n path kind fire vlen e) :=
  (h.span hp _ path vlen n).congr rfl rfl rfl rfl rfl rfl

end

theorem fill {fire : Bool} (h : q.adds p x) (hp : ∀ sp : Span, sp.kind = .fill → sp.fire = fire → p sp) : q.adds p (x.fill fire) := h.holdFor hp _

/-- A jump at a speed that is not 0 adds dark spans (R131). -/
theorem jump (h : q.adds p x) (prof : Bool × Nat) (e : Pt) {kind : SpanKind} (hv : x.arch.jspeed ≠ 0)
    (hp : ∀ sp : Span, sp.kind = kind ∨ sp.kind = .fill → sp.fire = false → p sp) : ∃ y, x.jump prof e kind = .ok y ∧ q.adds p y := by
  unfold Seq.jump
  dsimp only
  split
  · exact ⟨x, rfl, h⟩
  · rw [if_neg (fun h => hv h.2)]
    have hf : q.adds p { x.fill false with tv := x.arch.jspeed } := (h.fill fun sp hk => hp sp (.inr hk)).congr rfl rfl rfl rfl rfl rfl
    exact ⟨_, rfl, hf.drive (fun sp hk => hp sp (.inl hk)) _ _ _ _⟩

end Seq.adds

/-! ## Spans changed in their gates -/

/-- `sp'` takes the slots of `sp`, is of its kind, and fires where it does. -/
structure Span.kept (sp sp' : Span) : Prop where
  start : sp'.start = sp.start
  len : sp'.len = sp.len
  kind : sp'.kind = sp.kind
  fire : sp.fire = true → sp'.fire = true

/-- The motion spans of the plan. -/
def Seq.motions (q : Seq) : List Span := q.spans.filter fun sp => sp.kind = .motion

/-- `x` is `q` with its plan carried on by `k` motions: every span keeps its slots, and its gates may change. -/
structure Seq.leadsTo (k : Nat) (q x : Seq) : Prop where
  arch : x.arch = q.arch
  shape : x.shape = q.shape
  runInDone : x.runInDone = q.runInDone
  cursor : q.cursor ≤ x.cursor
  spans : ∀ sp ∈ q.spans, ∃ sp' ∈ x.spans, sp.kept sp'
  motions : x.motions.length = q.motions.length + k

namespace Seq.leadsTo

variable {k j : Nat} {q x y : Seq}

theorem trans (h : q.leadsTo k x) (g : x.leadsTo j y) : q.leadsTo (k + j) y where
  arch := g.arch.trans h.arch
  shape := g.shape.trans h.shape
  runInDone := g.runInDone.trans h.runInDone
  cursor := h.cursor.trans g.cursor
  spans sp hsp := by
    obtain ⟨sp', hm, hk⟩ := h.spans sp hsp
    obtain ⟨sp'', hm', hk'⟩ := g.spans sp' hm
    exact ⟨sp'', hm', hk'.start.trans hk.start, hk'.len.trans hk.len, hk'.kind.trans hk.kind, fun hf => hk'.fire (hk.fire hf)⟩
  motions := by rw [g.motions, h.motions, Nat.add_assoc]

/-- Spans added that are no motions. -/
theorem of_adds (h : q.adds (fun sp => sp.kind ≠ .motion) x) : q.leadsTo 0 x := by
  obtain ⟨l, hl, hp⟩ := h.spans
  refine ⟨h.arch, h.shape, h.runInDone, h.cursor, fun sp hsp => ⟨sp, by simp [hl, hsp], rfl, rfl, rfl, id⟩, ?_⟩
  have hn : (l.filter fun sp => sp.kind = .motion) = [] := by simpa [List.filter_eq_nil_iff] using hp
  rw [Seq.motions, hl, List.filter_append, hn, List.append_nil, Seq.motions, Nat.add_zero]

theorem refl (q : Seq) : q.leadsTo 0 q := of_adds (.refl q)

theorem congr (h : q.leadsTo k x) (ha : y.arch = x.arch) (hs : y.shape = x.shape) (hr : y.runInDone = x.runInDone) (hc : y.cursor = x.cursor)
    (hl : y.spans = x.spans) : q.leadsTo k y where
  arch := ha.trans h.arch
  shape := hs.trans h.shape
  runInDone := hr.trans h.runInDone
  cursor := hc ▸ h.cursor
  spans := hl ▸ h.spans
  motions := by rw [Seq.motions, hl]; exact h.motions

/-- The spans from one on changed in their gates. -/
theorem of_map (f : Span → Span) (i : Nat) (hf : ∀ sp : Span, sp.kept (f sp)) :
    q.leadsTo 0 { q with spans := q.spans.take i ++ (q.spans.drop i).map f } where
  arch := rfl
  shape := rfl
  runInDone := rfl
  cursor := le_rfl
  spans sp hsp := by
    rw [← List.take_append_drop i q.spans, List.mem_append] at hsp
    rcases hsp with h | h
    · exact ⟨sp, List.mem_append_left _ h, rfl, rfl, rfl, id⟩
    · exact ⟨f sp, List.mem_append_right _ (List.mem_map_of_mem h), hf sp⟩
  motions := by
    have hk : (fun sp : Span => decide (sp.kind = .motion)) ∘ f = fun sp => decide (sp.kind = .motion) := funext fun sp => by simp [(hf sp).kind]
    conv_rhs => rw [Seq.motions, ← List.take_append_drop i q.spans]
    rw [Seq.motions, List.filter_append, List.filter_append, List.filter_map, hk]
    simp only [List.length_append, List.length_map, Nat.add_zero]

end Seq.leadsTo

/-! ## Gates at the start and the end of a run (R133, R134) -/

theorem closeFrom_leadsTo (q : Seq) (k c : Nat) : q.leadsTo 0 (q.closeFrom k c) := .of_map _ k fun _ => ⟨rfl, rfl, rfl, id⟩

theorem runStart_leadsTo (q : Seq) (k : Nat) : q.leadsTo 0 (q.runStart k).1 := by
  unfold Seq.runStart
  dsimp only
  split
  · exact (Seq.leadsTo.refl q).congr rfl rfl rfl rfl rfl
  · refine (Seq.leadsTo.of_map _ _ ?_).congr rfl rfl rfl rfl rfl
    exact fun _ => ⟨rfl, rfl, rfl, fun _ => rfl⟩

theorem runStart_cursor (q : Seq) (k : Nat) : (q.runStart k).1.cursor = q.cursor := by
  unfold Seq.runStart
  dsimp only
  split <;> rfl

/-- Without skywriting the run ends in a hold (R134). -/
theorem runEnd_of_skyOff (q : Seq) (env : Env) (k first : Nat) (h : q.shape.skyOn = false) :
    ∃ x c, q.runEnd env k first = .ok (x, c) ∧ q.leadsTo 0 x := by
  unfold Seq.runEnd
  dsimp only
  rw [if_neg (by rw [h]; decide)]
  have hh : q.leadsTo 0 { q.holdFor (max (q.delay 3) (max (q.delay 1) 0)).toNat .hold true with inRun := false, tv := 0 } :=
    (Seq.leadsTo.of_adds ((Seq.adds.refl q).holdFor (fun sp hk _ => by rw [hk]; decide) _)).congr rfl rfl rfl rfl rfl
  exact ⟨_, _, rfl, hh.trans (closeFrom_leadsTo _ _ _)⟩

end Sys2Proof.Machine
end

section
/-! PROOFS. Holds and waits (O35): DWL, RMP with WAIT, WTM, WPM and BAR. -/

namespace Sys2Proof.Machine

/-! ## Firing holds (R108, R110) -/

/-- A hold of `len` slots from slot `at_` that fires or is dark. -/
def Seq.dwells (x : Seq) (at_ len : Nat) (fire : Bool) : Prop :=
  ∃ sp ∈ x.spans, sp.start = at_ ∧ sp.len = len ∧ sp.fire = fire ∧ sp.kind = .dwell

/-- What lengthens the plan keeps a firing hold. -/
theorem Seq.dwells.leadsTo {x y : Seq} {at_ len k : Nat} (h : x.dwells at_ len true) (g : x.leadsTo k y) : y.dwells at_ len true := by
  obtain ⟨sp, hm, hs, hl, hf, hk⟩ := h
  obtain ⟨sp', hm', h'⟩ := g.spans sp hm
  exact ⟨sp', hm', h'.start.trans hs, h'.len.trans hl, h'.fire hf, h'.kind.trans hk⟩

theorem holdFor_dwells (q : Seq) {len : Nat} (fire : Bool) (h : len ≠ 0) : (q.holdFor len .dwell fire).dwells q.cursor len fire :=
  ⟨_, by rw [Seq.holdFor, span_spans _ _ _ _ _ _ _ h]; exact List.mem_append_right _ (List.mem_singleton_self _), rfl, rfl, rfl, rfl⟩

/-- A hold that fires inside a mark run, or starts one. -/
theorem firingHold (q : Seq) {len : Nat} (h : len ≠ 0) : ∃ y c, (if q.inRun then (q, 0) else q.runStart 0) = (y, c) ∧
    q.leadsTo 0 (y.holdFor len .dwell true) ∧ (y.holdFor len .dwell true).cursor = q.cursor + len ∧
    (y.holdFor len .dwell true).dwells q.cursor len true := by
  have hy : ∃ y c, (if q.inRun then (q, 0) else q.runStart 0) = (y, c) ∧ q.leadsTo 0 y ∧ y.cursor = q.cursor := by
    split
    · exact ⟨_, _, rfl, .refl q, rfl⟩
    · exact ⟨_, _, rfl, runStart_leadsTo q 0, runStart_cursor q 0⟩
  obtain ⟨y, c, e, hl, hc⟩ := hy
  refine ⟨y, c, e, hl.trans (.of_adds ((Seq.adds.refl y).holdFor (fun sp hk _ => by rw [hk]; decide) _)), ?_, hc ▸ holdFor_dwells y true h⟩
  rw [Seq.holdFor, span_cursor, hc]

/-- DWL with EM (R108). -/
theorem dwlOp_firing (q : Seq) (env : Env) (i : Iw) (hc : bits i.base 47 16 ≠ 0) (hm : i.md 10 = true) (hs : q.shape.skyOn = false) :
    ∃ x c, q.dwlOp env i = .ok (x, c) ∧ x.dwells q.cursor (bits i.base 47 16) true ∧ q.cursor + bits i.base 47 16 ≤ x.cursor ∧
      x.act = .dwell ∧ x.arch = { q.arch with pc := q.arch.pc + 1 } := by
  obtain ⟨y, c, e, hl, hcur, hd⟩ := firingHold q hc
  unfold Seq.dwlOp
  simp only [hc, if_false, hm, if_true, e]
  generalize hx : ({ y.holdFor (bits i.base 47 16) .dwell true with tdx := 0, tdy := 0 } : Seq).pcAdd 1 = x
  have hxa : x.arch = { q.arch with pc := q.arch.pc + 1 } := by rw [← hx, ← hl.arch]; rfl
  have hxs : x.shape.skyOn = false := by rw [← hs, ← hl.shape, ← hx]; rfl
  have hxc : q.cursor + bits i.base 47 16 ≤ x.cursor := by rw [← hcur, ← hx]; rfl
  have hxd : x.dwells q.cursor (bits i.base 47 16) true := by rw [← hx]; exact hd
  split
  · obtain ⟨z, k, hz, hl'⟩ := runEnd_of_skyOff x env q.spans.length q.cursor hxs
    rw [hz]
    exact ⟨_, _, rfl, hxd.leadsTo (hl'.congr rfl rfl rfl rfl rfl), hxc.trans hl'.cursor, rfl, hl'.arch.trans hxa⟩
  · exact ⟨_, _, rfl, hxd, hxc, rfl, hxa⟩

/-- The start of a ramp of TIME slots (R110). -/
theorem rmpOp_timed (q : Seq) (i : Iw) (ht : bits i.base 55 32 ≠ 0) : q.rmpOp i =
    (({ q with arch := { q.arch with level := q.level, ramp := ⟨true, q.level, bits i.base 31 16, bits i.base 55 32, 0, q.cursor⟩ } } :
      Seq).mark).pcAdd 1 := if_neg ht

/-- RMP with WAIT (R110): the ramp starts, and the head holds until it ends. -/
theorem rmpWaitOp_firing (q : Seq) (env : Env) (i : Iw) (ht : bits i.base 55 32 ≠ 0) (hs : q.shape.skyOn = false) :
    ∃ x c, q.rmpWaitOp env i = .ok (x, c) ∧ x.dwells q.cursor (bits i.base 55 32) true ∧ x.act = .dwell ∧
      x.arch = { q.arch with
        pc := q.arch.pc + 1, level := q.level, ramp := ⟨true, q.level, bits i.base 31 16, bits i.base 55 32, 0, q.cursor⟩ } := by
  have hr := rmpOp_timed q i ht
  obtain ⟨y, c, e, hl, -, hd⟩ := firingHold (q.rmpOp i) ht
  unfold Seq.rmpWaitOp
  simp only [ht, if_false, e]
  generalize hx : ({ y.holdFor (bits i.base 55 32) .dwell true with tdx := 0, tdy := 0 } : Seq) = x
  have hxa : x.arch = { q.arch with
      pc := q.arch.pc + 1, level := q.level, ramp := ⟨true, q.level, bits i.base 31 16, bits i.base 55 32, 0, q.cursor⟩ } := by
    rw [← hx]
    exact hl.arch.trans (by rw [hr]; rfl)
  have hxs : x.shape.skyOn = false := by
    rw [← hs, ← hx]
    exact congrArg Shape.skyOn (hl.shape.trans (by rw [hr]; rfl))
  have hxd : x.dwells q.cursor (bits i.base 55 32) true := by
    rw [← hx, show q.cursor = (q.rmpOp i).cursor by rw [hr]; rfl]
    exact hd
  split
  · obtain ⟨z, k, hz, hl'⟩ := runEnd_of_skyOff x env (q.rmpOp i).spans.length (q.rmpOp i).cursor hxs
    rw [hz]
    exact ⟨_, _, rfl, hxd.leadsTo (hl'.congr rfl rfl rfl rfl rfl), rfl, hl'.arch.trans hxa⟩
  · subst hx
    exact ⟨_, _, rfl, hxd, rfl, hxa⟩

/-- DWL without EM (R108). -/
theorem dwlOp_dark (q : Seq) (env : Env) (i : Iw) (hc : bits i.base 47 16 ≠ 0) (hm : i.md 10 = false) :
    ∃ x, q.dwlOp env i = .ok (x, 0) ∧ x.dwells q.cursor (bits i.base 47 16) false ∧ x.cursor = q.cursor + bits i.base 47 16 ∧ x.act = .dwell ∧
      x.inRun = false ∧ x.arch = { q.arch with pc := q.arch.pc + 1 } := by
  generalize hy : ({ q with inRun := false, tdx := 0, tdy := 0 } : Seq) = y
  have hadd : y.adds (fun _ => True) (y.holdFor (bits i.base 47 16) .dwell false) := (Seq.adds.refl y).holdFor (fun _ _ _ => trivial) _
  have harch : (y.holdFor (bits i.base 47 16) .dwell false).arch = q.arch := hadd.arch.trans (by rw [← hy])
  have hcur : (y.holdFor (bits i.base 47 16) .dwell false).cursor = q.cursor + bits i.base 47 16 := by rw [Seq.holdFor, span_cursor, ← hy]
  have hd : (y.holdFor (bits i.base 47 16) .dwell false).dwells q.cursor (bits i.base 47 16) false := by
    rw [show q.cursor = y.cursor by rw [← hy]]
    exact holdFor_dwells y false hc
  refine ⟨{ (y.holdFor (bits i.base 47 16) .dwell false).pcAdd 1 with act := .dwell }, ?_, hd, hcur, rfl, hadd.inRun.trans (by rw [← hy]), ?_⟩
  · rw [Seq.dwlOp, ← hy]
    simp [hc, hm]
  · rw [← harch]
    rfl

/-! ## WTM (R116) -/

/-- The hold of a wait, whose length is not 0. -/
theorem holdFor_wait (q : Seq) (len : Nat) : (q.holdFor len .wait false).cursor = q.cursor + len ∧ (q.holdFor len .wait false).arch = q.arch :=
  ⟨span_cursor _ _ _ _ _ _ _, ((Seq.adds.refl (p := fun _ => True) q).holdFor (fun _ _ _ => trivial) len).arch⟩

section
variable {s : State} {n : Nat} {i : Iw} {q : Seq}

/-- Outside a Switchback an instruction issues in the tick of the slot before the cursor. -/
theorem issueTick_of_not_inSwitch (h : q.inSwitch = false) : q.issueTick = (q.cursor - 1) / 1250 := by
  simp only [Seq.inSwitch, Bool.or_eq_false_iff, decide_eq_false_iff_not] at h
  rw [Seq.issueTick, if_neg (by tauto)]

theorem wtmOp_ticks (hm : i.md 10 = false) (hc : bits i.base 47 16 ≠ 0) (hs : q.inSwitch = false) :
    s.wtmOp n i q = s.setSeq n { q.leaveRun.holdFor (1250 * ((q.cursor - 1) / 1250 + 1 + bits i.base 47 16) - q.cursor) .wait false with
      act := .waitTime false } := by
  have hl : 1250 * ((q.cursor - 1) / 1250 + 1 + bits i.base 47 16) - q.cursor ≠ 0 := by omega
  simp [State.wtmOp, hm, issueTick_of_not_inSwitch hs, hl]

theorem wtmOp_invalid (hm : i.md 10 = true) (hv : tsValid i.w1 = false) : s.wtmOp n i q = s.progFault n Pf.badParam := by
  simp [State.wtmOp, hm, hv]

/-- A time already passed (R116). -/
theorem wtmOp_passed (hm : i.md 10 = true) (hv : tsValid i.w1 = true) (ht : extendTs i.w1 s.now * 5 < (q.cursor * 131072 : Nat)) :
    s.wtmOp n i q = s.setSeq n { q.leaveRun with arch := { q.arch with fc := true, pc := q.arch.pc + i.len } } := by
  unfold State.wtmOp
  dsimp only
  rw [if_pos hm, if_neg (by rw [hv]; decide), if_pos ht]
  rfl

/-- A time to come holds to the first boundary `e` at or after it, if any slot is left (R116). -/
theorem wtmOp_at (hm : i.md 10 = true) (hv : tsValid i.w1 = true) (ht : (q.cursor * 131072 : Nat) ≤ extendTs i.w1 s.now * 5) {e : Nat}
    (he : 1250 * (((extendTs i.w1 s.now).toNat + 32767999) / 32768000) = e) : s.wtmOp n i q = s.setSeq n
      (if e - q.cursor = 0 then { q.leaveRun with arch := { q.arch with fc := false, pc := q.arch.pc + i.len } }
      else { q.leaveRun.holdFor (e - q.cursor) .wait false with act := .waitTime false }) := by
  have hl : 1250 * cdiv (extendTs i.w1 s.now).toNat 32768000 = e := by rw [← he, cdiv, Nat.add_sub_assoc (by decide)]
  unfold State.wtmOp
  dsimp only
  rw [if_pos hm, if_neg (by rw [hv]; decide), if_neg (Int.not_lt.2 ht), hl]
  rfl

/-! ## WPM (R115) -/

/-- The sequencer with the waymark of WPM armed and its run left. -/
def Seq.armsWaymark (q : Seq) (i : Iw) : Seq :=
  { q.leaveRun with shape := { q.shape with wmArmed := true, wmAxis := bits i.base 18 16, wmIndex := bits i.base 43 32 } }

theorem wpmOp_beyond (h : s.wmLen (bits i.base 18 16) ≤ bits i.base 43 32) : s.wpmOp n i q = s.progFault n Pf.badOperand := if_pos h

section
variable (h : bits i.base 43 32 < s.wmLen (bits i.base 18 16))
include h

theorem wpmOp_met (hst : (s.wm (bits i.base 18 16) (bits i.base 43 32)).state = 2 ∨ (s.wm (bits i.base 18 16) (bits i.base 43 32)).state = 3) :
    s.wpmOp n i q = s.setSeq n { q.armsWaymark i with arch := { q.arch with fw := true, fz := true, pc := q.arch.pc + i.len } } :=
  (if_neg (by omega)).trans (if_pos hst)

variable (h2 : (s.wm (bits i.base 18 16) (bits i.base 43 32)).state ≠ 2) (h3 : (s.wm (bits i.base 18 16) (bits i.base 43 32)).state ≠ 3)
include h2 h3

theorem wpmOp_armed (hm : i.md 10 = true) :
    s.wpmOp n i q = s.setSeq n { q.armsWaymark i with arch := { q.arch with fw := false, pc := q.arch.pc + i.len } } :=
  (if_neg (by omega)).trans ((if_neg (by tauto)).trans (if_pos hm))

theorem wpmOp_waits (hm : i.md 10 = false) (hs : q.inSwitch = false) :
    s.wpmOp n i q = s.setSeq n { q.armsWaymark i with
      arch := { q.arch with fw := false }
      act := .waitWm (bits i.base 18 16) (bits i.base 43 32) ((q.cursor - 1) / 1250 + bits i.w1 31 0) (i.md 11) } := by
  rw [← issueTick_of_not_inSwitch hs]
  exact (if_neg (by omega)).trans ((if_neg (by tauto)).trans (if_neg (by rw [hm]; decide)))

end

end

/-! ## BAR (R117) -/

/-- A tile of `q` arrives at its barrier and waits there. -/
def State.barArrive (s : State) (n : Nat) (i : Iw) (q : Seq) : State :=
  let s := s.setSeq n { q.leaveRun with act := .waitBar (bits i.base 21 16) (bits i.base 36 32) (q.issueTick + bits i.w1 31 0) (i.md 11) }
  { s with tsc := { s.tsc with barriers := s.tsc.barriers ++ [(bits i.base 21 16, q.head, bits i.base 36 32, q.issueTick)] } }

/-- Head `h` passes a barrier that was met with the last arrival in tick `a`. -/
def State.passBar (a : Nat) (s : State) (h : Nat) : State :=
  let q := s.seq (s.seqOf h)
  s.setSeq (s.seqOf h)
    { (q.holdFor (1250 * (a + 3) - q.cursor) .wait false).pcAdd (1 + bits (progWord s.mem.sram q.arch.pc) 9 8) with act := .ready }

/-- Nothing waits at barrier `b` any more. -/
def State.barOpen (s : State) (b : Nat) : State := { s with tsc := { s.tsc with barriers := s.tsc.barriers.filter fun p => p.1 ≠ b } }

theorem barWait_barOpen (s : State) (b : Nat) : (s.barOpen b).barWait b = [] := by
  simp [State.barWait, State.barOpen, List.filter_filter]

section
variable (s : State) (b : Nat)

@[simp] theorem barOpen_mem : (s.barOpen b).mem = s.mem := rfl
@[simp] theorem barOpen_regs : (s.barOpen b).regs = s.regs := rfl
@[simp] theorem barOpen_seq (m : Nat) : (s.barOpen b).seq m = s.seq m := rfl
@[simp] theorem barOpen_seqOf (g : Nat) : (s.barOpen b).seqOf g = s.seqOf g := rfl

end

/-- A barrier that is met opens, and its heads pass it one by one. -/
theorem barRelease_eq (s : State) (b a : Nat) : s.barRelease b a = ((s.barWait b).map (·.1)).foldl (State.passBar a) (s.barOpen b) := rfl

theorem passBar_seq (a : Nat) (s : State) (h : Nat) : ((s.passBar a h).seq (s.seqOf h)).act = .ready ∧
    ((s.passBar a h).seq (s.seqOf h)).cursor = max (s.seq (s.seqOf h)).cursor (1250 * (a + 3)) := by
  have hc := (holdFor_wait (s.seq (s.seqOf h)) (1250 * (a + 3) - (s.seq (s.seqOf h)).cursor)).1
  rw [State.passBar, State.seq_setSeq_same]
  exact ⟨rfl, hc.trans (by omega)⟩

section
variable (a : Nat) (s : State) (h : Nat)

@[simp] theorem passBar_mem : (s.passBar a h).mem = s.mem := rfl
@[simp] theorem passBar_regs : (s.passBar a h).regs = s.regs := rfl
@[simp] theorem passBar_barWait (b : Nat) : (s.passBar a h).barWait b = s.barWait b := rfl
@[simp] theorem passBar_seqOf (g : Nat) : (s.passBar a h).seqOf g = s.seqOf g := rfl

end

theorem passBar_seq_ne (a : Nat) (s : State) {m h : Nat} (hm : m ≠ s.seqOf h) : (s.passBar a h).seq m = s.seq m := State.seq_setSeq_ne s _ hm

section
variable {s : State} {n : Nat} {i : Iw} {q : Seq}

theorem barOp_bad (h : 24 < bits i.base 36 32 ∨ ∃ p ∈ s.barWait (bits i.base 21 16), p.2.1 ≠ bits i.base 36 32) :
    s.barOp n i q = s.progFault n Pf.barId :=
  if_pos (by simpa using h)

theorem barWait_barArrive : (s.barArrive n i q).barWait (bits i.base 21 16) =
    s.barWait (bits i.base 21 16) ++ [(q.head, bits i.base 36 32, q.issueTick)] := by
  simp [State.barWait, State.barArrive]

theorem barArrive_seq_ne {m : Nat} (hm : m ≠ n) : (s.barArrive n i q).seq m = s.seq m := State.seq_setSeq_ne s _ hm

theorem barArrive_seq_same : (s.barArrive n i q).seq n =
    { q.leaveRun with act := .waitBar (bits i.base 21 16) (bits i.base 36 32) (q.issueTick + bits i.w1 31 0) (i.md 11) } :=
  State.seq_setSeq_same s n _

@[simp] theorem barArrive_mem : (s.barArrive n i q).mem = s.mem := rfl
@[simp] theorem barArrive_regs : (s.barArrive n i q).regs = s.regs := rfl
@[simp] theorem barArrive_seqOf (g : Nat) : (s.barArrive n i q).seqOf g = s.seqOf g := rfl

theorem barOp_arrives (h : bits i.base 36 32 ≤ 24) (ha : ∀ p ∈ s.barWait (bits i.base 21 16), p.2.1 = bits i.base 36 32) :
    s.barOp n i q = if (s.barWait (bits i.base 21 16)).length + 1 < bits i.base 36 32 then s.barArrive n i q
      else (s.barArrive n i q).barRelease (bits i.base 21 16) (((s.barArrive n i q).barWait (bits i.base 21 16)).foldl (fun m p => max m p.2.2) 0) := by
  have hn : ¬ (24 < bits i.base 36 32 ∨ (s.barWait (bits i.base 21 16)).any (fun p => p.2.1 ≠ bits i.base 36 32) = true) := by
    simpa [h] using fun p q r hp => ha _ hp
  rw [State.barOp, if_neg hn]
  have hl : ((s.barArrive n i q).barWait (bits i.base 21 16)).length = (s.barWait (bits i.base 21 16)).length + 1 := by
    rw [barWait_barArrive, List.length_append, List.length_singleton]
  rw [← hl]
  rfl

/-- The last of two tiles arrives: nothing waits at the barrier, and both go on with the start of the third tick after it. -/
theorem barOp_meets {h a : Nat} (hc : bits i.base 36 32 = 2) (hw : s.barWait (bits i.base 21 16) = [(h, 2, a)]) (hn : s.seqOf q.head = n)
    (hne : s.seqOf h ≠ n) (hq : q.cursor = (s.seq n).cursor) :
    (s.barOp n i q).barWait (bits i.base 21 16) = [] ∧ (s.barOp n i q).mem = s.mem ∧ (s.barOp n i q).regs = s.regs ∧
      ∀ m ∈ [n, s.seqOf h], ((s.barOp n i q).seq m).act = .ready ∧
        ((s.barOp n i q).seq m).cursor = max (s.seq m).cursor (1250 * (max a q.issueTick + 3)) := by
  have hb : (s.barArrive n i q).barWait (bits i.base 21 16) = [(h, 2, a), (q.head, 2, q.issueTick)] := by rw [barWait_barArrive, hw, hc]; rfl
  have he : s.barOp n i q = _ := barOp_arrives (by omega) (by simp [hw, hc])
  rw [if_neg (by simp [hw, hc]), barRelease_eq, hb] at he
  rw [he]
  simp only [List.map, List.foldl, Nat.zero_max]
  generalize hu : (s.barArrive n i q).barOpen (bits i.base 21 16) = u
  have hof (g : Nat) : u.seqOf g = s.seqOf g := by simp [← hu]
  have hseq (m : Nat) : u.seq m = (s.barArrive n i q).seq m := by simp [← hu]
  have hv : (State.passBar (max a q.issueTick) u h).seqOf q.head = n := by rw [passBar_seqOf, hof, hn]
  refine ⟨by simp [← hu, barWait_barOpen], by simp [← hu], by simp [← hu], fun m hm => ?_⟩
  simp only [List.mem_cons, List.not_mem_nil, or_false] at hm
  rcases hm with rfl | rfl
  · have hg := passBar_seq (max a q.issueTick) (State.passBar (max a q.issueTick) u h) q.head
    rw [hv, passBar_seq_ne _ u (hof h ▸ hne.symm), hseq, barArrive_seq_same] at hg
    exact hq ▸ hg
  · have hg := passBar_seq (max a q.issueTick) u h
    rw [hof, hseq, barArrive_seq_ne hne] at hg
    rwa [passBar_seq_ne _ _ (hv ▸ hne)]

end

/-- Settles O35: each instruction lengthens the plan by its hold, waits, or goes on. -/
theorem holdsAndWaits : Obligations.HoldsAndWaits := by
  unfold Obligations.HoldsAndWaits
  intro s n i h hs q fault skip holds
  have hq : q.inSwitch = false := hs
  refine ⟨fun hop => ?_, fun hop hm ht hsky => ?_, fun hop hm => ?_, fun hop hm => ?_, fun hop => ?_, fun hop => ?_⟩
  · intro count
    have g : Gives (.dwl (0x100 + n)) s (s.issue n i) := gives_issue h hop rfl
    refine ⟨fun hc => ?_, fun hc hm => ?_, fun hc hm hsky => ?_⟩
    · exact gives_void h hop rfl (by decide) (by simp [Iw.void, hop, show bits i.base 47 16 = 0 from hc])
    · rw [issue_dwl hs hop hc] at g
      obtain ⟨x, hx, hd, hcur, hact, hrun, harch⟩ := dwlOp_dark q (s.env (s.seq n)) i hc hm
      rw [hx] at g
      refine runs_setSeq g fun t ⟨hseq, _, hmem, _, hregs⟩ => ?_
      subst hseq
      exact ⟨hd, hcur, hact, hrun, harch, hmem, hregs⟩
    · rw [issue_dwl hs hop hc] at g
      obtain ⟨x, k, hx, hd, hcur, hact, harch⟩ := dwlOp_firing q (s.env (s.seq n)) i hc hm hsky
      refine runs_planned g hx fun t ⟨hseq, _, hmem, _, hregs⟩ => ?_
      subst hseq
      exact ⟨hd, hcur, hact, harch, hmem, hregs⟩
  · have g : Gives (.rmp (0x100 + n)) s (s.issue n i) := gives_issue h hop rfl
    rw [issue_rmpWait hs hop hm ht] at g
    obtain ⟨x, k, hx, hd, hact, harch⟩ := rmpWaitOp_firing q (s.env (s.seq n)) i ht hsky
    refine runs_planned g hx fun t ⟨hseq, _, hmem, _, hregs⟩ => ?_
    subst hseq
    exact ⟨hd, hact, harch, hmem, hregs⟩
  · intro count
    refine ⟨fun hc => ?_, fun hc => ?_⟩
    · exact gives_void h hop rfl (by decide) (by simp [Iw.void, hop, hm, show bits i.base 47 16 = 0 from hc])
    · have g : Gives (.wtm (0x100 + n)) s (s.issue n i) := gives_issue h hop rfl
      rw [issue_wtm hs hop (.inr hc), wtmOp_ticks hm hc hq] at g
      refine runs_setSeq g fun t ⟨hseq, _, hmem, _, hregs⟩ => ?_
      obtain ⟨hcur, harch⟩ := holdFor_wait q.leaveRun (1250 * ((q.cursor - 1) / 1250 + 1 + count) - q.cursor)
      rw [hseq]
      refine ⟨hcur.trans ?_, rfl, harch, hmem, hregs⟩
      have hle : q.cursor ≤ 1250 * ((q.cursor - 1) / 1250 + 1 + count) := by omega
      exact Nat.add_sub_cancel' hle
  · intro at_
    have g : Gives (.wtm (0x100 + n)) s (s.issue n i) := gives_issue h hop rfl
    rw [issue_wtm hs hop (.inl hm)] at g
    obtain ⟨e, he⟩ : ∃ e, 1250 * ((at_.toNat + 32767999) / 32768000) = e := ⟨_, rfl⟩
    rw [he]
    refine ⟨fun hv => ?_, fun hv ht => ?_, fun hv ht hle => ?_, fun hv ht hlt => ?_⟩
    · rwa [wtmOp_invalid hm hv] at g
    · rw [wtmOp_passed hm hv ht] at g
      refine runs_setSeq g fun t ⟨hseq, _, hmem, _, hregs⟩ => ?_
      rw [hseq]
      exact ⟨rfl, rfl, rfl, hmem, hregs⟩
    · rw [wtmOp_at hm hv ht he, if_pos (Nat.sub_eq_zero_of_le hle)] at g
      refine runs_setSeq g fun t ⟨hseq, _, _, _, _⟩ => ?_
      rw [hseq]
      exact ⟨rfl, rfl, rfl⟩
    · rw [wtmOp_at hm hv ht he, if_neg (Nat.sub_ne_zero_of_lt hlt)] at g
      refine runs_setSeq g fun t ⟨hseq, _, hmem, _, hregs⟩ => ?_
      obtain ⟨hcur, harch⟩ := holdFor_wait q.leaveRun (e - q.cursor)
      rw [hseq]
      exact ⟨hcur.trans (Nat.add_sub_cancel' hlt.le), rfl, harch, hmem, hregs⟩
  · intro a w armed
    have g : Gives (.wpm (0x100 + n)) s (s.issue n i) := gives_issue h hop rfl
    rw [issue_wpm hs hop] at g
    refine ⟨fun hw => ?_, fun hw hst => ?_, fun hw h2 h3 hm => ?_, fun hw h2 h3 hm => ?_⟩
    · rwa [wpmOp_beyond hw] at g
    · rw [wpmOp_met hw hst] at g
      refine runs_setSeq g fun t ⟨hseq, _, hmem, _, hregs⟩ => ?_
      exact ⟨⟨by rw [hseq]; rfl, hmem, hregs⟩, by rw [hseq]⟩
    · rw [wpmOp_armed hw h2 h3 hm] at g
      refine runs_setSeq g fun t ⟨hseq, _, hmem, _, hregs⟩ => ?_
      exact ⟨⟨by rw [hseq]; rfl, hmem, hregs⟩, by rw [hseq], by rw [hseq]; rfl⟩
    · rw [wpmOp_waits hw h2 h3 hm hq] at g
      refine runs_setSeq g fun t ⟨hseq, _, hmem, _, hregs⟩ => ?_
      exact ⟨⟨by rw [hseq]; rfl, hmem, hregs⟩, by rw [hseq], by rw [hseq]⟩
  · intro b count now
    have g (hc : 2 ≤ count) : Gives (.bar (0x100 + n)) s (s.barOp n i q) := issue_bar hs hop hc ▸ gives_issue h hop rfl
    have hnow : q.issueTick = now := issueTick_of_not_inSwitch hq
    refine ⟨fun hc => ?_, fun hc => ?_, fun p hp hne hc => ?_, fun hc h24 hlen hall => ?_, fun h' a hc hw hn hne => ?_⟩
    · exact gives_void h hop rfl (by decide) (by simp [Iw.void, hop, show bits i.base 36 32 ≤ 1 from hc])
    · have g := g (by omega)
      rwa [barOp_bad (.inl hc)] at g
    · have g := g hc
      rwa [barOp_bad (.inr ⟨p, hp, hne⟩)] at g
    · obtain ⟨t, ht, hset⟩ := g hc
      rw [barOp_arrives h24 hall, if_pos hlen] at hset
      refine ⟨t, ht, ?_, ?_, ?_, hset.mem, fun off _ ho => hset.rd ho⟩
      · rw [hset.seq, barArrive_seq_same, hnow]
      · rw [hset.seq, barArrive_seq_same]
        rfl
      · rw [State.barWait, hset.tsc, ← hnow]
        exact barWait_barArrive
    · obtain ⟨t, ht, hset⟩ := g hc.ge
      obtain ⟨hwait, hmem, hregs, hgo⟩ := barOp_meets (q := q) hc hw hn hne rfl
      refine ⟨t, ht, ?_, fun m hm => ?_, hset.mem.trans hmem, fun off _ ho => (hset.rd ho).trans (State.rd_congr hregs off)⟩
      · rw [State.barWait, hset.tsc]
        exact hwait
      · rw [hset.seq, ← hnow]
        exact hgo m hm

end Sys2Proof.Machine
end

section
/-! PROOFS. Motions (O34): one firing vector without skywriting, JMP, and the passes of BRS. -/

namespace Sys2Proof.Machine

/-! ## One firing vector (R125, R127, R133 to R135) -/

/-- A motion span of `len` slots that fires and starts at a tick boundary at or after slot `at_`. -/
def Seq.moves (x : Seq) (at_ len : Nat) : Prop :=
  ∃ sp ∈ x.spans, sp.kind = .motion ∧ sp.fire = true ∧ sp.start % 1250 = 0 ∧ at_ ≤ sp.start ∧ sp.len = len

theorem Seq.moves.leadsTo {x y : Seq} {at_ len k : Nat} (h : x.moves at_ len) (g : x.leadsTo k y) : y.moves at_ len := by
  obtain ⟨sp, hm, hk, hf, hs, ha, hl⟩ := h
  obtain ⟨sp', hm', h'⟩ := g.spans sp hm
  exact ⟨sp', hm', h'.kind.trans hk, h'.fire hf, h'.start ▸ hs, h'.start ▸ ha, h'.len.trans hl⟩

theorem ticksOf_pos {l v : Nat} (hl : l ≠ 0) (hv : v ≠ 0) : ticksOf l v ≠ 0 := by
  have h : 0 < ticksOf l v := Nat.div_pos (by omega) (by omega)
  exact h.ne'

/-- The ticks of a motion, from a cursor at a tick boundary. -/
theorem drive_motion (y : Seq) {n : Nat} (path : Path) (vlen : Nat) (e : Pt) (hn : n ≠ 0) (hb : y.cursor % 1250 = 0) :
    y.leadsTo 1 (y.drive n path .motion true vlen e) ∧ (y.drive n path .motion true vlen e).moves y.cursor (1250 * n) ∧
      y.cursor < (y.drive n path .motion true vlen e).cursor := by
  have hsp := span_spans y (1250 * n) path .motion true vlen n (by omega)
  have hadd := (Seq.adds.refl (p := fun _ => True) y).drive (kind := .motion) (fire := true) (fun _ _ _ => trivial) n path vlen e
  have hcur : (y.drive n path .motion true vlen e).cursor = y.cursor + 1250 * n := span_cursor _ _ _ _ _ _ _
  refine ⟨⟨hadd.arch, hadd.shape, hadd.runInDone, hadd.cursor, fun sp h => ⟨sp, ?_, rfl, rfl, rfl, id⟩, ?_⟩,
    ⟨_, hsp ▸ List.mem_append_right _ (List.mem_singleton_self _), rfl, rfl, hb, le_rfl, rfl⟩, by omega⟩
  · exact hsp ▸ List.mem_append_left _ h
  · rw [Seq.motions, Seq.drive, hsp, List.filter_append, List.length_append]
    rfl

theorem begin_of_not_runInDone (q : Seq) (env : Env) (w : Vec) (h : q.runInDone = false) : q.begin env w = .ok ((q.fill false).runStart 0) :=
  if_neg (by rw [h]; decide)

/-- What precedes the vector ends at a tick boundary: a corner inside the run, or the start of a run. -/
theorem vector_begins (q : Seq) (env : Env) (w : Vec) (hr : q.runInDone = false) :
    ∃ y c, (if q.inRun && !q.skyCorner w then q.corner w else q.begin env w) = .ok (y, c) ∧ q.leadsTo 0 y ∧ y.cursor % 1250 = 0 := by
  have hfill (x : Seq) (b : Bool) : x.leadsTo 0 (x.fill b) ∧ (x.fill b).cursor % 1250 = 0 :=
    ⟨.of_adds ((Seq.adds.refl x).fill fun sp hk _ => by rw [hk]; decide), by rw [fill_cursor, boundary_mod]⟩
  split
  · unfold Seq.corner
    split
    · exact ⟨_, _, rfl, hfill q true⟩
    · have hh : q.leadsTo 0 (q.holdFor (polyHold (q.delay 4).toNat (cornerAngle q.tdx q.tdy w.inX w.inY)) .hold true) :=
        .of_adds ((Seq.adds.refl q).holdFor (fun sp hk _ => by rw [hk]; decide) _)
      exact ⟨_, _, rfl, hh.trans (hfill _ true).1, (hfill _ true).2⟩
  · refine ⟨((q.fill false).runStart 0).1, ((q.fill false).runStart 0).2, begin_of_not_runInDone q env w hr,
      (hfill q false).1.trans (runStart_leadsTo _ 0), ?_⟩
    rw [runStart_cursor]
    exact (hfill q false).2

/-- The sequencer `y` with the ticks of vector `w` added. -/
def Seq.runVec (y : Seq) (w : Vec) : Seq :=
  { ({ y with tv := w.v } : Seq).drive (ticksOf w.len w.v) (w.path (ticksOf w.len w.v)) .motion true w.len w.p1 with
    tdx := w.outX, tdy := w.outY, tv := w.v }

/-- The vector itself, from `y`, which is what precedes it with `c` clamped delays; `k` and `first` as in `runEnd`. -/
def Seq.fireFrom (y : Seq) (env : Env) (w : Vec) (what : Seq → Nat) (k first c : Nat) : Except Nat (Seq × Nat) :=
  if what (y.runVec w) = 0 then .ok (y.runVec w, c)
  else ((y.runVec w).runEnd env k first).map fun r => ({ r.1 with runInDone := decide (what (y.runVec w) = 2) }, c + r.2)

theorem fireVec_eq (q : Seq) (env : Env) (w : Vec) (what : Seq → Nat) {y : Seq} {c : Nat} (hl : w.len ≠ 0) (hv : w.v ≠ 0)
    (hy : (if q.inRun && !q.skyCorner w then q.corner w else q.begin env w) = .ok (y, c)) :
    q.fireVec env w what = y.fireFrom env w what q.spans.length q.cursor c := by
  have hb (z : Seq) : (do
      let (x, c2) ← z.runEnd env q.spans.length q.cursor
      .ok ({ x with runInDone := decide (what z = 2) }, c + c2) : Except Nat (Seq × Nat)) =
      (z.runEnd env q.spans.length q.cursor).map fun r => ({ r.1 with runInDone := decide (what z = 2) }, c + r.2) := by
    cases z.runEnd env q.spans.length q.cursor <;> rfl
  unfold Seq.fireVec Seq.fireFrom
  rw [if_neg (by tauto), if_neg (by tauto), ← hb]
  split at hy <;> simp only [*] <;> rfl

/-- A vector of nonzero length and speed adds one motion (R125). `what` tells no skywritten corner. -/
theorem fireVec_of_skyOff (q : Seq) (env : Env) (w : Vec) (what : Seq → Nat) (hl : w.len ≠ 0) (hv : w.v ≠ 0) (hs : q.shape.skyOn = false)
    (hr : q.runInDone = false) (hw : ∀ x : Seq, x.shape.skyOn = false → what x ≠ 2) :
    ∃ x c, q.fireVec env w what = .ok (x, c) ∧ q.leadsTo 1 x ∧ x.moves q.cursor (1250 * ticksOf w.len w.v) ∧ q.cursor < x.cursor := by
  obtain ⟨y, c, hy, hqy, hb⟩ := vector_begins q env w hr
  have hyt : q.leadsTo 0 { y with tv := w.v } := hqy.congr rfl rfl rfl rfl rfl
  obtain ⟨hd, ⟨sp, hm, hk, hf, hst, ha, hlen⟩, hc⟩ :=
    drive_motion { y with tv := w.v } (w.path (ticksOf w.len w.v)) w.len w.p1 (ticksOf_pos hl hv) hb
  have hz : q.leadsTo 1 (y.runVec w) := (hyt.trans hd).congr rfl rfl rfl rfl rfl
  have hzm : (y.runVec w).moves q.cursor (1250 * ticksOf w.len w.v) := ⟨sp, hm, hk, hf, hst, hqy.cursor.trans ha, hlen⟩
  have hzc : q.cursor < (y.runVec w).cursor := hqy.cursor.trans_lt hc
  have hzs : (y.runVec w).shape.skyOn = false := by rw [hz.shape, hs]
  rw [fireVec_eq q env w what hl hv hy, Seq.fireFrom]
  split
  · exact ⟨_, _, rfl, hz, hzm, hzc⟩
  · obtain ⟨x, k, hx, hzx⟩ := runEnd_of_skyOff (y.runVec w) env q.spans.length q.cursor hzs
    have hx' : (y.runVec w).leadsTo 0 { x with runInDone := decide (what (y.runVec w) = 2) } :=
      hzx.congr rfl rfl ((decide_eq_false (hw _ hzs)).trans (by rw [hzx.runInDone, hz.runInDone, hr])) rfl rfl
    rw [hx]
    exact ⟨_, _, rfl, hz.trans hx', hzm.leadsTo hx', hzc.trans_le hzx.cursor⟩

/-- With skywriting off a run never ends at a skywritten corner. -/
theorem after_ne_two (x : Seq) (a : Ahead) (hs : x.shape.skyOn = false) : x.after a ≠ 2 := by
  cases a with
  | ends => simp [Seq.after]
  | faults => simp [Seq.after]
  | fires v => cases v <;> simp [Seq.after, Seq.skyCorner, hs]

/-- A vector of no length takes no slot. -/
theorem fireVec_zero (q : Seq) (env : Env) (w : Vec) (what : Seq → Nat) (hl : w.len = 0) (hp : w.p0 = w.p1) :
    q.fireVec env w what = .ok (q, 0) := by
  unfold Seq.fireVec
  rw [if_neg (by tauto), if_pos ⟨hl, hp⟩]

theorem fireVec_speedZero (q : Seq) (env : Env) (w : Vec) (what : Seq → Nat) (hl : w.len ≠ 0) (hv : w.v = 0) :
    q.fireVec env w what = .error Pf.speedZero := if_pos ⟨hl, hv⟩

/-! ## MRK, ARC and CUB (R104 to R107) -/

/-- The sequencer as a motion of speed `v` finds it: VIDX counted, and SPEED written with MOD.SP of MRK and ARC. -/
def Seq.startsVec (q : Seq) (i : Iw) (v : Nat) : Seq :=
  { q.nextVidx with arch := { q.nextVidx.arch with speed := if (i.op = 0x31 ∨ i.op = 0x32) ∧ i.md 12 then v else q.arch.speed } }

section
variable (q : Seq) (env : Env) {i : Iw} {w : Vec}

theorem motionOp_eq : ∃ what : Seq → Nat, (∀ x : Seq, x.shape.skyOn = false → what x ≠ 2) ∧ q.motionOp env i w =
    ((q.startsVec i w.v).fireVec env w what).map fun r =>
      ({ (r.1.setPoint w.p1).pcAdd i.len with act := if r.1.cursor = q.cursor then .ready else .motion }, r.2) := by
  refine ⟨fun x => x.after (((x.setPoint w.p1).pcAdd i.len).ahead env.mem env.has env.bounds false 4096 16384), fun x => after_ne_two x _, ?_⟩
  have hq : (if (i.op = 0x31 ∨ i.op = 0x32) ∧ i.md 12 then { q.nextVidx with arch := { q.nextVidx.arch with speed := w.v } } else q.nextVidx : Seq) =
      q.startsVec i w.v := by
    unfold Seq.startsVec
    split <;> rfl
  unfold Seq.motionOp
  simp only [hq]
  cases (q.startsVec i w.v).fireVec env w _ <;> rfl

/-- A motion of nonzero length and speed (R125). -/
theorem motionOp_of_skyOff (hl : w.len ≠ 0) (hv : w.v ≠ 0) (hs : q.shape.skyOn = false) (hr : q.runInDone = false) :
    ∃ x c, q.motionOp env i w = .ok (x, c) ∧ x.moves q.cursor (1250 * ticksOf w.len w.v) ∧ x.act = .motion ∧
      x.arch = { q.arch with
        px := w.p1.x, py := w.p1.y, pz := w.p1.z, vidx := (q.arch.vidx + 1) % 2 ^ 32, pc := q.arch.pc + i.len,
        speed := if (i.op = 0x31 ∨ i.op = 0x32) ∧ i.md 12 then w.v else q.arch.speed } := by
  obtain ⟨what, hwhat, he⟩ := motionOp_eq q env (i := i) (w := w)
  obtain ⟨x, c, hx, hlead, hm, hc⟩ := fireVec_of_skyOff (q.startsVec i w.v) env w what hl hv hs hr hwhat
  rw [he, hx]
  refine ⟨_, _, rfl, hm, if_neg (ne_of_gt hc), ?_⟩
  have ha : x.arch = (q.startsVec i w.v).arch := hlead.arch
  simp only [Seq.setPoint, Seq.pcAdd, ha]
  rfl

theorem motionOp_zero (hl : w.len = 0) (hp : w.p0 = w.p1) :
    q.motionOp env i w = .ok ({ ((q.startsVec i w.v).setPoint w.p1).pcAdd i.len with act := .ready }, 0) := by
  obtain ⟨what, -, he⟩ := motionOp_eq q env (i := i) (w := w)
  rw [he, fireVec_zero _ _ _ _ hl hp]
  exact congrArg (fun a => Except.ok (({ ((q.startsVec i w.v).setPoint w.p1).pcAdd i.len with act := a } : Seq), 0)) (if_pos rfl)

theorem motionOp_speedZero (hl : w.len ≠ 0) (hv : w.v = 0) : q.motionOp env i w = .error Pf.speedZero := by
  obtain ⟨what, -, he⟩ := motionOp_eq q env (i := i) (w := w)
  rw [he, fireVec_speedZero _ _ _ _ hl hv]
  rfl

end

/-! ### Issue -/

section
variable {s : State} {n : Nat} {i : Iw} {w : Vec} (hop : i.op = 0x31 ∨ i.op = 0x32 ∨ i.op = 0x33)
include hop

/-- A zero-length motion issues in a Switchback too, and leaves the activity as it was. -/
theorem issue_zeroMotion (hf : ((s.seq n).spend i.len).firingVec (s.env (s.seq n)).bounds i = some (.ok w)) (hl : w.len = 0) (hp : w.p0 = w.p1) :
    s.issue n i = s.setSeq n { ((((s.seq n).spend i.len).startsVec i w.v).setPoint w.p1).pcAdd i.len with act := (s.seq n).act } := by
  have hf' : ((s.seq n).spend i.len).firingVec (s.env ((s.seq n).spend i.len)).bounds i = some (.ok w) := hf
  have hi : s.issue n i = s.planned n ((((s.seq n).spend i.len).motionOp (s.env ((s.seq n).spend i.len)) i w).map fun x =>
      ({ x.1 with act := ((s.seq n).spend i.len).act }, x.2)) := by
    rcases hop with h | h | h <;> simp [State.issue, exec0_timed, State.zeroMotion, Iw.void, h, hf', hl, hp]
  rw [hi, motionOp_zero _ _ hl hp]
  rfl

variable (hs : (s.seq n).inSwitch = false)
include hs

theorem issue_motion (hf : ((s.seq n).spend i.len).firingVec (s.env (s.seq n)).bounds i = some (.ok w)) (hl : w.len ≠ 0) :
    s.issue n i = s.planned n (((s.seq n).spend i.len).motionOp (s.env (s.seq n)) i w) := by
  have hf' : ((s.seq n).spend i.len).firingVec (s.env ((s.seq n).spend i.len)).bounds i = some (.ok w) := hf
  have hs' : ((s.seq n).spend i.len).inSwitch = false := hs
  rcases hop with h | h | h
  all_goals
    simp [State.issue, exec0_timed, State.zeroMotion, Iw.void, h, hf', hl, hs']
    rfl

theorem issue_motion_error {code : Nat} (hf : ((s.seq n).spend i.len).firingVec (s.env (s.seq n)).bounds i = some (.error code)) :
    s.issue n i = s.progFault n code := by
  have hf' : ((s.seq n).spend i.len).firingVec (s.env ((s.seq n).spend i.len)).bounds i = some (.error code) := hf
  have hs' : ((s.seq n).spend i.len).inSwitch = false := hs
  rcases hop with h | h | h <;> simp [State.issue, exec0_timed, State.zeroMotion, Iw.void, h, hf', hs']

end

/-! ## Targets (R104, R105) -/

/-- A result that is given only under a condition. -/
theorem of_ite_ok {α : Type} {p : Prop} [Decidable p] {a b : α} {code : Nat}
    (h : (if p then Except.ok a else Except.error code : Except Nat α) = .ok b) : p ∧ a = b := by
  by_cases hp : p
  · rw [if_pos hp] at h
    exact ⟨hp, Except.ok.inj h⟩
  · rw [if_neg hp] at h
    cases h

section
variable {q : Seq} {i : Iw} {v0 v : Nat} {e : Pt}

/-- Without MOD.SP the speed stays. -/
theorem target_speed (h : q.target i v0 = .ok (e, v)) (hm : i.md 12 = false) : v0 = v := by
  have hv := congrArg Prod.snd (of_ite_ok h).2
  rwa [hm] at hv

/-- The target of MRK without a register operand and without Z. -/
theorem target_mrk (h : q.target i v0 = .ok (e, v)) (hop : i.op = 0x31) (hz : i.md 11 = false) (hr : i.md 13 = false) :
    e = ⟨if i.md 10 then q.arch.px + lo32 i.w1 else lo32 i.w1, if i.md 10 then q.arch.py + hi32 i.w1 else hi32 i.w1, q.arch.pz⟩ ∧
      v = if i.md 12 then bits i.w2 63 32 else v0 := by
  have he := (of_ite_ok h).2
  simp only [hop, hz, hr, Bool.and_false, Bool.false_eq_true, if_false] at he
  exact ⟨(congrArg Prod.fst he).symm, (congrArg Prod.snd he).symm⟩

theorem mrkVec_ok {b : Bounds} {w : Vec} (h : q.mrkVec b i = .ok w) : ∃ e v, q.target i q.arch.speed = .ok (e, v) ∧ b.has e = true ∧
    lineVec q.point e v = w := by
  unfold Seq.mrkVec at h
  cases ht : q.target i q.arch.speed with
  | error c =>
    rw [ht] at h
    cases h
  | ok p =>
    rw [ht] at h
    exact ⟨p.1, p.2, rfl, of_ite_ok h⟩

end

/-! ## JMP (R104, R131) -/

/-- The sequencer as the jump of JMP to `e` at speed `v` finds it, with its programmed point at the target. -/
def Seq.startsJump (q : Seq) (i : Iw) (e : Pt) (v : Nat) : Seq :=
  (({ q.nextVidx with arch := { q.nextVidx.arch with jspeed := if i.md 12 then v else q.arch.jspeed }, inRun := false, tdx := 0, tdy := 0 } :
    Seq).setPoint e).pcAdd i.len

section
variable {q : Seq} (env : Env) {i : Iw} {e : Pt} {v : Nat}

theorem jmpOp_target_error {c : Nat} (ht : q.target i q.arch.jspeed = .error c) : q.jmpOp env i = .error c := by
  rw [Seq.jmpOp, ht]
  rfl

variable (ht : q.target i q.arch.jspeed = .ok (e, v))
include ht

theorem jmpOp_outside (hb : env.bounds.has e = false) : q.jmpOp env i = .error Pf.fieldRange := by
  rw [Seq.jmpOp, ht]
  exact if_pos (by rw [hb]; rfl)

variable (hb : env.bounds.has e = true) (hp : e ≠ q.point)
include hb hp

theorem jmpOp_speedZero (hv : v = 0) : q.jmpOp env i = .error Pf.speedZero := by
  rw [Seq.jmpOp, ht]
  refine (if_neg (by rw [hb]; decide)).trans (if_pos ⟨by simpa using hp.symm, hv⟩)

/-- With skywriting off and LON not negative JMP goes to its target and holds there, dark. -/
theorem jmpOp_eq (hv : v ≠ 0) (hs : q.shape.skyOn = false) (hd : 0 ≤ q.delay 0) : q.jmpOp env i =
    ((q.startsJump i e v).jump env.prof e .jump).map fun y =>
      ({ y.holdFor (q.delay 2).toNat .hold false with runInDone := false, act :=
        if (y.holdFor (q.delay 2).toNat .hold false).cursor = q.cursor then .ready else .motion }, 0) := by
  unfold Seq.jmpOp
  rw [ht]
  refine (if_neg (by rw [hb]; decide)).trans ((if_neg (fun h => hv h.2)).trans ?_)
  refine (if_neg (by simpa using hp.symm)).trans ?_
  dsimp only
  generalize hx : (if i.md 12 then { q.nextVidx with arch := { q.nextVidx.arch with jspeed := v } } else q.nextVidx : Seq) = x
  obtain ⟨hshape, hcur, hstart⟩ : x.shape = q.shape ∧ x.cursor = q.cursor ∧
      (({ x with inRun := false, tdx := 0, tdy := 0 } : Seq).setPoint e).pcAdd i.len = q.startsJump i e v := by
    subst hx
    unfold Seq.startsJump
    split <;> exact ⟨rfl, rfl, rfl⟩
  have hlon : ¬ (q.startsJump i e v).delay 0 < 0 := not_lt.mpr hd
  have hhold : (q.startsJump i e v).delay 2 = q.delay 2 := rfl
  rw [hstart]
  simp only [hcur, hshape, hs, hhold, decide_eq_false hlon, Bool.false_and, Bool.false_eq_true, if_false]
  cases (q.startsJump i e v).jump env.prof e .jump <;> rfl

/-- The jump adds dark spans alone (R131). -/
theorem jmpOp_of_skyOff (hv : v ≠ 0) (hs : q.shape.skyOn = false) (hd : 0 ≤ q.delay 0) :
    ∃ x, q.jmpOp env i = .ok (x, 0) ∧ x.inRun = false ∧ (∃ l, x.spans = q.spans ++ l ∧ ∀ sp ∈ l, sp.fire = false) ∧
      x.arch = { q.arch with
        px := e.x, py := e.y, pz := e.z, vidx := (q.arch.vidx + 1) % 2 ^ 32, pc := q.arch.pc + i.len, jspeed := v } := by
  have hj : (if i.md 12 then v else q.arch.jspeed) = v := by
    split
    · rfl
    · next hm => exact target_speed ht (by simpa using hm)
  obtain ⟨y, hy, hadd⟩ := (Seq.adds.refl (p := fun sp => sp.fire = false) (q.startsJump i e v)).jump (kind := .jump) env.prof e
    (fun h => hv (hj.symm.trans h)) fun _ _ hf => hf
  have hh := hadd.holdFor (kind := .hold) (fire := false) (fun _ _ hf => hf) (q.delay 2).toNat
  rw [jmpOp_eq env ht hb hp hv hs hd, hy]
  refine ⟨_, rfl, hh.inRun, hh.spans, hh.arch.trans ?_⟩
  rw [Seq.startsJump, hj]
  rfl

end

/-! ## BRS (R113, R141) -/

theorem brushVec_v (p e : Pt) (v : Nat) (serp : Bool) (d : Int) (k : Nat) : (brushVec p e v serp d k).v = v := by
  unfold brushVec
  dsimp only
  split <;> rfl

/-- The way to pass `k` of a brush, which starts at `a`. -/
def Seq.reachPass (q : Seq) (env : Env) (a : Pt) (k : Nat) : Except Nat Seq :=
  if k = 0 then .ok q
  else if q.shape.skyOn then .ok { q with runInDone := true }
  else (q.jump env.prof a .manoeuvre).map fun x => x.holdFor (q.delay 2).toNat .hold false

/-- What follows a pass that ends in `x`, with `n` passes left. -/
def Seq.passEnd (env : Env) (i : Iw) (w : Vec) (n : Nat) (x : Seq) : Nat :=
  if n = 0 then x.after (((x.setPoint w.p1).pcAdd i.len).ahead env.mem env.has env.bounds false 4096 16384) else 1

section
variable (q : Seq) (env : Env) (i : Iw) (p e : Pt) {v : Nat} (feeds : List Int)

theorem passes_succ (n k c : Nat) : Seq.passes env i p e v feeds (n + 1) k q c =
    (q.nextVidx.reachPass env (brushVec p e v (i.md 11) (feeds.getD k 0) k).p0 k).bind fun y =>
      (y.fireVec env (brushVec p e v (i.md 11) (feeds.getD k 0) k) (Seq.passEnd env i (brushVec p e v (i.md 11) (feeds.getD k 0) k) n)).bind
        fun r => Seq.passes env i p e v feeds n (k + 1) r.1 (c + r.2) := by
  rw [Seq.passes, Seq.reachPass]
  split
  · rfl
  · split <;> rfl

theorem passEnd_ne_two (w : Vec) (n : Nat) (x : Seq) (hs : x.shape.skyOn = false) : Seq.passEnd env i w n x ≠ 2 := by
  unfold Seq.passEnd
  split
  · exact after_ne_two x _ hs
  · decide

/-- With skywriting off a later pass is reached over a jump. -/
theorem reachPass_leadsTo (a : Pt) (k : Nat) (hs : q.shape.skyOn = false) (hj : q.arch.jspeed ≠ 0) :
    ∃ y, q.reachPass env a k = .ok y ∧ q.leadsTo 0 y := by
  unfold Seq.reachPass
  split
  · exact ⟨q, rfl, .refl q⟩
  · obtain ⟨y, hy, hadd⟩ := (Seq.adds.refl (p := fun sp => sp.kind ≠ .motion) q).jump (kind := .manoeuvre) env.prof a hj
      (by rintro sp (h | h) - <;> rw [h] <;> decide)
    rw [if_neg (by rw [hs]; decide), hy]
    exact ⟨_, rfl, .of_adds (hadd.holdFor (fun sp hk _ => by rw [hk]; decide) _)⟩

/-- Each pass counts VIDX and adds one motion. -/
theorem passes_of_skyOff (hl : (lineVec p e v).len ≠ 0) (hv : v ≠ 0) (n k c : Nat) (hs : q.shape.skyOn = false)
    (hr : q.runInDone = false) (hj : q.arch.jspeed ≠ 0) :
    ∃ x c', Seq.passes env i p e v feeds n k q c = .ok (x, c') ∧ x.motions.length = q.motions.length + n ∧
      x.arch = { q.arch with vidx := if n = 0 then q.arch.vidx else (q.arch.vidx + n) % 2 ^ 32 } := by
  induction n generalizing q k c with
  | zero => exact ⟨q, c, rfl, rfl, rfl⟩
  | succ n ih =>
    rw [passes_succ]
    obtain ⟨w, hw⟩ : ∃ w, brushVec p e v (i.md 11) (feeds.getD k 0) k = w := ⟨_, rfl⟩
    have hwl : w.len ≠ 0 := hw ▸ hl
    have hwv : w.v ≠ 0 := hw ▸ (brushVec_v ..).trans_ne hv
    rw [hw]
    obtain ⟨y, hy, hqy⟩ := reachPass_leadsTo q.nextVidx env w.p0 k hs hj
    obtain ⟨z, c1, hz, hyz, -, -⟩ := fireVec_of_skyOff y env w (Seq.passEnd env i w n) hwl hwv (by rw [hqy.shape]; exact hs)
      (by rw [hqy.runInDone]; exact hr) (passEnd_ne_two env i w n)
    have hqz : q.nextVidx.leadsTo 1 z := hqy.trans hyz
    obtain ⟨x, c', hx, hmot, harch⟩ := ih z (k + 1) (c + c1) (by rw [hqz.shape]; exact hs) (by rw [hqz.runInDone]; exact hr)
      (by rw [hqz.arch]; exact hj)
    refine ⟨x, c', ?_, ?_, ?_⟩
    · rw [hy, Except.bind, hz]
      exact hx
    · rw [hmot, hqz.motions, Nat.add_assoc, Nat.add_comm 1]
      rfl
    · have hvidx : (if n = 0 then (q.arch.vidx + 1) % 2 ^ 32 else ((q.arch.vidx + 1) % 2 ^ 32 + n) % 2 ^ 32) = (q.arch.vidx + (n + 1)) % 2 ^ 32 := by
        split <;> omega
      rw [harch, hqz.arch, if_neg (Nat.succ_ne_zero n), ← hvidx]
      rfl

end

/-- The vector of pass `k` lies in the bounds and in the range of coordinates. -/
def Seq.passFits (q : Seq) (env : Env) (i : Iw) (e : Pt) (v k : Nat) : Prop :=
  let w := brushVec q.point e v (i.md 11) (q.feedSum i k) k
  env.bounds.has w.p0 = true ∧ env.bounds.has w.p1 = true ∧
    fits32 w.p0.x = true ∧ fits32 w.p0.y = true ∧ fits32 w.p1.x = true ∧ fits32 w.p1.y = true

/-- The sequencer as the passes of a brush of speed `v` find it. -/
def Seq.startsBrush (q : Seq) (i : Iw) (v : Nat) : Seq :=
  { q with arch := { q.arch with speed := if i.md 12 then v else q.arch.speed } }

section
variable {q : Seq} (env : Env) {i : Iw} {e : Pt} {v : Nat} (ht : q.target i q.arch.speed = .ok (e, v))
include ht

/-- BRS with pass vectors in range runs its passes and ends where its last pass does. -/
theorem brsOp_eq (hn : bits i.base 19 16 ≠ 0) (hf : i.md 13 = true → bits i.base 27 20 + bits i.base 19 16 ≤ 257) (hv : v ≠ 0)
    (hk : ∀ k < bits i.base 19 16, q.passFits env i e v k) : ∃ (feeds : List Int) (z : Pt), q.brsOp env i =
      (Seq.passes env i q.point e v feeds (bits i.base 19 16) 0 (q.startsBrush i v) 0).map fun r =>
        ({ (r.1.setPoint z).pcAdd i.len with act := .motion }, r.2) := by
  let feeds := (List.range (bits i.base 19 16)).map fun k => q.feedSum i k
  refine ⟨feeds, (brushVec q.point e v (i.md 11) (feeds.getD (bits i.base 19 16 - 1) 0) (bits i.base 19 16 - 1)).p1, ?_⟩
  have hq : (if i.md 12 then { q with arch := { q.arch with speed := v } } else q : Seq) = q.startsBrush i v := by
    unfold Seq.startsBrush
    split <;> rfl
  unfold Seq.brsOp
  rw [ht]
  refine (if_neg hn).trans ((if_neg (fun h => by have := hf h.1; omega)).trans ((if_neg (fun h => hv h.2)).trans ((if_neg ?_).trans ?_)))
  · have hall : ∀ k < bits i.base 19 16, ((List.range (bits i.base 19 16)).map fun k => q.feedSum i k).getD k 0 = q.feedSum i k := fun k hk => by
      simp [hk]
    simp only [Bool.not_eq_true', Bool.not_eq_false, List.all_eq_true, List.mem_range]
    intro k hlt
    rw [hall k hlt]
    simpa [Seq.passFits, and_assoc] using hk k hlt
  · dsimp only
    rw [hq]
    cases Seq.passes env i q.point e v feeds (bits i.base 19 16) 0 (q.startsBrush i v) 0 <;> rfl

/-- A brush adds one motion for each pass. -/
theorem brsOp_of_skyOff (hn : bits i.base 19 16 ≠ 0) (hf : i.md 13 = true → bits i.base 27 20 + bits i.base 19 16 ≤ 257) (hv : v ≠ 0)
    (hk : ∀ k < bits i.base 19 16, q.passFits env i e v k) (hl : (lineVec q.point e v).len ≠ 0) (hj : q.arch.jspeed ≠ 0)
    (hs : q.shape.skyOn = false) (hr : q.runInDone = false) :
    ∃ x c, q.brsOp env i = .ok (x, c) ∧ x.act = .motion ∧ x.motions.length = q.motions.length + bits i.base 19 16 ∧
      ∃ z : Pt, x.arch = { q.arch with
        px := z.x, py := z.y, pz := z.z, vidx := (q.arch.vidx + bits i.base 19 16) % 2 ^ 32, pc := q.arch.pc + i.len, speed := v } := by
  have hsp : (if i.md 12 then v else q.arch.speed) = v := by
    split
    · rfl
    · next hm => exact target_speed ht (by simpa using hm)
  obtain ⟨feeds, z, he⟩ := brsOp_eq env ht hn hf hv hk
  obtain ⟨x, c, hx, hmot, harch⟩ := passes_of_skyOff (q.startsBrush i v) env i q.point e feeds hl hv (bits i.base 19 16) 0 0 hs hr hj
  rw [he, hx]
  refine ⟨_, _, rfl, rfl, hmot, z, ?_⟩
  rw [if_neg hn, Seq.startsBrush, hsp] at harch
  simp only [Seq.setPoint, Seq.pcAdd, harch]

end

/-! ## O34 -/

/-- The three motions of a sequencer are one command each, of the three opcodes. -/
theorem gives_motion {s : State} {n : Nat} {i : Iw} {p : Nat × Instr} (h : s.issues n i) (hop : i.op = p.1)
    (hp : p ∈ [(0x31, Instr.mrk (0x100 + n)), (0x32, .arc (0x100 + n)), (0x33, .cub (0x100 + n))]) :
    (i.op = 0x31 ∨ i.op = 0x32 ∨ i.op = 0x33) ∧ Gives p.2 s (s.issue n i) := by
  simp only [List.mem_cons, List.not_mem_nil, or_false] at hp
  rcases hp with rfl | rfl | rfl
  · exact ⟨.inl hop, gives_issue h hop rfl⟩
  · exact ⟨.inr (.inl hop), gives_issue h hop rfl⟩
  · exact ⟨.inr (.inr hop), gives_issue h hop rfl⟩

/-- Settles O34: each motion is planned at its issue, and the plan gets its spans. -/
theorem motionInstructions : Obligations.MotionInstructions := by
  unfold Obligations.MotionInstructions
  intro same wordsOn
  refine ⟨fun q b i w hop hf hz hr => ?_, fun s n i w p h hs hop hp hf hl hv hsky hrun => ?_, fun s n i w p h hop hp hf hl hpt => ?_,
    fun s n i p h hs hop hp => ⟨fun c hf => ?_, fun w hf hl hv => ?_⟩,
    fun s n i h hs hop => ⟨fun c ht => ?_, fun e v ht => ⟨fun hb => ?_, fun hb hne hv => ?_, fun hb hne hv hsky hd => ?_⟩⟩,
    fun s n i h hop hc => ?_, fun s n i e v h hs hop hc hfeeds ht hl hv hj hsky hrun hk => ?_⟩
  · have hm : q.mrkVec b i = .ok w := by simpa [Seq.firingVec, hop] using hf
    obtain ⟨e, v, ht, hb, rfl⟩ := mrkVec_ok hm
    obtain ⟨he, hv⟩ := target_mrk ht hop hz hr
    exact ⟨rfl, hb, fun h10 => he.trans (by simp [h10]), fun h10 => he.trans (by simp [h10]), hv⟩
  · obtain ⟨hop', g⟩ := gives_motion h hop hp
    rw [issue_motion hop' hs hf hl] at g
    obtain ⟨x, c, hx, hmoves, hact, harch⟩ := motionOp_of_skyOff (wordsOn s n i) (s.env (s.seq n)) (i := i) hl hv hsky hrun
    refine runs_planned g hx fun t ⟨hseq, hothers, hmem, hmode, hregs⟩ => ?_
    subst hseq
    exact ⟨⟨hmem, hmode, hregs, hothers⟩, by rw [harch], by rw [harch], by rw [harch], by rw [harch]; rfl, by rw [harch]; rfl,
      by rw [harch]; rfl, by rw [harch]; rfl, hact, hmoves⟩
  · obtain ⟨hop', g⟩ := gives_motion h hop hp
    rw [issue_zeroMotion hop' hf hl hpt] at g
    refine runs_setSeq g fun t ⟨hseq, hothers, hmem, hmode, hregs⟩ => ?_
    refine ⟨⟨hmem, hmode, fun off _ ho => hregs off List.not_mem_nil ho, hothers⟩, ?_⟩
    rw [hseq]
    exact ⟨rfl, rfl, rfl, rfl, rfl⟩
  · obtain ⟨hop', g⟩ := gives_motion h hop hp
    rwa [issue_motion_error hop' hs hf] at g
  · obtain ⟨hop', g⟩ := gives_motion h hop hp
    rw [issue_motion hop' hs hf hl] at g
    exact gives_planned_error g (motionOp_speedZero _ _ hl hv)
  · exact gives_planned_error (issue_jmp hs hop ▸ gives_issue h hop rfl) (jmpOp_target_error _ ht)
  · exact gives_planned_error (issue_jmp hs hop ▸ gives_issue h hop rfl) (jmpOp_outside _ ht hb)
  · exact gives_planned_error (issue_jmp hs hop ▸ gives_issue h hop rfl) (jmpOp_speedZero _ ht hb hne hv)
  · have g : Gives (.jmp (0x100 + n)) s (s.issue n i) := gives_issue h hop rfl
    rw [issue_jmp hs hop] at g
    obtain ⟨x, hx, hin, hspans, harch⟩ := jmpOp_of_skyOff (s.env (s.seq n)) ht hb hne hv hsky hd
    refine runs_planned g hx fun t ⟨hseq, hothers, hmem, hmode, hregs⟩ => ?_
    subst hseq
    exact ⟨⟨hmem, hmode, hregs, hothers⟩, by rw [harch], by rw [harch], by rw [harch], by rw [harch]; rfl, by rw [harch]; rfl,
      by rw [harch], by rw [harch]; rfl, hin, hspans⟩
  · exact gives_void h hop rfl (by decide) (by simp [Iw.void, hop, hc])
  · have g : Gives (.brs (0x100 + n)) s (s.issue n i) := gives_issue h hop rfl
    rw [issue_brs hs hop hc] at g
    obtain ⟨x, c, hx, hact, hmot, z, harch⟩ := brsOp_of_skyOff (s.env (s.seq n)) ht hc hfeeds hv hk hl hj hsky hrun
    refine runs_planned g hx fun t ⟨hseq, hothers, hmem, hmode, hregs⟩ => ?_
    subst hseq
    exact ⟨⟨hmem, hmode, hregs, hothers⟩, by rw [harch]; rfl, by rw [harch]; rfl, by rw [harch], by rw [harch]; rfl, hact, hmot⟩

end Sys2Proof.Machine
end

section
/-! PROOFS. The refutation of O42: a LOAD_PROGRAM with EPOCH_CHK and TARGET 0 meets `State.ready`, but ends with BAD_PARAM (R417) before its
own checks. -/

namespace Sys2Proof.Machine

/-- IDLE with the LOAD_PROGRAM `epochChkOnHq 0x08` in flight, which has no data and names the live windows. -/
def loadOnHq : State :=
  { State.reset.setFld R.GLB_MODE F.GLB_MODE_MODE Mode.idle.code with hq := { Hq.reset with cmds := [epochChkOnHq 0x08] } }

/-- LOAD_PROGRAM into the live windows is permitted in IDLE (Table 3-6), and EXP_EPOCH is the epoch of HQ. -/
theorem loadOnHq_ready : loadOnHq.ready 0 0x08 (epochChkOnHq 0x08) :=
  ⟨rfl, rfl, rfl, rfl, by decide +kernel, by decide +kernel, fun _ => by decide +kernel⟩

/-- HQ is no unit that EPOCH_CHK may name, so the command ends before LEN is looked at. -/
theorem exec_loadOnHq : exec (.loadProgram 0) loadOnHq = done (loadOnHq.endCmd (epochChkOnHq 0x08) St.badParam 0 0) := by
  obtain ⟨hc, hs, hw, ho, hh, hm, -⟩ := loadOnHq_ready
  obtain ⟨k, hk⟩ := exec_opcodeCommand loadOnHq 0 (0x08, .loadProgram 0) (by simp [opcodeCommands])
  exact hk.trans (congrArg done (runCmd_noUnit hc hs hw ho hh hm rfl rfl))

/-- Refutes O42: a LOAD_PROGRAM without data, with EPOCH_CHK and TARGET 0, ends with BAD_PARAM, not with EMPTY. -/
theorem not_compressedLoads : ¬ Obligations.CompressedLoads := by
  unfold Obligations.CompressedLoads
  rintro ⟨hprogram, -⟩
  obtain ⟨hempty, -⟩ := hprogram loadOnHq 0 (epochChkOnHq 0x08) loadOnHq_ready rfl
  exact not_gives_endCmd (by decide) exec_loadOnHq (by decide) (hempty rfl)

end Sys2Proof.Machine
end

section
/-! PROOFS. The instructions of a control program: MAC, CLP, INT, PRE, SCH, OUT, TRC and HLT (O33). -/

namespace Sys2Proof.Machine

/-! ## Clamps and rounding -/

/-- The order in which the two bounds are tested does not matter where they do not cross. -/
theorem clampI_eq {lo hi : Int} (h : lo ≤ hi) (a : Int) : clampI lo hi a = min (max a lo) hi := by
  unfold clampI
  split
  · omega
  · split <;> omega

/-- ACC saturates to the signed 64-bit range (R262). -/
theorem sat64_eq (a : Int) : sat64 a = min (max a (-(2 ^ 63))) (2 ^ 63 - 1) := clampI_eq (by decide) a

/-- The operand of CLP saturates to the signed 32-bit range (R263). -/
theorem satI_32_eq (a : Int) : satI 32 a = min (max a (-(2 ^ 31))) (2 ^ 31 - 1) := clampI_eq (by decide) a

theorem put_general (x : Eval) {d : Nat} (v : Word) (h : d < 16) : x.put d v = { x with g := x.g.set d v } := if_pos h

/-! ## Where each instruction of the control class goes -/

/-- The evaluation behind instruction `i`, which is no branch. -/
def Eval.passed (x : Eval) (i : Iw) : Eval := { x with pc := x.pc + i.len, issued := x.issued + 1 }

section
variable (s : State) (e : Nat) (x : Eval) {i : Iw}

theorem ctlIssue_hlt (h : i.op = 0x01) : s.ctlIssue e x i = (s, { x with ended := true, issued := x.issued + 1 }) := by
  simp [State.ctlIssue, h]

theorem ctlIssue_mac (h : i.op = 0x80) : s.ctlIssue e x i = ((s.macOp e x i).1, (s.macOp e x i).2.passed i) := by
  simp [State.ctlIssue, h, Eval.passed]

theorem ctlIssue_clp (h : i.op = 0x81) : s.ctlIssue e x i = ((s.clpOp x i).1, (s.clpOp x i).2.passed i) := by
  simp [State.ctlIssue, h, Eval.passed]

theorem ctlIssue_int (h : i.op = 0x82) : s.ctlIssue e x i = ((s.intOp x i).1, (s.intOp x i).2.passed i) := by
  simp [State.ctlIssue, h, Eval.passed]

theorem ctlIssue_pre (h : i.op = 0x83) : s.ctlIssue e x i = ((s.preOp x i).1, (s.preOp x i).2.passed i) := by
  simp [State.ctlIssue, h, Eval.passed]

theorem ctlIssue_sch (h : i.op = 0x84) : s.ctlIssue e x i = ((s.schOp e x i).1, (s.schOp e x i).2.passed i) := by
  simp [State.ctlIssue, h, Eval.passed]

theorem ctlIssue_out (h : i.op = 0x85) : s.ctlIssue e x i = ((s.outOp x i).1, (s.outOp x i).2.passed i) := by
  simp [State.ctlIssue, h, Eval.passed]

theorem ctlIssue_trc (h : i.op = 0x86) : s.ctlIssue e x i = ((s.trcOp e x i).1, (s.trcOp e x i).2.passed i) := by
  simp [State.ctlIssue, h, Eval.passed]

end

/-- An instruction of the control class gives what its operation `r` makes of the state and the evaluation. -/
theorem gives_ctlOp {s t : State} {e op : Nat} {x y : Eval} {i : Iw} {c : Instr} {r : State × Eval} (h : s.evaluates e x i) (hop : i.op = op)
    (hc : exec c s = done (s.tanoran op (0x400 + e))) (hi : s.ctlIssue e x i = (r.1, r.2.passed i)) (hr : r = (t, y)) :
    Gives c s (t.setEval e (some (y.passed i))) := by
  subst hr
  exact gives_ctlIssue h hop hc hi

/-! ## The operations (R262 to R268) -/

section
variable (s : State) (e : Nat) (x : Eval) (i : Iw)

/-- The sum of MAC before it saturates (R262). -/
def State.macSum : Int :=
  (if i.md 10 then 0 else x.acc) +
    (s.creg x i.gd).toInt * (if i.md 11 then (BitVec.ofNat 32 (bits i.w1 31 0)).toInt else (s.gain x.gset (8 + 4 * bits i.base 27 24)).toInt)

theorem macOp_eq : s.macOp e x i =
    (if sat64 (s.macSum x i) = s.macSum x i then s else s.inc (R.CEN_CE_ACCSAT e) 1, { x with acc := sat64 (s.macSum x i) }) := by
  have hsum : s.macSum x i = (if i.md 10 then 0 else x.acc) + intOf (s.creg x i.gd) *
      intOf (if i.md 11 then BitVec.ofNat 32 (bits i.w1 31 0) else s.gain x.gset (8 + 4 * bits i.base 27 24)) := by
    rw [apply_ite intOf]
    rfl
  rw [hsum]
  rfl

theorem macOp_exact (h : sat64 (s.macSum x i) = s.macSum x i) : s.macOp e x i = (s, { x with acc := s.macSum x i }) := by
  rw [macOp_eq, if_pos h, h]

theorem macOp_saturated (h : sat64 (s.macSum x i) ≠ s.macSum x i) :
    s.macOp e x i = (s.inc (R.CEN_CE_ACCSAT e) 1, { x with acc := sat64 (s.macSum x i) }) := by
  rw [macOp_eq, if_neg h]

/-- The operand of CLP (R263). -/
def State.clpOperand : Int :=
  if i.md 10 then min (max ((x.acc + 0x8000) / 65536) (-(2 ^ 31))) (2 ^ 31 - 1) else (s.creg x i.ga).toInt

theorem clpOp_eq (hd : i.gd < 16) :
    let p := s.limits x.gset (bits i.base 30 28)
    let v := s.clpOperand x i
    let r := min (max v p.1) p.2
    s.clpOp x i = (s.limitTrigger x.loop (decide (r ≠ v)),
      { x with g := x.g.set i.gd (BitVec.ofInt 32 r), fc := decide (r ≠ v), limited := decide (r ≠ v) }) := by
  simp only [State.clpOp, put_general x _ hd, satI_32_eq]
  rfl

theorem intOp_held (h : i.md 10 = true ∨ x.dark = true) : s.intOp x i = (s, { x with fc := false, pair := bits i.base 30 28 }) := if_pos h

theorem intOp_acts (hh : i.md 10 = false) (hd : x.dark = false) :
    let p := s.limits x.gset (bits i.base 30 28)
    let v : Int := x.intg.toInt + ((s.gain x.gset (8 + 4 * bits i.base 27 24)).toInt * (s.creg x i.gd).toInt + 0x8000) / 65536
    let r := min (max v p.1) p.2
    s.intOp x i = (s.limitTrigger x.loop (decide (r ≠ v)),
      { x with intg := BitVec.ofInt 32 r, fc := decide (r ≠ v), pair := bits i.base 30 28 }) :=
  if_neg (by simp [hh, hd])

theorem gainSet_live {g : Nat} (h : g < s.gsCount) : s.gainSet e g = (g, s) := if_pos h

/-- A gain-set index beyond the live sets selects set 0 and counts (R268). -/
theorem gainSet_missing {g : Nat} (h : s.gsCount ≤ g) : s.gainSet e g = (0, s.inc (R.CEN_CE_IDXMISS e) 1) := if_neg (by omega)

/-- The gain-set index of SCH (R266). -/
def State.schIndex : Nat := bits i.base 23 16 + (if i.md 10 then x.region else 0) + (if i.md 11 then 16 * s.band x.umps else 0)

theorem schOp_eq {g : Nat} {t : State} (h : s.gainSet e (s.schIndex x i) = (g, t)) : s.schOp e x i = (t, { x with gset := g }) := by
  unfold State.schIndex at h
  simp only [State.schOp, h]

theorem trcOp_queued (h : x.taps.length < 3) :
    s.trcOp e x i = (s, { x with taps := x.taps ++ [(bits i.base 27 24, s.creg x i.gd, x.fc)] }) := if_neg (by omega)

theorem trcOp_dropped (h : 3 ≤ x.taps.length) : s.trcOp e x i = (s.inc (R.CEN_CE_TRCDROP e) 1, x) := if_pos h

end

/-- Settles O33: each instruction is its own operation on the evaluation, which then stands behind it; HLT ends it. -/
theorem controlInstructions : Obligations.ControlInstructions := by
  unfold Obligations.ControlInstructions
  intro s e x i h u on ga coef p lo hi traced
  refine ⟨fun hop => ?_, fun hop hd => ?_, fun hop => ?_, fun hop => ?_, fun hop => ?_, fun hop => ?_, fun hop => ?_, fun hop => ?_⟩
  · intro c sum t
    have ht : sat64 (s.macSum x i) = t := sat64_eq _
    refine ⟨fun hs => ?_, fun hs => ?_⟩
    · exact gives_ctlOp h hop rfl (ctlIssue_mac s e x hop) (macOp_exact s e x i (ht.trans hs.symm))
    · rw [← ht] at hs ⊢
      exact gives_ctlOp h hop rfl (ctlIssue_mac s e x hop) (macOp_saturated s e x i hs.symm)
  · exact gives_ctlOp h hop rfl (ctlIssue_clp s e x hop) (clpOp_eq s x i hd)
  · exact ⟨fun hh => gives_ctlOp h hop rfl (ctlIssue_int s e x hop) (intOp_held s x i hh),
      fun hh hdark => gives_ctlOp h hop rfl (ctlIssue_int s e x hop) (intOp_acts s x i hh hdark)⟩
  · exact gives_ctlOp h hop rfl (ctlIssue_pre s e x hop) rfl
  · exact ⟨fun hg => gives_ctlOp h hop rfl (ctlIssue_sch s e x hop) (schOp_eq s e x i (gainSet_live s e hg)),
      fun hg => gives_ctlOp h hop rfl (ctlIssue_sch s e x hop) (schOp_eq s e x i (gainSet_missing s e hg))⟩
  · exact gives_ctlOp h hop rfl (ctlIssue_out s e x hop) rfl
  · exact ⟨fun hn => gives_ctlOp h hop rfl (ctlIssue_trc s e x hop) (trcOp_queued s e x i hn),
      fun hn => gives_ctlOp h hop rfl (ctlIssue_trc s e x hop) (trcOp_dropped s e x i hn)⟩
  · exact gives_ctlIssue h hop rfl (ctlIssue_hlt s e x hop)

end Sys2Proof.Machine
end

section
/-! PROOFS. The refutation of O58. Its clause about the end of a stopping port asks for a device time of R_NPL, whichever entry NPL ≤ k is due, while
PLANE_RESET waits for R_k (R292). The two agree at k = NPL; past the last entry R_k can lie later, and the port then goes on. -/

namespace Sys2Proof.Machine

/-- An untiled port is driven alone (R285). -/
theorem mapPorts_of_untiled {s : State} (h : s.tiled = false) (p : Nat) : s.mapPorts p = [p] := by simp [State.mapPorts, h]

/-- Before R_k of the entry that is due, a port has nothing to reset and no frame to end (R292). -/
theorem planeReset_early {s : State} {p : Nat} {f : Frame} (hc : (s.map p).cur = some f) (ht : s.nowSlot < f.rk f.k) : s.planeReset p = s := by
  simp [State.planeReset, hc, ht]

theorem exec_planeReset_early {s : State} {p ns : Nat} {f : Frame} (hu : s.tiled = false) (hc : (s.map p).cur = some f)
    (ht : (s.arrive ns).nowSlot < f.rk f.k) : exec (.planeReset p ns) s = done (s.arrive ns) := by
  have hp : (s.arrive ns).mapPorts p = [p] := mapPorts_of_untiled hu p
  have hr : (s.arrive ns).planeReset p = s.arrive ns := planeReset_early hc ht
  show done (((s.arrive ns).mapPorts p).foldl (fun s q => s.planeReset q) (s.arrive ns)) = done (s.arrive ns)
  rw [hp, List.foldl_cons, List.foldl_nil, hr]

/-- A frame of one entry that stands at entry 2. Entries take 1250 slots, so R_NPL is slot 1250 and R_2 is slot 2500. -/
def framePastEnd : Frame :=
  { num := 0, buf := none, popped := false, rep := false, dark := true, r0 := 0,
    set := { height := 4, width := 256, npl := 1, vb := 1, fsize := 1, tset := 0, trst := 0, guard := 0, plane := [], wave := [], cmask := [],
             wt := [], plen := [1250, 1250] },
    scales := [], k := 2, fired := 0, part := false, late := false, cap := false, lateCommit := false, rowBad := false, e := [], eOk := true }

/-- Port 0 runs that frame and has been told to stop; tick 1, which begins at slot 1250, is in progress. No run of the device counts entries
past NPL so; the statement is about every state. -/
def stoppingPastEnd : State :=
  { State.reset.setFld (R.MAP_STAT 0) F.MAP_STAT_RUN 1 with
    tick := 1, maps := [(0, { MapP.reset with cur := some framePastEnd, stopping := true })] }

/-- It meets what the clause asks, and R_2 has not come. -/
theorem stoppingPastEnd_spec : stoppingPastEnd.tiled = false ∧ (stoppingPastEnd.map 0).cur = some framePastEnd ∧
    framePastEnd.set.npl ≤ framePastEnd.k ∧ framePastEnd.rk framePastEnd.set.npl ≤ (stoppingPastEnd.arrive 0).nowSlot ∧
    (stoppingPastEnd.map 0).stopping = true ∧ (stoppingPastEnd.arrive 0).nowSlot < framePastEnd.rk framePastEnd.k := by decide +kernel

/-- Refutes O58: PLANE_RESET at R_NPL ends the frame of a stopping port only if entry NPL is the one due. Here entry 2 of a frame of one entry is,
and the frame stays in progress. -/
theorem not_projectionAndCameras : ¬ Obligations.ProjectionAndCameras := by
  unfold Obligations.ProjectionAndCameras
  rintro ⟨-, -, -, -, -, -, -, -, -, hstop, -⟩
  obtain ⟨huntiled, hcur, hk, hdue, hstopping, hearly⟩ := stoppingPastEnd_spec
  obtain ⟨t, ht, hnone, -⟩ := hstop stoppingPastEnd 0 0 framePastEnd (by decide) huntiled hcur hk hdue hstopping
  have hs := settles_of_exec (exec_planeReset_early huntiled hcur hearly) ht
  have hkept : (t.map 0).cur = some framePastEnd := by
    rw [State.map, hs.maps]
    exact hcur
  exact absurd (hnone.symm.trans hkept) (by simp)

end Sys2Proof.Machine
end

section
/-! PROOFS. The refutation of O59: a TIME_STEP with EPOCH_CHK, whose TARGET Table 3-6 leaves at 0, meets `State.ready`, but ends with BAD_PARAM
(R417) before R373 judges its offset. -/

namespace Sys2Proof.Machine

/-- TIME_STEP is permitted in every mode (Table 3-6), and EXP_EPOCH is the epoch of HQ. -/
theorem timeStepOnHq_ready : (withEpochChkOnHq 0x18).ready 0 0x18 (epochChkOnHq 0x18) := ⟨rfl, rfl, rfl, rfl, by decide, rfl, fun _ => rfl⟩

/-- HQ is no unit that EPOCH_CHK may name, so the command ends before its offset is looked at. -/
theorem exec_timeStepOnHq :
    exec (.timeStep 0) (withEpochChkOnHq 0x18) = done ((withEpochChkOnHq 0x18).endCmd (epochChkOnHq 0x18) St.badParam 0 0) := by
  obtain ⟨hc, hs, hw, ho, hh, hm, -⟩ := timeStepOnHq_ready
  obtain ⟨k, hk⟩ := exec_opcodeCommand (withEpochChkOnHq 0x18) 0 (0x18, .timeStep 0) (by simp [opcodeCommands])
  exact hk.trans (congrArg done (runCmd_noUnit hc hs hw ho hh hm rfl rfl))

/-- Refutes O59: a TIME_STEP of offset 0, with EPOCH_CHK and TARGET 0, ends with BAD_PARAM, not with EMPTY. -/
theorem not_timeAndNetwork : ¬ Obligations.TimeAndNetwork := by
  unfold Obligations.TimeAndNetwork
  rintro ⟨-, -, -, -, -, -, -, -, -, hstep, -⟩
  obtain ⟨-, hempty, -⟩ := hstep (withEpochChkOnHq 0x18) 0 (epochChkOnHq 0x18) timeStepOnHq_ready
  exact not_gives_endCmd (by decide) exec_timeStepOnHq (by decide) (hempty (by decide) (by decide))

end Sys2Proof.Machine
end

section
/-! PROOFS. The refutation of O53: a CALIBRATE with EPOCH_CHK, whose TARGET Table 3-6 leaves at 0, meets `State.ready`, but ends with BAD_PARAM
(R417) before R385 looks at its run kind and mask. -/

namespace Sys2Proof.Machine

/-- The CALIBRATE `epochChkOnHq 0x28` with the run kind FIDUCIAL in ARG0, and an empty head mask in ARG1. -/
def emptyCalibrate : Cmd := { epochChkOnHq 0x28 with words := (epochChkOnHq 0x28).words ++ List.replicate 7 0 ++ [1, 0] }

/-- SERVICE with that command in flight. -/
def calibrateOnHq : State :=
  { State.reset.setFld R.GLB_MODE F.GLB_MODE_MODE Mode.service.code with hq := { Hq.reset with cmds := [emptyCalibrate] } }

/-- CALIBRATE is permitted in SERVICE (Table 3-6), and EXP_EPOCH is the epoch of HQ. -/
theorem calibrateOnHq_ready : calibrateOnHq.ready 0 0x28 emptyCalibrate :=
  ⟨rfl, rfl, rfl, rfl, by decide +kernel, by decide +kernel, fun _ => by decide +kernel⟩

/-- HQ is no unit that EPOCH_CHK may name, so the command ends before its arguments are looked at. -/
theorem exec_calibrateOnHq : exec (.calibrate 0) calibrateOnHq = done (calibrateOnHq.endCmd emptyCalibrate St.badParam 0 0) := by
  obtain ⟨hc, hs, hw, ho, hh, hm, -⟩ := calibrateOnHq_ready
  obtain ⟨k, hk⟩ := exec_opcodeCommand calibrateOnHq 0 (0x28, .calibrate 0) (by simp [opcodeCommands])
  exact hk.trans (congrArg done (runCmd_noUnit hc hs hw ho hh hm rfl rfl))

/-- Refutes O53: a CALIBRATE of kind 1 with an empty mask, with EPOCH_CHK and TARGET 0, ends with BAD_PARAM, not with EMPTY. -/
theorem not_registrationAndThermal : ¬ Obligations.RegistrationAndThermal := by
  unfold Obligations.RegistrationAndThermal
  rintro ⟨hcalibrate, -⟩
  obtain ⟨-, hempty, -⟩ := hcalibrate calibrateOnHq 0 emptyCalibrate calibrateOnHq_ready
  exact not_gives_endCmd (by decide) exec_calibrateOnHq (by decide) (hempty (.inl rfl) rfl)

end Sys2Proof.Machine
end

section
/-! PROOFS. The refutation of O60. Its clauses about a page program that fails hold where FLT_ESC does not make the third failure in a row fatal; where
it does, the entry to SAFE breaks them in a state whose compression buffer counts its records in REC_FLASHFAIL. -/

namespace Sys2Proof.Machine

/-! ## A Cairn record, as the flush sees it -/

/-- `t` has what the flush of `s` counts, but for the records that wait: the failures in a row, the slots spent, the permanent area, whether flushing
has stopped, and the registers that show them. FLT_ESC, which decides what the third failure does, is the same. -/
structure State.keepsFlush (s t : State) : Prop where
  fails : t.recd.fails = s.recd.fails
  skip : t.recd.skip = s.recd.skip
  permSlots : t.recd.permSlots = s.recd.permSlots
  stopped : t.recd.stopped = s.recd.stopped
  rd : ∀ off ∈ [R.REC_PCOUNT, R.REC_FLASHFAIL, R.FLT_ESC], t.rd off = s.rd off
  flashErr : t.fld R.REC_STAT F.REC_STAT_FLASHERR = s.fld R.REC_STAT F.REC_STAT_FLASHERR

namespace State.keepsFlush

variable {s t u : State}

theorem refl (s : State) : s.keepsFlush s := ⟨rfl, rfl, rfl, rfl, fun _ _ => rfl, rfl⟩

theorem trans (h : s.keepsFlush t) (g : t.keepsFlush u) : s.keepsFlush u :=
  ⟨g.fails.trans h.fails, g.skip.trans h.skip, g.permSlots.trans h.permSlots, g.stopped.trans h.stopped,
    fun off ho => (g.rd off ho).trans (h.rd off ho), g.flashErr.trans h.flashErr⟩

/-- A change beside the registers and the flush. -/
theorem of_eq (hf : t.recd.fails = s.recd.fails) (hs : t.recd.skip = s.recd.skip) (hp : t.recd.permSlots = s.recd.permSlots)
    (ht : t.recd.stopped = s.recd.stopped) (hr : t.regs = s.regs) : s.keepsFlush t :=
  ⟨hf, hs, hp, ht, fun off _ => State.rd_congr hr off, congrArg (fget · F.REC_STAT_FLASHERR) (State.rd_congr hr R.REC_STAT)⟩

theorem wr (h : s.keepsFlush t) {off : Nat} {w : Word} (ho : off ∉ [R.REC_PCOUNT, R.REC_FLASHFAIL, R.FLT_ESC, R.REC_STAT]) :
    s.keepsFlush (t.wr off w) := by
  refine h.trans ⟨rfl, rfl, rfl, rfl, fun o hm => t.rd_wr_ne o off w ?_, t.fld_wr_ne _ off w _ ?_⟩
  · rintro rfl
    exact ho (List.mem_append_left [R.REC_STAT] hm)
  · rintro rfl
    simp at ho

/-- A field of REC_STAT other than FLASHERR. -/
theorem setStat (h : s.keepsFlush t) {f : Fld} {v : Nat} (hf : f.lo + f.wd ≤ 32) (hd : f.lo + f.wd ≤ 2 ∨ 3 ≤ f.lo) :
    s.keepsFlush (t.setFld R.REC_STAT f v) :=
  h.trans ⟨rfl, rfl, rfl, rfl, fun o hm => t.rd_wr_ne o _ _ (by rintro rfl; simp at hm),
    t.fld_setFld_ne _ _ _ _ hf hd⟩

theorem of_ite {p : Prop} [Decidable p] (ht : s.keepsFlush t) (hu : s.keepsFlush u) : s.keepsFlush (if p then t else u) := by
  split <;> assumption

end State.keepsFlush

open State.keepsFlush

theorem recSync_keepsFlush (s : State) : s.keepsFlush s.recSync := .setStat (.wr (refl s) (by decide)) (by decide) (by decide)

theorem stage_keepsFlush (s : State) (src code : Nat) (p pfl : Bool) (time : Nat) (payload : List Byte) :
    s.keepsFlush (s.stage src code p pfl time payload) := by
  unfold State.stage
  extract_lets r n perm c s1 s2
  have h1 : s.keepsFlush s1 := of_eq rfl rfl rfl rfl rfl
  have h2 : s.keepsFlush s2 := of_ite (h1.setStat (by decide) (by decide)) h1
  exact (h2.wr (by decide)).trans (recSync_keepsFlush _)

theorem dropRecord_keepsFlush (s : State) (p counted : Bool) : s.keepsFlush (s.dropRecord p counted) := by
  unfold State.dropRecord
  extract_lets n s1 r s2
  have h1 : s.keepsFlush s1 := (refl s).wr (by decide)
  have h2 : s.keepsFlush s2 := h1.trans (of_eq rfl rfl rfl rfl rfl)
  exact of_ite (.setStat (.wr h2 (by split <;> decide)) (by decide) (by decide)) h1

theorem cairn_keepsFlush (s : State) (src code : Nat) (p : Bool) (payload : List Byte) : s.keepsFlush (s.cairn src code p payload) := by
  unfold State.cairn State.cairnAt
  extract_lets lost s1 dc dp rec s2
  have h1 : s.keepsFlush s1 := stage_keepsFlush s ..
  have h2 : s.keepsFlush s2 := h1.trans (of_eq rfl rfl rfl rfl rfl)
  exact of_ite (dropRecord_keepsFlush s ..) (of_ite (of_ite (h2.trans (stage_keepsFlush ..)) h1) (dropRecord_keepsFlush s ..))

/-! ## A page program that fails (R406) -/

theorem msix_keepsFlush (s : State) (v : Nat) : s.keepsFlush (s.msix v) :=
  of_ite (.wr (refl s) (by grind)) (of_eq rfl rfl rfl rfl rfl)

theorem selfPause_keepsFlush (s : State) : s.keepsFlush s.selfPause := by
  unfold State.selfPause State.opPause
  split
  · exact refl s
  · exact ((refl s).wr (off := R.GLB_MODE) (by decide)).trans (of_eq rfl rfl rfl rfl rfl)

/-- The report of code 0x40, where FLT_ESC does not make it fatal. -/
theorem report_flashWrite_keepsFlush (s : State) (a : Nat) (h : s.fld R.FLT_ESC F.FLT_ESC_FLASH_WRITE < 2) :
    s.keepsFlush (s.report 0x40 0xFFFF a 0 0) := by
  unfold State.report
  extract_lets esc sev epoch payload s1 s2 s3 s4
  have hesc : esc < 2 := h
  have h4 : s.keepsFlush s4 := (((cairn_keepsFlush ..).wr (by decide)).wr (by decide)).trans (msix_keepsFlush ..)
  have hsev : sev ≠ 3 := by
    have hsev0 : faultSev 0x40 = 0 := by decide
    grind
  rw [if_neg hsev]
  exact of_ite (h4.trans (selfPause_keepsFlush s4)) h4

/-- What a failed program counts, and what the third in a row stops. -/
structure State.failsProgram (s t : State) : Prop where
  fails : t.recd.fails = s.recd.fails + 1
  skip : t.recd.skip = s.recd.skip
  permSlots : t.recd.permSlots = s.recd.permSlots
  flashFail : t.rd R.REC_FLASHFAIL = satAdd (s.rd R.REC_FLASHFAIL) 1
  pcount : t.rd R.REC_PCOUNT = s.rd R.REC_PCOUNT
  third : s.recd.fails + 1 = 3 → t.recd.stopped = true ∧ t.fld R.REC_STAT F.REC_STAT_FLASHERR = 1

/-- Flushing stops, with FLASHERR set. -/
def State.stopFlush (s : State) : State :=
  { s with recd := { s.recd with stopped := true } }.setFld R.REC_STAT F.REC_STAT_FLASHERR 1

theorem rd_stopFlush (s : State) {off : Nat} (h : off ≠ R.REC_STAT) : s.stopFlush.rd off = s.rd off := State.rd_wr_ne _ off _ _ h

theorem State.failsProgram.of_settles {s x t : State} (h : s.failsProgram x) (hs : t.settles x) : s.failsProgram t where
  fails := by rw [hs.recd, h.fails]
  skip := by rw [hs.recd, h.skip]
  permSlots := by rw [hs.recd, h.permSlots]
  flashFail := (hs.rd (by decide)).trans h.flashFail
  pcount := (hs.rd (by decide)).trans h.pcount
  third e := by rw [hs.recd, hs.fld _ (by decide)]; exact h.third e

/-- A failed program whose report is not fatal does what R406 says. -/
theorem programFailed_failsProgram (s : State) (a : Nat) (h : s.recd.fails + 1 = 3 → s.fld R.FLT_ESC F.FLT_ESC_FLASH_WRITE < 2) :
    s.failsProgram (s.programFailed a) := by
  unfold State.programFailed
  extract_lets r s1 s2 r'
  have h2 : (s1.inc R.REC_FLASHFAIL 1).keepsFlush s2 := cairn_keepsFlush ..
  have hfails : s2.recd.fails = s.recd.fails + 1 := h2.fails
  have hfail : s2.rd R.REC_FLASHFAIL = satAdd (s.rd R.REC_FLASHFAIL) 1 := (h2.rd _ (by decide)).trans (s1.rd_wr_same _ _)
  have hpc : s2.rd R.REC_PCOUNT = s.rd R.REC_PCOUNT := (h2.rd _ (by decide)).trans (s1.rd_wr_ne _ _ _ (by decide))
  have hesc : s2.stopFlush.rd R.FLT_ESC = s.rd R.FLT_ESC :=
    (rd_stopFlush s2 (by decide)).trans ((h2.rd _ (by decide)).trans (s1.rd_wr_ne _ _ _ (by decide)))
  split
  · next h3 =>
    have h4 : s2.stopFlush.keepsFlush (s2.stopFlush.report 0x40 0xFFFF a 0 0) :=
      report_flashWrite_keepsFlush s2.stopFlush a ((congrArg (fget · F.FLT_ESC_FLASH_WRITE) hesc).trans_lt (h (hfails ▸ h3)))
    refine ⟨h4.fails.trans hfails, h4.skip.trans h2.skip, h4.permSlots.trans h2.permSlots, ?_, ?_, fun _ => ⟨h4.stopped, ?_⟩⟩
    · exact (h4.rd _ (by decide)).trans ((rd_stopFlush s2 (by decide)).trans hfail)
    · exact (h4.rd _ (by decide)).trans ((rd_stopFlush s2 (by decide)).trans hpc)
    · exact h4.flashErr.trans (State.fld_setFld_same _ _ _ _ (by decide))
  · next h3 =>
    exact ⟨hfails, h2.skip, h2.permSlots, hfail, hpc, fun e => absurd (hfails.trans e) h3⟩

/-! ## FLASH_PAGE_PROGRAM_DONE of a program that failed (R401, R406, R482) -/

/-- No page program is under way any more. -/
def State.endProgram (s : State) : State := { s with recd := { s.recd with busy := none } }

/-- The permanent area is full, so that record `c` gets only its circulating copy (R401). -/
def State.permFull (s : State) (c : Cairn) : Bool := c.perm && !c.permDone && decide (4096 ≤ (s.rd R.REC_PCOUNT).toNat)

/-- The state in which the copy of record `c` ends, by a program that began before PFAIL_N or (`pf`) after it. -/
def State.endProgramOf (s : State) (c : Cairn) (pf : Bool) : State :=
  if s.permFull c then (s.endProgram.setFld R.REC_STAT F.REC_STAT_PFULL 1).putCairn { c with perm := c.perm && !s.permFull c, pfl := c.pfl || pf }
  else s.endProgram

theorem endProgramOf_keepsFlush (s : State) (c : Cairn) (pf : Bool) : s.keepsFlush (s.endProgramOf c pf) := by
  have h : s.keepsFlush s.endProgram := of_eq rfl rfl rfl rfl rfl
  exact of_ite ((h.setStat (by decide) (by decide)).trans (of_eq rfl rfl rfl rfl rfl)) h

theorem latchProgram_regs (s : State) : s.latchProgram.regs = s.regs := by
  unfold State.latchProgram
  split
  · rfl
  · split <;> rfl

section
variable {s x : State} {ns seq : Nat} {pf : Bool} {c : Cairn} (hx : (s.arrive ns).latchProgram = x) (hb : x.recd.busy = some (seq, pf))
  (hc : x.recd.staging.find? (fun d => d.seq = seq) = some c)
include hx hb hc

theorem exec_permCopyFails (hp : c.perm = true) (hd : c.permDone = false) (hn : (x.rd R.REC_PCOUNT).toNat < 4096) :
    exec (.flashPageProgramDone false ns) s = done ((x.endProgram.wr R.REC_PCOUNT (BitVec.ofNat 32 ((x.rd R.REC_PCOUNT).toNat + 1))).programFailed
      ((x.rd R.REC_PBASE).toNat + 256 * (x.rd R.REC_PCOUNT).toNat)) := by
  have hfull : decide (4096 ≤ (x.rd R.REC_PCOUNT).toNat) = false := by simpa using hn
  show execFlashPageProgramDone false ns s = _
  simp only [execFlashPageProgramDone, hx, hb, hc, hp, hd, hfull]
  rfl

theorem exec_circCopyFails (hp : c.perm = false ∨ c.permDone = true ∨ 4096 ≤ (x.rd R.REC_PCOUNT).toNat)
    (h0 : x.recd.room (x.recd.slotOf seq) ≠ 0) (h1 : x.recd.room (x.recd.slotOf seq) ≤ 65536) :
    let y := x.endProgramOf c pf
    exec (.flashPageProgramDone false ns) s = done ({ y with recd := { y.recd with skip := y.recd.skip + 1 } }.programFailed
      ((y.rd R.REC_CBASE).toNat + 256 * (x.recd.slotOf seq % 65536))) := by
  intro y
  have hseq : c.seq = seq := by simpa using List.find?_some hc
  have hcopy : (c.perm && !x.permFull c && !c.permDone) = false := by
    rcases hp with hp | hp | hp
    · simp [hp]
    · simp [hp]
    · cases hperm : c.perm <;> simp [State.permFull, hp, hperm]
  have hslot : y.recd.slotOf c.seq = x.recd.slotOf seq := by
    rw [hseq, Rec.slotOf, (endProgramOf_keepsFlush x c pf).skip, Rec.slotOf]
  have herased : y.recd.erased = x.recd.erased := by
    unfold y State.endProgramOf
    split <;> rfl
  have hroom : y.recd.room (x.recd.slotOf seq) = x.recd.room (x.recd.slotOf seq) := by rw [Rec.room, herased, Rec.room]
  show execFlashPageProgramDone false ns s = _
  simp only [execFlashPageProgramDone, hx, hb, hc]
  show (if (c.perm && !x.permFull c && !c.permDone) = true then _ else
    if y.recd.room (y.recd.slotOf c.seq) = 0 ∨ 65536 < y.recd.room (y.recd.slotOf c.seq) then _ else
      done ({ y with recd := { y.recd with skip := y.recd.skip + 1 } }.programFailed
        ((y.rd R.REC_CBASE).toNat + 256 * (y.recd.slotOf c.seq % 65536)))) = _
  rw [hcopy, hslot, hroom, if_neg Bool.false_ne_true, if_neg (by omega)]

/-- What O60 says of a failed program of the permanent copy holds unless it is the third in a row and FLT_ESC makes it fatal. -/
theorem runs_permCopyFails (hp : c.perm = true) (hd : c.permDone = false) (hn : (s.rd R.REC_PCOUNT).toNat < 4096)
    (he : x.recd.fails + 1 = 3 → s.fld R.FLT_ESC F.FLT_ESC_FLASH_WRITE < 2) :
    Runs (.flashPageProgramDone false ns) s fun t => t.rd R.REC_PCOUNT = BitVec.ofNat 32 ((s.rd R.REC_PCOUNT).toNat + 1) ∧
      t.recd.fails = x.recd.fails + 1 ∧ t.rd R.REC_FLASHFAIL = satAdd (s.rd R.REC_FLASHFAIL) 1 ∧ t.recd.permSlots = x.recd.permSlots ∧
      (x.recd.fails + 1 = 3 → t.recd.stopped = true ∧ t.fld R.REC_STAT F.REC_STAT_FLASHERR = 1) := by
  have hrd (off : Nat) : x.rd off = s.rd off := hx ▸ State.rd_congr (latchProgram_regs _) off
  obtain ⟨t, ht, hs⟩ := gives_of_done (exec_permCopyFails hx hb hc hp hd (by rwa [hrd]))
  rw [hrd, hrd] at hs
  have hy := (programFailed_failsProgram (x.endProgram.wr R.REC_PCOUNT (BitVec.ofNat 32 ((s.rd R.REC_PCOUNT).toNat + 1))) _ fun e => by
    rw [State.fld_wr_ne _ _ _ _ _ (by decide)]
    exact (congrArg (fget · F.FLT_ESC_FLASH_WRITE) (hrd R.FLT_ESC)).trans_lt (he e)).of_settles hs
  refine ⟨t, ht, ?_, hy.fails, ?_, hy.permSlots, hy.third⟩
  · rw [hy.pcount, State.rd_wr_same]
  · rw [hy.flashFail, State.rd_wr_ne _ _ _ _ (by decide)]
    exact congrArg (satAdd · 1) (hrd R.REC_FLASHFAIL)

/-- The same for a failed program of the circulating copy. -/
theorem runs_circCopyFails (hp : c.perm = false ∨ c.permDone = true ∨ 4096 ≤ (s.rd R.REC_PCOUNT).toNat)
    (h0 : x.recd.room (x.recd.slotOf seq) ≠ 0) (h1 : x.recd.room (x.recd.slotOf seq) ≤ 65536)
    (he : x.recd.fails + 1 = 3 → s.fld R.FLT_ESC F.FLT_ESC_FLASH_WRITE < 2) :
    Runs (.flashPageProgramDone false ns) s fun t => t.recd.skip = x.recd.skip + 1 ∧ t.recd.fails = x.recd.fails + 1 ∧
      t.rd R.REC_FLASHFAIL = satAdd (s.rd R.REC_FLASHFAIL) 1 := by
  have hrd (off : Nat) : x.rd off = s.rd off := hx ▸ State.rd_congr (latchProgram_regs _) off
  obtain ⟨t, ht, hs⟩ := gives_of_done (exec_circCopyFails hx hb hc (by rwa [hrd]) h0 h1)
  have hk := endProgramOf_keepsFlush x c pf
  generalize x.endProgramOf c pf = y at hs hk
  have hyrd (off : Nat) (ho : off ∈ [R.REC_PCOUNT, R.REC_FLASHFAIL, R.FLT_ESC]) : y.rd off = s.rd off := (hk.rd off ho).trans (hrd off)
  have hy := (programFailed_failsProgram { y with recd := { y.recd with skip := y.recd.skip + 1 } } _ fun e =>
    (congrArg (fget · F.FLT_ESC_FLASH_WRITE) (hyrd R.FLT_ESC (by decide))).trans_lt (he (hk.fails ▸ e))).of_settles hs
  refine ⟨t, ht, hy.skip.trans (congrArg (· + 1) hk.skip), hy.fails.trans (congrArg (· + 1) hk.fails), ?_⟩
  exact hy.flashFail.trans (congrArg (satAdd · 1) (hyrd R.REC_FLASHFAIL (by decide)))

end

/-! ## A third failure in a row that is fatal -/

/-- A record of a permanent kind whose permanent copy is under way. -/
def waitingRecord : Cairn :=
  { perm := true, lost := false, pfl := false, src := 1, code := 1, seq := 0, time := 0, optime := 0, pcyc := 0, payload := [], permDone := false }

/-- The state `strayDrops`, ARMED with a frame in progress that ends in a quality record, after two failed programs in a row, with FLT_ESC.FLASH_WRITE
`esc`. Its compression buffer names REC_FLASHFAIL as the counter of its records. No run of the device fills the buffer so; the statement is about
every state. -/
def thirdFailure (esc : Nat) : State :=
  { strayDrops.setFld R.FLT_ESC F.FLT_ESC_FLASH_WRITE esc with
    recd := { Rec.reset with
      staging := [waitingRecord], busy := some (0, false), fails := 2, qBuf := List.replicate 127 (R.REC_FLASHFAIL, []) } }

/-- The program under way is the one for that record's permanent copy. -/
theorem thirdFailure_latched (esc : Nat) : ((thirdFailure esc).arrive 0).latchProgram = (thirdFailure esc).arrive 0 := rfl

/-- The hypotheses of `runs_permCopyFails` hold together, where FLT_ESC asks for a PAUSE at the third failure. -/
theorem thirdFailure_stops :
    Runs (.flashPageProgramDone false 0) (thirdFailure 1) fun t => t.recd.stopped = true ∧ t.fld R.REC_STAT F.REC_STAT_FLASHERR = 1 := by
  obtain ⟨t, ht, -, -, -, -, hstop⟩ := runs_permCopyFails (s := thirdFailure 1) (c := waitingRecord) (thirdFailure_latched 1) rfl rfl rfl rfl
    (by decide +kernel) fun _ => by decide +kernel
  exact ⟨t, ht, hstop rfl⟩

/-- The failure's own count, and 127 stray ones. -/
theorem thirdFailure_flashFail :
    ((((thirdFailure 2).arrive 0).endProgram.wr R.REC_PCOUNT 1).programFailed 0).rd R.REC_FLASHFAIL = 128 := by decide +kernel

theorem exec_thirdFailure :
    exec (.flashPageProgramDone false 0) (thirdFailure 2) = done ((((thirdFailure 2).arrive 0).endProgram.wr R.REC_PCOUNT 1).programFailed 0) := by
  have h0 : (((thirdFailure 2).arrive 0).rd R.REC_PCOUNT).toNat = 0 ∧ (((thirdFailure 2).arrive 0).rd R.REC_PBASE).toNat = 0 := by decide +kernel
  have h := exec_permCopyFails (c := waitingRecord) (thirdFailure_latched 2) rfl rfl rfl rfl (by rw [h0.1]; decide)
  rwa [h0.1, h0.2] at h

/-- Refutes O60: it speaks of every state, also of one whose compression buffer names REC_FLASHFAIL as the counter of its records. The third failed
program in a row is fatal by FLT_ESC.FLASH_WRITE = 2 and takes the device to SAFE; the frame that ends there fills the buffer, the ring has no room,
and the dropped records count into REC_FLASHFAIL. Where the third failure is not fatal, `runs_permCopyFails` and `runs_circCopyFails` prove the two
clauses about a failed program. -/
theorem not_recordsAndFlash : ¬ Obligations.RecordsAndFlash := by
  unfold Obligations.RecordsAndFlash
  rintro ⟨-, hprogram, -⟩
  have hn : ((thirdFailure 2).rd R.REC_PCOUNT).toNat < 4096 := by decide +kernel
  obtain ⟨hperm, -⟩ := hprogram (thirdFailure 2) 0 0 false waitingRecord rfl rfl
  obtain ⟨-, t, ht, -, -, hcount, -⟩ := hperm rfl rfl hn
  rw [(settles_of_exec exec_thirdFailure ht).rd (by decide), thirdFailure_flashFail] at hcount
  exact absurd hcount (by decide +kernel)

end Sys2Proof.Machine
end

section
/-! PROOFS. UNIT_RESET and the end of a self-test (O43): which check of R417 answers for each unit of Table 16-2. -/

namespace Sys2Proof.Machine

/-- The registers outside a unit's own epoch are left by its step (R417). -/
theorem rd_bumpEpoch_ne (s : State) (t off : Nat) (h : ∀ f, epochPlace t ≠ some (off, f)) : (s.bumpEpoch t).rd off = s.rd off := by
  unfold State.bumpEpoch
  split
  · next r f hp => exact State.rd_setFld_ne _ _ _ _ _ fun e => h f (e ▸ hp)
  · rfl

/-- Every epoch is a field of 4 bits (R417). -/
theorem epochPlace_width {t r : Nat} {f : Fld} (h : epochPlace t = some (r, f)) : f.wd = 4 ∧ f.lo + f.wd ≤ 32 := by
  unfold epochPlace at h
  repeat' split at h
  all_goals simp only [reduceCtorEq, Option.some.injEq, Prod.mk.injEq] at h
  all_goals obtain ⟨-, rfl⟩ := h
  all_goals exact ⟨rfl, by dsimp only; omega⟩

/-- The epoch of a unit moves on modulo 16. -/
theorem unitEpoch_bumpEpoch {t r : Nat} {f : Fld} (h : epochPlace t = some (r, f)) (s : State) :
    (s.bumpEpoch t).unitEpoch t = some ((s.fld r f + 1) % 16) := by
  obtain ⟨hw, hl⟩ := epochPlace_width h
  have hb : s.bumpEpoch t = s.setFld r f (s.fld r f + 1) := by simp only [State.bumpEpoch, h]
  rw [unitEpoch_of_place h, hb, State.fld_setFld_same _ _ _ _ hl, hw]
  rfl

/-- A command that `State.ready` describes passes every shared check, unless EPOCH_CHK names no unit (R417). -/
theorem runCmd_of_ready {s : State} {n op : Nat} {c : Cmd} {k : Cmd → State → State} (h : s.ready n op c)
    (hp : epochPlace (epochTarget c) ≠ none) : s.runCmd op n k = k c s := by
  obtain ⟨hc, hs, hw, ho, hh, hm, he⟩ := h
  have hepoch : ¬(c.epochChk && decide (s.unitEpoch (epochTarget c) ≠ some c.expEpoch)) = true := by
    simpa using he
  rw [runCmd_of_waiting hc hs hw ho, if_neg (by simp [hh]), if_neg (by simp [hm]),
    if_neg (by simp [hp]), if_neg hepoch]

/-! ## UNIT_RESET, case by case (R417, R422) -/

theorem not_quiet_iff (s : State) :
    (!(s.mode = .idle || s.mode = .service)) = true ↔ ¬(s.mode = .idle ∨ s.mode = .service) := by simp

section
variable {s : State} {n : Nat} {c : Cmd} (h : s.ready n 0x30 c)
include h

/-- TARGET of UNIT_RESET is the unit that EPOCH_CHK compares. -/
theorem epochTarget_unitReset : epochTarget c = c.target := by
  obtain ⟨-, -, -, ho, -⟩ := h
  simp [epochTarget, ho]

theorem exec_unitReset_unlisted (hp : epochPlace c.target = none) : exec (.unitReset n) s = done (s.endCmd c St.badParam 0 0) := by
  have ht := epochTarget_unitReset h
  obtain ⟨hc, hs, hw, ho, hh, hm, -⟩ := h
  show done (s.runCmd 0x30 n _) = _
  cases he : c.epochChk
  · rw [runCmd_of_waiting hc hs hw ho]
    simp [hh, hm, he, hp]
  · rw [runCmd_noUnit hc hs hw ho hh hm he (ht ▸ hp)]

/-- A listed unit passes the shared checks, and in BOOT none is reset. -/
theorem exec_unitReset_boot (hp : epochPlace c.target ≠ none) (hb : s.mode = .boot) :
    exec (.unitReset n) s = done (s.endCmd c St.wrongMode 0 0) := by
  refine congrArg done ((runCmd_of_ready h (epochTarget_unitReset h ▸ hp)).trans ?_)
  simp [hp, hb]

variable (hb : s.mode ≠ .boot)
include hb

/-- The active core pair is reset by a planned handover, in IDLE and SERVICE and with a standby. -/
theorem exec_unitReset_activePair {p : Nat} (hlt : p < 2) (ht : c.target = 1 + p) (ha : s.mcpState p = 0) :
    exec (.unitReset n) s = done (
      if s.mode = .idle ∨ s.mode = .service then
        if s.mcpState (1 - p) = 1 then
          { s.putCmd { c with wait := .selfTest } with flt := { s.flt with handover := s.flt.handover ++ [n] } }
        else s.endCmd c St.notReady 0 0
      else s.endCmd c St.wrongMode 0 0) := by
  have hp : epochPlace c.target ≠ none := by
    rw [ht]
    interval_cases p <;> decide
  refine congrArg done ((runCmd_of_ready h (epochTarget_unitReset h ▸ hp)).trans ?_)
  have h12 : c.target = 1 ∨ c.target = 2 := by omega
  have htp : c.target - 1 = p := by omega
  dsimp only
  rw [if_neg (by simpa using hp), if_neg hb, if_pos h12, htp, if_pos ha]
  by_cases hq : s.mode = .idle ∨ s.mode = .service
  · rw [if_neg (mt (not_quiet_iff s).1 (not_not.2 hq)), if_pos hq]
    by_cases hs : s.mcpState (1 - p) = 1
    · rw [if_neg (not_not.2 hs), if_pos hs]
      rfl
    · rw [if_pos hs, if_neg hs]
  · rw [if_pos ((not_quiet_iff s).2 hq), if_neg hq]

theorem exec_unitReset_tscBusy (ht : c.target = 0x10) (hi : s.mode ≠ .idle) (hv : s.mode ≠ .service) :
    exec (.unitReset n) s = done (s.endCmd c St.wrongMode 0 0) := by
  have hp : epochPlace c.target ≠ none := by rw [ht]; decide
  refine congrArg done ((runCmd_of_ready h (epochTarget_unitReset h ▸ hp)).trans ?_)
  simp [ht, hb, hi, hv, epochPlace]

/-- TSC, SBC and the lanes have no self-test. -/
theorem exec_unitReset_now
    (ht : c.target = 0x10 ∧ (s.mode = .idle ∨ s.mode = .service) ∨ c.target = 0x11 ∨ 0x300 ≤ c.target ∧ c.target < 0x320) :
    exec (.unitReset n) s =
      done ((s.resetNow c.target).endCmd c St.done (((s.resetNow c.target).unitEpoch c.target).getD 0) 0) := by
  have hp : epochPlace c.target ≠ none := by
    unfold epochPlace
    rcases ht with ⟨ht, -⟩ | ht | ht
    · simp [ht]
    · simp [ht]
    · rw [if_neg (by omega), if_neg (by omega), if_neg (by omega), if_neg (by omega), if_neg (by omega), if_neg (by omega), if_pos (by omega)]
      simp
  have hq : ¬(c.target = 0x10 ∧ (!(s.mode = .idle || s.mode = .service)) = true) := by
    rw [not_quiet_iff]
    rintro ⟨h1, h2⟩
    rcases ht with ⟨-, ht⟩ | ht | ht
    · exact h2 ht
    · omega
    · omega
  refine congrArg done ((runCmd_of_ready h (epochTarget_unitReset h ▸ hp)).trans ?_)
  dsimp only
  rw [if_neg (by simpa using hp), if_neg hb, if_neg (by omega), if_neg hq, if_neg (by omega), if_neg (by omega)]

/-- A sequencer that holds a tile is not reset; any other goes into self-test. -/
theorem exec_unitReset_sequencer {q : Nat} (hlt : q < 26) (ht : c.target = 0x100 + q) :
    (∀ g, s.headOfSeq q = some g → s.bsqState q = 0 → s.held g ≠ none → exec (.unitReset n) s = done (s.endCmd c St.notReady 0 0)) ∧
    ((∀ g, s.headOfSeq q = some g → s.bsqState q = 0 → s.held g = none) → s.inReset c.target = false →
      exec (.unitReset n) s = done (((s.setBsqState q 3).waitTest c).beginReset c.target [n])) := by
  have hp : epochPlace c.target ≠ none := by
    unfold epochPlace
    rw [if_neg (by omega), if_neg (by omega), if_neg (by omega), if_neg (by omega), if_pos (by omega)]
    simp
  have htq : c.target - 0x100 = q := by omega
  have hrun := fun k => runCmd_of_ready (k := k) h (epochTarget_unitReset h ▸ hp)
  refine ⟨fun g hg h0 hh => congrArg done ((hrun _).trans ?_), fun hn hr => congrArg done ((hrun _).trans ?_)⟩
  all_goals
    dsimp only
    rw [if_neg (by simpa using hp), if_neg hb, if_neg (by omega), if_neg (by omega), if_pos (by omega), htq]
  · simp [hg, h0, Option.isSome_iff_ne_none, hh]
  · have hr' : (s.setBsqState q 3).inReset c.target = false := hr
    rw [if_neg, hr]
    · simp [hr']
    · cases hg : s.headOfSeq q with
      | none => simp
      | some g => simpa using hn g hg

end

/-! ## The state of a sequencer (R425) -/

/-- The register that shows the state of sequencer `n`. -/
abbrev bsqReg (n : Nat) : Nat := if n < 16 then R.FLT_BSQST0 else R.FLT_BSQST1

theorem bsqReg_ne {n off : Nat} (h : R.FLT_SEQMAP 0 ≤ off) : bsqReg n ≠ off := by
  have hlt : bsqReg n < R.FLT_SEQMAP 0 := by
    unfold bsqReg
    split <;> decide
  exact (hlt.trans_le h).ne

theorem bsqState_congr {s t : State} {n : Nat} (h : t.rd (bsqReg n) = s.rd (bsqReg n)) : t.bsqState n = s.bsqState n :=
  congrArg (fget · ⟨2 * (n % 16), 2⟩) h

theorem bsqState_setBsqState_same (s : State) (n : Nat) {v : Nat} (hv : v < 4) : (s.setBsqState n v).bsqState n = v := by
  unfold State.setBsqState State.bsqState
  rw [State.fld_setFld_same _ _ _ _ (by dsimp only; omega)]
  exact Nat.mod_eq_of_lt hv

theorem bsqState_setBsqState_ne (s : State) {n m v : Nat} (hn : n < 32) (hm : m < 32) (h : n ≠ m) :
    (s.setBsqState m v).bsqState n = s.bsqState n := by
  unfold State.setBsqState State.bsqState
  by_cases hr : n < 16 ↔ m < 16
  · simp only [hr]
    exact State.fld_setFld_ne _ _ _ _ _ (by dsimp only; omega) (by dsimp only; omega)
  · refine State.fld_setFld_off _ _ _ _ _ _ ?_
    split <;> split
    · omega
    · decide
    · decide
    · omega

theorem seqOf_congr {s t : State} {h : Nat} (e : t.rd (R.FLT_SEQMAP (h / 6)) = s.rd (R.FLT_SEQMAP (h / 6))) : t.seqOf h = s.seqOf h :=
  congrArg (fun w : Word => w.toNat / 2 ^ (5 * (h % 6)) % 32) e

theorem seqOf_setBsqState (s : State) (n v h : Nat) : (s.setBsqState n v).seqOf h = s.seqOf h :=
  seqOf_congr (State.rd_setFld_ne _ _ _ _ _ (bsqReg_ne (by grind)).symm)

theorem headOfSeq_setBsqState (s : State) (n v q : Nat) : (s.setBsqState n v).headOfSeq q = s.headOfSeq q := by
  simp only [State.headOfSeq, seqOf_setBsqState]

/-! ## The end of a self-test (R417) -/

theorem exec_unitSelfTestDone_none {s : State} {unit : Nat} (ok ns : Nat) (h : s.inReset unit = false) :
    exec (.unitSelfTestDone unit ok ns) s = done (s.arrive ns) := by
  have hn : (s.arrive ns).flt.resets.find? (fun r => r.1 = unit) = none := by
    simpa [State.inReset] using h
  simp only [exec, execUnitSelfTestDone, hn]

/-- A self-test for which no command waits, of a sequencer that is alone in reset. -/
theorem exec_unitSelfTestDone_sequencer {s : State} {q : Nat} (ok ns : Nat) (hq : q < 26) (h : s.flt.resets = [(0x100 + q, [])]) :
    exec (.unitSelfTestDone (0x100 + q) ok ns) s =
      done (({ s.arrive ns with flt := { s.flt with resets := [] } } : State).bsqTested q (ok ≠ 0)) := by
  have hf : (s.arrive ns).flt.resets.find? (fun r => r.1 = 0x100 + q) = some (0x100 + q, []) := by simp [h]
  simp only [exec, execUnitSelfTestDone, hf]
  rw [if_neg (by omega), if_pos (by omega), Nat.add_sub_cancel_left]
  simp [h]

/-- The state of the sequencer after its self-test: it serves its head again, is a spare, or, without a head, has failed. -/
theorem bsqTested_spec (s : State) (q : Nat) (pass : Bool) (h : pass = false → s.headOfSeq q = none) :
    (s.bsqTested q pass).flt = s.flt ∧
      (s.bsqTested q pass).bsqState q = if pass then (if (s.headOfSeq q).isSome then 0 else 1) else 2 := by
  unfold State.bsqTested
  extract_lets prev q' s1 s2
  cases pass with
  | true => exact ⟨rfl, bsqState_setBsqState_same s1 q (by split <;> decide)⟩
  | false =>
    have hn : s2.headOfSeq q = none := (headOfSeq_setBsqState s1 q 2 q).trans (h rfl)
    simp only [hn]
    exact ⟨rfl, bsqState_setBsqState_same s1 q (by decide)⟩

/-- Settles O43: which branch each unit of Table 16-2 takes, and the two ends of a sequencer's self-test. -/
theorem unitResets : Obligations.UnitResets := by
  unfold Obligations.UnitResets
  refine ⟨fun s n c h => ⟨fun hp => ?_, fun hp hb => ?_, fun p hlt ht ha hb => ?_, fun ht hb hi hv => ?_, fun ht hb => ?_,
    fun q hq ht hb => ?_⟩, fun s t r f h => unitEpoch_bumpEpoch h s, fun s q ns hq hr => ?_, fun s unit ok ns h => ?_⟩
  · exact gives_of_done (exec_unitReset_unlisted h hp)
  · exact gives_of_done (exec_unitReset_boot h hp hb)
  · have he := exec_unitReset_activePair h hb hlt ht ha
    refine ⟨fun hi hv => ?_, fun hq hs => ?_, fun hq hs => ?_⟩
    · rw [if_neg (by simp [hi, hv])] at he
      exact gives_of_done he
    · rw [if_pos hq, if_neg hs] at he
      exact gives_of_done he
    · rw [if_pos hq, if_pos hs] at he
      exact gives_of_done he
  · exact gives_of_done (exec_unitReset_tscBusy h hb ht hi hv)
  · exact gives_of_done (exec_unitReset_now h hb ht)
  · obtain ⟨hholds, htests⟩ := exec_unitReset_sequencer h hb hq ht
    exact ⟨fun g hg h0 hh => gives_of_done (hholds g hg h0 hh), fun hn hi => gives_of_done (htests hn hi)⟩
  · have hrun (ok : Nat) (hok : ok = 0 → s.headOfSeq q = none) : Runs (.unitSelfTestDone (0x100 + q) ok ns) s fun t =>
        t.flt.resets = [] ∧ t.bsqState q = if ok ≠ 0 then (if (s.headOfSeq q).isSome then 0 else 1) else 2 := by
      obtain ⟨t, ht, hs⟩ := gives_of_done (exec_unitSelfTestDone_sequencer ok ns hq hr)
      obtain ⟨hflt, hst⟩ := bsqTested_spec { s.arrive ns with flt := { s.flt with resets := [] } } q (ok ≠ 0)
        fun e => hok (by simpa using e)
      refine ⟨t, ht, ?_, ?_⟩
      · rw [hs.flt, hflt]
      · rw [bsqState_congr (hs.rd (by unfold bsqReg; split <;> decide)), hst]
        simp only [decide_eq_true_eq]
        rfl
    exact ⟨hrun 1 fun e => absurd e (by decide), fun h => hrun 0 fun _ => h⟩
  · exact gives_of_done (exec_unitSelfTestDone_none ok ns h)

end Sys2Proof.Machine
end

section
/-! PROOFS. The core pairs (O46): what the failure of a pair leaves of the other one, and that it ends every started command. -/

namespace Sys2Proof.Machine

/-! ## The rows of FLT that show the units -/

/-- The registers from FLT_MCP to FLT_SEQMAP, and FLT_TAKEOVERS: which pairs and sequencers are active, and what they have taken over. -/
abbrev unitRow (off : Nat) : Prop := R.FLT_MCP ≤ off ∧ off < R.FLT_EPOCH 0 ∨ off = R.FLT_TAKEOVERS

/-- No epoch stands in them (R417). -/
theorem epochPlace_ne_unitRow (t : Nat) {off : Nat} (h : unitRow off) (f : Fld) : epochPlace t ≠ some (off, f) := by
  intro e
  unfold epochPlace at e
  repeat' split at e
  all_goals simp only [reduceCtorEq, Option.some.injEq, Prod.mk.injEq] at e
  all_goals
    obtain ⟨rfl, -⟩ := e
    grind

theorem rd_bumpEpoch_unitRow (s : State) (t : Nat) {off : Nat} (h : unitRow off) : (s.bumpEpoch t).rd off = s.rd off :=
  rd_bumpEpoch_ne s t off (epochPlace_ne_unitRow t h)

/-! ## The states of the pairs (R420) -/

/-- The field of FLT_MCP that shows the state of pair `p`. -/
abbrev mcpFld (p : Nat) : Fld := if p = 0 then F.FLT_MCP_A_STATE else F.FLT_MCP_B_STATE

theorem mcpFld_wd (p : Nat) : (mcpFld p).wd = 2 := by
  unfold mcpFld
  split <;> rfl

theorem mcpFld_le (p : Nat) : (mcpFld p).lo + (mcpFld p).wd ≤ 32 := by
  unfold mcpFld
  split <;> decide

theorem activeMcp_lt (s : State) : s.activeMcp < 2 := Nat.mod_lt _ (by decide)

theorem mcpState_congr {s t : State} (h : t.rd R.FLT_MCP = s.rd R.FLT_MCP) (p : Nat) : t.mcpState p = s.mcpState p :=
  congrArg (fget · (mcpFld p)) h

/-- The field ACTIVE overlaps no pair's state. -/
theorem mcpState_setActive (s : State) (v p : Nat) : (s.setFld R.FLT_MCP F.FLT_MCP_ACTIVE v).mcpState p = s.mcpState p :=
  State.fld_setFld_ne _ _ _ _ _ (by decide) (by split <;> decide)

theorem mcpState_setMcp_same (s : State) (p : Nat) {v : Nat} (hv : v < 4) : (s.setMcp p v).mcpState p = v := by
  have h : (s.setFld R.FLT_MCP (mcpFld p) v).mcpState p = v := by
    unfold State.mcpState
    rw [State.fld_setFld_same _ _ _ _ (mcpFld_le p), mcpFld_wd]
    exact Nat.mod_eq_of_lt hv
  unfold State.setMcp
  extract_lets s1 s2
  show s2.mcpState p = v
  unfold s2
  split
  · exact (mcpState_setActive ..).trans h
  · exact h

theorem mcpState_setMcp_other (s : State) {p : Nat} (v : Nat) (hp : p < 2) : (s.setMcp p v).mcpState (1 - p) = s.mcpState (1 - p) := by
  have h : (s.setFld R.FLT_MCP (mcpFld p) v).mcpState (1 - p) = s.mcpState (1 - p) := by
    unfold State.mcpState
    interval_cases p <;> exact State.fld_setFld_ne _ _ _ _ _ (by decide) (by decide)
  unfold State.setMcp
  extract_lets s1 s2
  show s2.mcpState (1 - p) = _
  unfold s2
  split
  · exact (mcpState_setActive ..).trans h
  · exact h

theorem mcpState_bumpEpoch (s : State) (t p : Nat) : (s.bumpEpoch t).mcpState p = s.mcpState p :=
  mcpState_congr (rd_bumpEpoch_unitRow s t (by decide)) p

/-! ## A pair fails (R420, R423) -/

section
variable {s : State} {p : Nat} (code : Nat)

theorem mcpFail_takeover (hp : p < 2) (ha : s.mcpState p = 0) (hs : s.mcpState (1 - p) = 1) :
    s.mcpFail p code =
      ((((((s.setMcp p 2).bumpEpoch (1 + p)).setMcp (1 - p) 0).inc R.FLT_TAKEOVERS 1).coreLost).degrSync).report code (1 + p) 0 0 0 := by
  have ho : ((s.setMcp p 2).bumpEpoch (1 + p)).mcpState (1 - p) = 1 := by
    rw [mcpState_bumpEpoch, mcpState_setMcp_other s 2 hp, hs]
  unfold State.mcpFail
  dsimp only
  rw [if_pos ha, if_pos ho]

theorem mcpFail_alone (hp : p < 2) (ha : s.mcpState p = 0) (hs : s.mcpState (1 - p) ≠ 1) :
    s.mcpFail p code = ((s.setMcp p 2).bumpEpoch (1 + p)).coreLost.degrSync.report 0x03 (1 + p) 0 0 0 := by
  have ho : ((s.setMcp p 2).bumpEpoch (1 + p)).mcpState (1 - p) ≠ 1 := by
    rwa [mcpState_bumpEpoch, mcpState_setMcp_other s 2 hp]
  unfold State.mcpFail
  dsimp only
  rw [if_pos ha, if_neg ho]

theorem mcpFail_standby (hs : s.mcpState p = 1) :
    s.mcpFail p code = ((s.setMcp p 2).bumpEpoch (1 + p)).degrSync.report 0x02 (1 + p) 0 0 0 := by
  unfold State.mcpFail
  dsimp only
  rw [if_neg (by omega), if_pos hs]

end

/-! ## The commands in flight (R421) -/

theorem msix_hq (s : State) (v : Nat) : (s.msix v).hq = s.hq := by
  unfold State.msix
  split <;> rfl

theorem ethSend_hq (s : State) (p : Nat) (o : Out) : (s.ethSend p o).hq = s.hq := rfl

theorem setQueue_cmds (s : State) (n : Nat) (q : Queue) : (s.setQueue n q).hq.cmds = s.hq.cmds := rfl

theorem ite_cmds {p : Prop} [Decidable p] {t u : State} {l : List Cmd} (ht : t.hq.cmds = l) (hu : u.hq.cmds = l) :
    (if p then t else u).hq.cmds = l := by
  split <;> assumption

/-- A completion leaves the commands in flight. -/
theorem complete_cmds (s : State) (c : Cmd) (status result : Nat) : (s.complete c status result).hq.cmds = s.hq.cmds := by
  unfold State.complete
  extract_lets q size tail p e s1 s2 Q s3 Q' d keep s4
  have h1 : s1.hq = s.hq := State.setFld_hq ..
  have h2 : s2.hq.cmds = s.hq.cmds := ite_cmds (congrArg Hq.cmds ((State.setFld_hq ..).trans h1)) (congrArg Hq.cmds h1)
  have h3 : s3.hq.cmds = s.hq.cmds := (setQueue_cmds ..).trans h2
  have h4 : s4.hq.cmds = s.hq.cmds :=
    ite_cmds ((congrArg Hq.cmds (State.hostPut_hq ..)).trans h3) ((congrArg Hq.cmds (ethSend_hq ..)).trans ((setQueue_cmds ..).trans h3))
  exact ite_cmds ((congrArg Hq.cmds (msix_hq ..)).trans h4) h4

/-- The command that ends, and no other, is no longer in flight. -/
theorem endCmd_inFlight (s : State) (c : Cmd) (status result detail : Nat) :
    (s.endCmd c status result detail).hq.cmds = s.hq.cmds.filter fun x => x.seq ≠ c.seq := by
  rw [endCmd_eq]
  split
  · exact retire_cmds ..
  · rw [complete_cmds, retire_cmds]

/-- Commands ended one after the other: those left were in flight before, and none of them has ended. -/
theorem foldl_ends_cmds {f : State → Cmd → State} (hf : ∀ s c, (f s c).hq.cmds = s.hq.cmds.filter fun x => x.seq ≠ c.seq) (l : List Cmd)
    (s : State) : ∀ x ∈ (l.foldl f s).hq.cmds, x ∈ s.hq.cmds ∧ ∀ c ∈ l, x.seq ≠ c.seq := by
  induction l generalizing s with
  | nil => exact fun x hx => ⟨hx, fun c hc => by cases hc⟩
  | cons c l ih =>
    intro x hx
    obtain ⟨hmem, hl⟩ := ih (f s c) x hx
    rw [hf, List.mem_filter, decide_eq_true_eq] at hmem
    exact ⟨hmem.1, List.forall_mem_cons.2 ⟨hmem.2, hl⟩⟩

theorem foldl_keeps_hq {α : Type} {f : State → α → State} (hf : ∀ s a, (f s a).hq = s.hq) (l : List α) (s : State) :
    (l.foldl f s).hq = s.hq := by
  induction l generalizing s with
  | nil => rfl
  | cons a l ih => exact (ih _).trans (hf s a)

/-- A started command ends with its core pair (R421). -/
def State.endLost (s : State) (c : Cmd) : State :=
  let made := s.effectMade c
  let s := { s with pend := s.pend.map fun (p : Pending) => p.orphan c.seq,
                    tim := { s.tim with steps := s.tim.steps.filter fun t => t.seq ≠ some c.seq } }
  s.endCmd c St.targetReset 0 (b2n made)

theorem endLost_cmds (s : State) (c : Cmd) : (s.endLost c).hq.cmds = s.hq.cmds.filter fun x => x.seq ≠ c.seq := endCmd_inFlight ..

/-- The commands in flight that have started end one after the other, and then the exchanges of the lanes lose their commands. -/
theorem coreLost_cmds (s : State) :
    let x := s.calEnd St.targetReset
    s.coreLost.hq.cmds = ((x.hq.cmds.filter fun c => c.started).foldl State.endLost x).hq.cmds := by
  intro x
  unfold State.coreLost
  extract_lets s1 s2 s3
  have h1 : s1 = (x.hq.cmds.filter fun c => c.started).foldl State.endLost x := rfl
  have h2 : s2.hq = s1.hq := foldl_keeps_hq (f := fun s n => s.setLane n (s.lane n).orphan) (fun _ _ => rfl) (List.range 32) s1
  have h3 : s3.hq = s2.hq := State.setFld_hq ..
  rw [← h1, ← h2, ← h3]

/-- With its core pair every started command has ended. -/
theorem coreLost_started (s : State) : ∀ c ∈ s.coreLost.hq.cmds, c.started = false := by
  intro c hc
  rw [coreLost_cmds] at hc
  obtain ⟨hmem, hends⟩ := foldl_ends_cmds endLost_cmds _ _ c hc
  by_contra hs
  exact hends c (List.mem_filter.2 ⟨hmem, by simpa using hs⟩) rfl

/-! ## The planned handover (R422) -/

theorem exec_mcpHandover_due {s : State} (hd : s.handoverDue ≠ []) (he : ∀ c ∈ s.hq.cmds, c.started = true → c.seq ∈ s.handoverDue)
    (hs : s.mcpState (1 - s.activeMcp) = 1) : exec .mcpHandover s = done s.handOver := by
  refine congrArg done (if_neg ?_)
  rintro (h | h | h)
  · exact hd (by simpa using h)
  · obtain ⟨c, hc, h⟩ := List.any_eq_true.1 h
    simp only [Bool.and_eq_true, Bool.not_eq_true', List.contains_eq_mem, decide_eq_false_iff_not] at h
    exact h.2 (he c hc h.1)
  · exact h hs

theorem exec_mcpHandover_none {s : State}
    (h : s.handoverDue = [] ∨ (∃ c ∈ s.hq.cmds, c.started = true ∧ c.seq ∉ s.handoverDue) ∨ s.mcpState (1 - s.activeMcp) ≠ 1) :
    exec .mcpHandover s = done s := by
  refine congrArg done (if_pos (h.imp (fun h => by simp [h]) (Or.imp_left ?_)))
  rintro ⟨c, hc, hs, hn⟩
  exact List.any_eq_true.2 ⟨c, hc, by simpa [hs] using hn⟩

/-- Settles O46: the cases of `mcpFail`, the end of the started commands, and the two cases of the handover. -/
theorem corePairs : Obligations.CorePairs := by
  unfold Obligations.CorePairs
  refine ⟨fun s ns => ?_, fun s => ⟨coreLost_started s, rfl, rfl⟩,
    fun s p v hp hv => ⟨mcpState_setMcp_same s p hv, mcpState_setMcp_other s v hp⟩,
    fun s hd he hs => gives_of_done (exec_mcpHandover_due hd he hs), fun s h => gives_of_done (exec_mcpHandover_none h)⟩
  intro x p failed
  have hp : p < 2 := activeMcp_lt s
  have hmis : exec (.mcpLockstepMismatch ns) s = done (if x.mcpState p = 0 then x.mcpFail p 0x01 else x) := rfl
  have hwd : exec (.mcpWatchdogExpiry ns) s = done (if x.mcpState p = 0 then x.mcpFail p 0x04 else x) := rfl
  have hsb : exec (.mcpStandbyMismatch ns) s = done (if x.mcpState (1 - p) = 1 then x.mcpFail (1 - p) 0x02 else x) := rfl
  refine ⟨fun ha hs => ⟨?_, ?_⟩, fun ha hs => ⟨?_, ?_⟩, fun ha => ⟨?_, ?_⟩, fun hs => ?_, fun hs => ?_⟩
  · exact gives_of_done (hmis.trans (congrArg done ((if_pos ha).trans (mcpFail_takeover (s := x) 0x01 hp ha hs))))
  · exact gives_of_done (hwd.trans (congrArg done ((if_pos ha).trans (mcpFail_takeover (s := x) 0x04 hp ha hs))))
  · exact gives_of_done (hmis.trans (congrArg done ((if_pos ha).trans (mcpFail_alone (s := x) 0x01 hp ha hs))))
  · exact gives_of_done (hwd.trans (congrArg done ((if_pos ha).trans (mcpFail_alone (s := x) 0x04 hp ha hs))))
  · exact gives_of_done (hmis.trans (congrArg done (if_neg ha)))
  · exact gives_of_done (hwd.trans (congrArg done (if_neg ha)))
  · exact gives_of_done (hsb.trans (congrArg done ((if_pos hs).trans (mcpFail_standby (s := x) 0x02 hs))))
  · exact gives_of_done (hsb.trans (congrArg done (if_neg hs)))

end Sys2Proof.Machine
end

section
/-! PROOFS. A checker mismatch and memory errors (O47): the spare that takes the head, which the report of the fault leaves in place, and what an
error does by its region. -/

namespace Sys2Proof.Machine

/-! ## What a fault report leaves -/

/-- `t` shows the same units active and taken over as `s`. -/
structure State.keepsUnits (s t : State) : Prop where
  rd : ∀ off, unitRow off → t.rd off = s.rd off

namespace State.keepsUnits

variable {s t u : State}

theorem refl (s : State) : s.keepsUnits s := ⟨fun _ _ => rfl⟩

theorem trans (h : s.keepsUnits t) (g : t.keepsUnits u) : s.keepsUnits u := ⟨fun off ho => (g.rd off ho).trans (h.rd off ho)⟩

theorem of_eq (h : t.regs = s.regs) : s.keepsUnits t := ⟨fun off _ => State.rd_congr h off⟩

theorem wr (h : s.keepsUnits t) {off : Nat} {w : Word} (ho : ¬ unitRow off) : s.keepsUnits (t.wr off w) :=
  h.trans ⟨fun o hu => t.rd_wr_ne o off w fun e => ho (e ▸ hu)⟩

theorem setFld (h : s.keepsUnits t) {off v : Nat} {f : Fld} (ho : ¬ unitRow off) : s.keepsUnits (t.setFld off f v) := h.wr ho

theorem of_ite {p : Prop} [Decidable p] (ht : s.keepsUnits t) (hu : s.keepsUnits u) : s.keepsUnits (if p then t else u) := by
  split <;> assumption

end State.keepsUnits

open State.keepsUnits

theorem msix_keepsUnits (s : State) (v : Nat) : s.keepsUnits (s.msix v) :=
  of_ite (.wr (refl s) (by grind)) (of_eq rfl)

theorem irqSend_keepsUnits (s : State) (rose : Nat) : s.keepsUnits (s.irqSend rose) := by
  obtain ⟨-, hrd, -⟩ := irqSend_sentFrom s rose
  exact ⟨fun off ho => hrd off (by grind) (by grind)⟩

theorem recSync_keepsUnits (s : State) : s.keepsUnits s.recSync := .setFld (.wr (refl s) (by decide)) (by decide)

theorem stage_keepsUnits (s : State) (src code : Nat) (p pfl : Bool) (time : Nat) (payload : List Byte) :
    s.keepsUnits (s.stage src code p pfl time payload) := by
  unfold State.stage
  extract_lets r n perm c s1 s2
  have h1 : s.keepsUnits s1 := of_eq rfl
  have h2 : s.keepsUnits s2 := of_ite (h1.setFld (by decide)) h1
  exact (h2.wr (by decide)).trans (recSync_keepsUnits _)

theorem dropRecord_keepsUnits (s : State) (p counted : Bool) : s.keepsUnits (s.dropRecord p counted) := by
  unfold State.dropRecord
  extract_lets n s1 r s2
  have h1 : s.keepsUnits s1 := (refl s).wr (by decide)
  have h2 : s.keepsUnits s2 := h1.trans (of_eq rfl)
  exact of_ite (.setFld (.wr h2 (by split <;> decide)) (by decide)) h1

theorem cairn_keepsUnits (s : State) (src code : Nat) (p : Bool) (payload : List Byte) : s.keepsUnits (s.cairn src code p payload) := by
  unfold State.cairn State.cairnAt
  extract_lets lost s1 dc dp rec s2
  have h1 : s.keepsUnits s1 := stage_keepsUnits s ..
  have h2 : s.keepsUnits s2 := h1.trans (of_eq rfl)
  exact of_ite (dropRecord_keepsUnits s ..) (of_ite (of_ite (h2.trans (stage_keepsUnits ..)) h1) (dropRecord_keepsUnits s ..))

/-- A fault that FLT_ESC does not name and that is not fatal is recorded and shown, and nothing follows (R432). -/
theorem report_keepsUnits (s : State) {code : Nat} (unit detail detail2 tick : Nat) (he : faultEsc code = none) (hs : faultSev code < 3) :
    s.keepsUnits (s.report code unit detail detail2 tick) := by
  unfold State.report
  extract_lets esc sev epoch payload s1 s2 s3 s4
  have hesc : esc = 0 := by simp only [esc, he]
  have hsev : sev = faultSev code := if_pos hesc
  have h4 : s.keepsUnits s4 := ((cairn_keepsUnits ..).wr (by decide)).setFld (by decide) |>.trans (msix_keepsUnits ..)
  rw [if_neg (by omega), if_neg (by omega)]
  exact h4

theorem degrade_keepsUnits (s : State) (f : Fld) : s.keepsUnits (s.degrade f) := by
  unfold State.degrade
  extract_lets s1
  have h1 : s.keepsUnits s1 := (refl s).setFld (by decide)
  refine of_ite (h1.trans ?_) h1
  unfold State.enterMode
  extract_lets old rose s2 s3
  have h3 : s1.keepsUnits s3 := .setFld (.setFld (.setFld (refl s1) (by decide)) (by decide)) (by decide)
  exact of_ite (h3.trans (irqSend_keepsUnits ..)) h3

theorem degrSync_keepsUnits (s : State) : s.keepsUnits s.degrSync := by
  unfold State.degrSync
  extract_lets s1 s2
  have h1 : s.keepsUnits s1 := of_ite (degrade_keepsUnits ..) (refl s)
  have h2 : s.keepsUnits s2 := of_ite (h1.trans (degrade_keepsUnits ..)) h1
  exact of_ite (h2.trans (degrade_keepsUnits ..)) h2

/-! ## Spare sequencers (R425, R426) -/

theorem unitRow_bsqReg (n : Nat) : unitRow (bsqReg n) := by
  unfold bsqReg
  split <;> decide

theorem unitRow_seqMap {h : Nat} (hh : h < 24) : unitRow (R.FLT_SEQMAP (h / 6)) := by grind

theorem bsqState_bsqFailed_same (s : State) (n : Nat) : (s.bsqFailed n).bsqState n = 2 :=
  (bsqState_congr (rd_bumpEpoch_unitRow _ _ (unitRow_bsqReg n))).trans (bsqState_setBsqState_same s n (by decide))

theorem rd_takeovers_bsqFailed (s : State) (n : Nat) : (s.bsqFailed n).rd R.FLT_TAKEOVERS = s.rd R.FLT_TAKEOVERS :=
  (rd_bumpEpoch_unitRow _ _ (by decide)).trans (State.rd_setFld_ne _ _ _ _ _ (by split <;> decide))

theorem freeSpare_spec {s : State} {m : Nat} (h : s.freeSpare = some m) : m < 26 ∧ s.bsqState m = 1 :=
  ⟨List.mem_range.1 (List.mem_of_find?_eq_some h), by simpa using List.find?_some h⟩

theorem headOfSeq_lt {s : State} {n h : Nat} (e : s.headOfSeq n = some h) : h < 24 := List.mem_range.1 (List.mem_of_find?_eq_some e)

section
variable (s : State) {h m : Nat} (q : Seq)

theorem bsqState_assignSpare (n : Nat) : (s.assignSpare h m q).bsqState n = (s.setBsqState m 0).bsqState n := by
  have hinc : (s.assignSpare h m q).rd (bsqReg n) = ((s.setBsqState m 0).setSeqOf h m).rd (bsqReg n) :=
    State.rd_inc_ne _ _ _ _ (bsqReg_ne (by decide))
  exact bsqState_congr (hinc.trans (State.rd_setFld_ne _ _ _ _ _ (bsqReg_ne (by grind))))

variable (hh : h < 24)
include hh

theorem seqOf_assignSpare (hm : m < 32) : (s.assignSpare h m q).seqOf h = m := by
  have hs : ((s.setBsqState m 0).setSeqOf h m).seqOf h = m := by
    show ((s.setBsqState m 0).setSeqOf h m).fld (R.FLT_SEQMAP (h / 6)) ⟨5 * (h % 6), 5⟩ = m
    unfold State.setSeqOf
    rw [State.fld_setFld_same _ _ _ _ (by dsimp only; omega)]
    exact Nat.mod_eq_of_lt hm
  exact (seqOf_congr (State.rd_inc_ne _ _ _ _ (by grind))).trans hs

theorem rd_takeovers_assignSpare : (s.assignSpare h m q).rd R.FLT_TAKEOVERS = satAdd (s.rd R.FLT_TAKEOVERS) 1 := by
  have hs : ((s.setBsqState m 0).setSeqOf h m).rd R.FLT_TAKEOVERS = s.rd R.FLT_TAKEOVERS :=
    (State.rd_setFld_ne _ _ _ _ _ (by grind)).trans (State.rd_setFld_ne _ _ _ _ _ (by split <;> decide))
  exact (State.rd_wr_same _ _ _).trans (congrArg (satAdd · 1) hs)

end

/-- A sequencer that serves no head. -/
def Seq.idle (q : Seq) : Seq := { q with running := false, act := .ready, job := none, head := 31 }

section
variable {s : State} {n : Nat}

theorem checkerMismatch_spare (h : s.bsqState n = 1) : s.checkerMismatch n = s.bsqFailed n := if_pos h

theorem checkerMismatch_out (h : s.bsqState n = 2 ∨ s.bsqState n = 3) : s.checkerMismatch n = s := by
  unfold State.checkerMismatch
  dsimp only
  rw [if_neg (by omega), if_pos (by omega)]

variable {h : Nat} (ha : s.bsqState n = 0) (hh : s.headOfSeq n = some h) (hr : (s.seq n).running = false)
  (hd : sget (fun _ => 0) h s.tsc.removedAt ≠ s.tick + 1)
include ha hh hr hd

/-- A sequencer that runs no tile gives its head to the spare, and nothing is to be resumed. -/
theorem checkerMismatch_takeover {m : Nat} (hf : s.freeSpare = some m) :
    s.checkerMismatch n =
      ((((s.bsqFailed n).setSeq n (s.seq n).idle).assignSpare h m ((s.verified n (s.tick + 2)).getD (s.seq n))).degrSync).report 0x10 (0x100 + n) h m
        ((s.tick + 2) % 2 ^ 32) := by
  unfold State.checkerMismatch
  simp only [ha, hh]
  rw [if_neg hd, hf]
  simp only [hr]
  rfl

/-- Without a spare the head is removed with cause 2. -/
theorem checkerMismatch_removes (hf : s.freeSpare = none) :
    s.checkerMismatch n =
      (((s.bsqFailed n).setSeq n ((s.verified n (s.tick + 2)).getD (s.seq n))).removeHeadAt h 2 (1250 * (s.tick + 2)) 0).report 0x11 (0x100 + n) h 0
        ((s.tick + 2) % 2 ^ 32) := by
  unfold State.checkerMismatch
  simp only [ha, hh]
  rw [if_neg hd, hf]
  simp only [hr]
  rfl

end

theorem unitRow_not_irqRegs {off : Nat} (h : unitRow off) : off ∉ irqRegs := by
  intro hm
  simp only [irqRegs, List.mem_cons, List.not_mem_nil, or_false] at hm
  rcases hm with rfl | rfl | rfl <;> exact absurd h (by decide)

/-- A pass over the first `k` numbers that acts at `n` alone. -/
theorem foldl_range_single (f : State → Nat → State) (s : State) (n k : Nat) :
    (List.range k).foldl (fun s i => if [0x100 + n].contains (0x100 + i) then f s i else s) s = if n < k then f s n else s := by
  induction k with
  | zero => rfl
  | succ k ih =>
    rw [List.range_succ, List.foldl_append, ih, List.foldl_cons, List.foldl_nil]
    rcases lt_trichotomy n k with h | rfl | h
    · rw [if_neg (by simp; omega), if_pos h, if_pos (by omega)]
    · rw [if_pos (by simp), if_neg (by omega), if_pos (by omega)]
    · rw [if_neg (by simp; omega), if_neg (by omega), if_neg (by omega)]

theorem exec_bsqCheckerMismatch {n : Nat} (s : State) (ns : Nat) (hn : n < 26) :
    exec (.bsqCheckerMismatch [0x100 + n] ns) s = done ((s.arrive ns).checkerMismatch n) :=
  congrArg done ((foldl_range_single State.checkerMismatch _ n 26).trans (if_pos hn))

/-- What the takeover shows, whatever the report of the fault does. -/
theorem runs_takeover {s : State} {n h m : Nat} (ns : Nat) (hn : n < 26) (ha : s.bsqState n = 0) (hh : s.headOfSeq n = some h)
    (hr : (s.seq n).running = false) (hd : sget (fun _ => 0) h s.tsc.removedAt ≠ s.tick + 1) (hf : s.freeSpare = some m) :
    Runs (.bsqCheckerMismatch [0x100 + n] ns) s fun t => t.bsqState n = 2 ∧ t.bsqState m = 0 ∧ t.seqOf h = m ∧
      t.rd R.FLT_TAKEOVERS = satAdd (s.rd R.FLT_TAKEOVERS) 1 := by
  obtain ⟨hm, hms⟩ := freeSpare_spec hf
  have hlt : h < 24 := headOfSeq_lt hh
  have hne : n ≠ m := by
    rintro rfl
    omega
  obtain ⟨t, ht, hs⟩ := gives_of_done (exec_bsqCheckerMismatch s ns hn)
  rw [checkerMismatch_takeover (s := s.arrive ns) ha hh hr hd hf] at hs
  generalize hx : ((s.arrive ns).bsqFailed n).setSeq n ((s.arrive ns).seq n).idle = x at hs
  generalize (((s.arrive ns).verified n ((s.arrive ns).tick + 2)).getD ((s.arrive ns).seq n)) = q at hs
  have hxn : x.bsqState n = 2 := hx ▸ bsqState_bsqFailed_same (s.arrive ns) n
  have hxt : x.rd R.FLT_TAKEOVERS = s.rd R.FLT_TAKEOVERS := hx ▸ rd_takeovers_bsqFailed (s.arrive ns) n
  have hk := (degrSync_keepsUnits (x.assignSpare h m q)).trans
    (report_keepsUnits _ (0x100 + n) h m (((s.arrive ns).tick + 2) % 2 ^ 32) (code := 0x10) (by decide) (by decide))
  have hrd {off : Nat} (ho : unitRow off) : t.rd off = (x.assignSpare h m q).rd off := (hs.rd (unitRow_not_irqRegs ho)).trans (hk.rd off ho)
  refine ⟨t, ht, ?_, ?_, ?_, ?_⟩
  · rw [bsqState_congr (hrd (unitRow_bsqReg n)), bsqState_assignSpare, bsqState_setBsqState_ne _ (by omega) (by omega) hne, hxn]
  · rw [bsqState_congr (hrd (unitRow_bsqReg m)), bsqState_assignSpare, bsqState_setBsqState_same _ _ (by decide)]
  · rw [seqOf_congr (hrd (unitRow_seqMap hlt)), seqOf_assignSpare x q hlt (by omega)]
  · rw [hrd (by decide), rd_takeovers_assignSpare x q hlt, hxt]

/-! ## Memory errors (R428 to R430) -/

section
variable {s : State} {a : Nat} (ns : Nat)

/-- The state in which an uncorrectable SRAM error is counted, located and marked (R429). -/
def State.sramMarked (s : State) (a ns : Nat) : State :=
  let x := ((s.arrive ns).inc R.FLT_SRAM_UE 1).errAddr false a
  { x with mem := { s.mem with sramBad := sput (fun _ => false) (a / 8) true s.mem.sramBad } }

theorem exec_sramUncorrectableError_beyond (h : 0x4000000 ≤ a) : exec (.sramUncorrectableError a ns) s = done (s.arrive ns) := if_pos h

variable (hlt : a < 0x4000000)
include hlt

/-- The memory of a core pair: that pair fails. -/
theorem exec_sramUncorrectableError_ofPair (h : 0x3680000 ≤ a ∧ a < 0x3A80000) :
    exec (.sramUncorrectableError a ns) s = done ((s.sramMarked a ns).mcpFail (if a < 0x3880000 then 0 else 1) 0x01) :=
  (if_neg (by omega)).trans (if_pos h)

/-- A memory whose loss is fatal. -/
theorem exec_sramUncorrectableError_fatal (h : a < 0x2800000 ∨ 0x3000000 ≤ a ∧ a < 0x3300000 ∨ 0x3600000 ≤ a ∧ a < 0x3680000) :
    exec (.sramUncorrectableError a ns) s = done ((s.sramMarked a ns).report 0x21 0xFFFF a 0 0) := by
  refine (if_neg (by omega)).trans ?_
  rw [if_neg (by omega), if_neg (by omega), if_neg (by omega), if_neg (by omega), if_neg (by omega)]
  rfl

/-- The trace, the camera statistics, the journal or the general region. -/
theorem exec_sramUncorrectableError_noted
    (h : 0x2800000 ≤ a ∧ a < 0x2C00000 ∨ 0x3300000 ≤ a ∧ a < 0x3440000 ∨ 0x3A80000 ≤ a ∧ a < 0x4000000) :
    exec (.sramUncorrectableError a ns) s = done ((s.sramMarked a ns).report 0x22 0xFFFF a 0 0) := by
  refine (if_neg (by omega)).trans ?_
  rw [if_neg (by omega), if_neg (by omega), if_neg (by omega), if_neg (by omega), if_pos (by omega)]
  rfl

end

/-- An error in DRAM outside the regions whose contents end with it (R430). -/
theorem exec_dramUncorrectableError {s : State} {a : Nat} (ns : Nat) (hlt : a < 2 ^ 40) (h3 : s.dramRegionOf a ≠ some 3)
    (h4 : s.dramRegionOf a ≠ some 4) :
    let x := ((s.arrive ns).inc R.FLT_DRAM_UE 1).errAddr true a
    exec (.dramUncorrectableError a ns) s =
      done (({ x with mem := { s.mem with dramBad := sput (fun _ => false) (a / 32) true s.mem.dramBad } } : State).report 0x25 0xFFFF
        (a % 2 ^ 32) 0 0) := by
  intro x
  refine (if_neg (by omega)).trans (congrArg (fun y : State => done (y.report 0x25 0xFFFF (a % 2 ^ 32) 0 0)) ?_)
  split
  · next h => exact absurd h h3
  · next h => exact absurd h h4
  · rfl

/-- Settles O47: the cases of the checker mismatch, and the region of each memory error. -/
theorem sequencersAndMemoryErrors : Obligations.SequencersAndMemoryErrors := by
  unfold Obligations.SequencersAndMemoryErrors
  refine ⟨fun s n ns hn => ⟨fun h => ?_, fun h => ?_, fun h m ha hh hr hd hf => runs_takeover ns hn ha hh hr hd hf, fun h ha hh hr hd hf => ?_⟩,
    fun s a ns => ⟨fun h => ?_, fun h => ?_, fun h => ?_, fun h => ?_⟩, fun s i a hb ht => if_pos ⟨hb, ht⟩,
    fun s a ns => ⟨fun h => ?_, fun h => ?_, fun h h' => ?_, fun h h' => ?_, fun h => ?_⟩, fun s a ns => ⟨fun h h3 h4 => ?_, fun h => ?_⟩⟩
  · exact gives_of_done ((exec_bsqCheckerMismatch s ns hn).trans (congrArg done (checkerMismatch_spare (s := s.arrive ns) h)))
  · exact gives_of_done ((exec_bsqCheckerMismatch s ns hn).trans (congrArg done (checkerMismatch_out (s := s.arrive ns) h)))
  · exact gives_of_done ((exec_bsqCheckerMismatch s ns hn).trans (congrArg done (checkerMismatch_removes (s := s.arrive ns) ha hh hr hd hf)))
  · exact gives_of_done (congrArg done (if_neg (by omega)))
  · exact gives_of_done (congrArg done (if_pos h))
  · exact gives_of_done (congrArg done (if_neg (by omega)))
  · exact gives_of_done (congrArg done (if_pos h))
  · exact gives_of_done (exec_sramUncorrectableError_fatal ns (by omega) h)
  · exact gives_of_done (exec_sramUncorrectableError_noted ns (by omega) h)
  · have he := exec_sramUncorrectableError_ofPair (s := s) ns (by omega) ⟨h, by omega⟩
    rw [if_pos h'] at he
    exact gives_of_done he
  · have he := exec_sramUncorrectableError_ofPair (s := s) ns (by omega) ⟨by omega, h'⟩
    rw [if_neg (by omega)] at he
    exact gives_of_done he
  · exact gives_of_done (exec_sramUncorrectableError_beyond ns h)
  · exact gives_of_done (exec_dramUncorrectableError ns h h3 h4)
  · exact gives_of_done (if_pos h)

end Sys2Proof.Machine
end

section
/-! PROOFS. The refutation of O45: a FW_UPDATE with EPOCH_CHK, whose TARGET Table 3-6 leaves at 0, meets `State.ready`, but ends with BAD_PARAM
(R417) before R441 looks for another update. -/

namespace Sys2Proof.Machine

/-- The FW_UPDATE `epochChkOnHq 0x32` with ADDR 0 and LEN 352. -/
def updateOf352 : Cmd := { epochChkOnHq 0x32 with words := (epochChkOnHq 0x32).words ++ [0, 0, 0, 352] }

/-- IDLE with that command in flight during another update. Host memory holds an image header whose own length is 352, with an empty body. -/
def updateOnHq : State :=
  { (State.reset.setFld R.GLB_MODE F.GLB_MODE_MODE Mode.idle.code).hostPut 4 [0x60, 1] with
    hq := { Hq.reset with cmds := [updateOf352] }, lcs := { Lcs.reset with update := some ⟨1, [], 1, 0, 0⟩ } }

/-- FW_UPDATE is permitted in IDLE (Table 3-6), and EXP_EPOCH is the epoch of HQ. -/
theorem updateOnHq_ready : updateOnHq.ready 0 0x32 updateOf352 :=
  ⟨rfl, rfl, rfl, rfl, by decide +kernel, by decide +kernel, fun _ => by decide +kernel⟩

/-- HQ is no unit that EPOCH_CHK may name, so the command ends before its image is looked at. -/
theorem exec_updateOnHq : exec (.fwUpdate 0) updateOnHq = done (updateOnHq.endCmd updateOf352 St.badParam 0 0) := by
  obtain ⟨hc, hs, hw, ho, hh, hm, -⟩ := updateOnHq_ready
  obtain ⟨k, hk⟩ := exec_opcodeCommand updateOnHq 0 (0x32, .fwUpdate 0) (by simp [opcodeCommands])
  exact hk.trans (congrArg done (runCmd_noUnit hc hs hw ho hh hm rfl rfl))

/-- Refutes O45: a FW_UPDATE during another update, with EPOCH_CHK and TARGET 0, ends with BAD_PARAM, not with NOT_READY. -/
theorem not_firmwareAndLifeCycle : ¬ Obligations.FirmwareAndLifeCycle := by
  unfold Obligations.FirmwareAndLifeCycle
  rintro ⟨hupdate, -⟩
  obtain ⟨-, hother, -⟩ := hupdate updateOnHq 0 updateOf352 updateOnHq_ready rfl
  exact not_gives_endCmd (by decide) exec_updateOnHq (by decide) (hother (by decide +kernel) (by decide +kernel))

end Sys2Proof.Machine
end

section
/-! PROOFS. The refutation of O48. Its clause about SELF_TEST_PASS holds where the compression buffer counts its records outside GLB; in a state whose
buffer names GLB_MODE as their counter, the records that the entry to IDLE drops change the mode. -/

namespace Sys2Proof.Machine

/-- What SELF_TEST_PASS asks of the boot (R46, R435, R457, R459). -/
def State.selfTested (s : State) : Prop :=
  s.booting = true ∧ s.lc ≠ 4 ∧ s.pwr.core = true ∧ s.pwr.time = true ∧ s.pwr.image = true ∧ s.pwr.dram.length = 2 ∧
    s.fld R.PWR_STAT F.PWR_STAT_DRAM_FAIL = 0

theorem exec_selfTestPass {s : State} (ns : Nat) (h : s.selfTested) : exec (.selfTestPass ns) s = done ((s.arrive ns).setMode .idle) :=
  congrArg done (if_pos h)

/-- What O48 says of a boot that has passed holds unless a buffered quality record names a counter in GLB. -/
theorem runs_selfTestPass {s : State} (ns : Nat) (h : s.selfTested) (hd : s.dropsOutsideGlb) :
    Runs (.selfTestPass ns) s fun t => t.mode = .idle := by
  obtain ⟨t, ht, hs⟩ := gives_of_done (exec_selfTestPass ns h)
  have hm : ((s.arrive ns).setMode .idle).mode = .idle := (setMode_movesTo (s.arrive ns) .idle hd).mode
  exact ⟨t, ht, hs.mode.trans hm⟩

/-- The state `strayDrops` in BOOT, when the boot has passed, with GLB_MODE as the counter of the buffered records. No run of the device fills the
buffer so, and none has a frame in progress in BOOT; the statement is about every state. -/
def strayBoot : State :=
  { strayDrops.setFld R.GLB_MODE F.GLB_MODE_MODE Mode.boot.code with
    pwr := { Pwr.reset with core := true, time := true, image := true, dram := [(0, 0, 0), (1, 0, 0)] }
    recd := { Rec.reset with qBuf := List.replicate 127 (R.GLB_MODE, []) } }

theorem strayBoot_selfTested : strayBoot.selfTested := by
  unfold State.selfTested
  decide +kernel

/-- GLB_MODE counts 127 from IDLE, whose code is 1, so that its three bits of MODE read 0. -/
theorem strayBoot_mode : ((strayBoot.arrive 0).setMode .idle).mode = .boot := by decide +kernel

/-- Refutes O48: it speaks of every state, also of one whose compression buffer names GLB_MODE for its records. The frame that ends with the entry to
IDLE fills the buffer, the ring has no room, and the dropped records count into GLB_MODE, which shows BOOT again. For all other states
`runs_selfTestPass` proves the clause. -/
theorem not_resetAndBoot : ¬ Obligations.ResetAndBoot := by
  unfold Obligations.ResetAndBoot
  rintro ⟨-, -, -, -, -, -, -, -, -, -, hpass, -⟩
  obtain ⟨t, ht, hm⟩ := (hpass strayBoot 0).1 strayBoot_selfTested
  have hs := settles_of_exec (exec_selfTestPass 0 strayBoot_selfTested) ht
  rw [hs.mode, strayBoot_mode] at hm
  cases hm

end Sys2Proof.Machine
end
